-- ==== Sys2Proof/Word.lean ====
section
/-! DEFINITION. The word type, bit fields of a word, and sparse maps in canonical form. -/

namespace Sys2Proof

/-- A register of the bus: 32 bits (R4). -/
abbrev Word := BitVec 32

/-- A bit field: its lowest bit and its width (R3). -/
structure Fld where
  lo : Nat
  w : Nat
deriving DecidableEq, Repr

/-- Sparse data by key: pairs in strictly rising key order, without any entry equal to what an unlisted key reads as. -/
abbrev SMap (β : Type) := List (Nat × β)

end Sys2Proof
end

