-- ==== Sys2Proof/Syntax.lean ====
section
/-! DEFINITION. The commands: one constructor per row of the table of operations and events. -/

namespace Sys2Proof

/-- A received packet before any check: its header as received, its payload, the CRC that followed, and whether an IDLE unit cut
it short (R65, R68, R70). -/
structure Pkt where
  hdr : BitVec 64
  payload : List (BitVec 8)
  crc : BitVec 32
  cut : Bool
deriving DecidableEq, Repr

/-- Who makes an access on the bus (R373, R374, R376): a hart with the privilege of the access (M or debug mode), a guardian core, a DMA
channel, the Ethernet MAC, another block, the debug module over JTAG. -/
inductive Master where
  | hart (h : Nat) (priv : Bool)
  | guardian (g : Nat)
  | dma (c : Nat)
  | mac
  | block
  | jtag
deriving DecidableEq, Repr

/-- What one instruction of a core does outside its registers (R365, R366, R369, R371): nothing; a load or a store of n bytes; an atomic
access, which reads n bytes and, if it stores, leaves `v`; a FENCE, with or without its o bit; a write to a block window that takes effect;
a cache-block operation (0 clean, 1 flush, 2 invalidate); a line that the caches evict; an instruction fetch; FENCE.I; a line of the
instruction cache that fails parity; the read of a CSR with, for a write, its new value; a change of mode; WFI; a wake-up; entry to and exit from debug mode; a corrected cache error, one in a dirty
line; an instruction outside R365; a load and a store of a guardian core's private memory. -/
inductive CoreAct where
  | none
  | load (a n : Nat)
  | store (a n v : Nat)
  | amo (a n : Nat) (v : Option Nat)
  | fence (o : Bool)
  | land (k : Nat)
  | cbo (op a : Nat)
  | evict (a : Nat)
  | fetch (a : Nat)
  | fenceI
  | parity (a : Nat)
  | csr (n : Nat) (v : Option Nat)
  | mode (m : Nat)
  | wfi
  | wake
  | debug (halt : Bool)
  | cacheCe
  | cacheUe (a : Nat) (store : Bool)
  | illegal
  | privLoad (o n : Nat)
  | privStore (o n v : Nat)
deriving DecidableEq, Repr

/-- The instructions of an application core: all but the accesses to private memory (R369). -/
def CoreAct.ofHart : CoreAct → Bool
  | .privLoad _ _ => false
  | .privStore _ _ _ => false
  | _ => true

/-- The instructions of a guardian core (R369): RV32IMC, no cache, no debug mode. -/
def CoreAct.ofGuard : CoreAct → Bool
  | .none => true
  | .load _ _ => true
  | .store _ _ _ => true
  | .fence _ => true
  | .fetch _ => true
  | .wfi => true
  | .wake => true
  | .illegal => true
  | .privLoad _ _ => true
  | .privStore _ _ _ => true
  | _ => false

/-- A heartbeat as it comes: a packet of the Clohar link on a quad, or the code groups of HB_RX (R398). -/
inductive HbIn where
  | link (q : Nat) (p : Pkt)
  | pair (groups : List (BitVec 10))
deriving DecidableEq, Repr

/-- The Clohar link stands on Q30 and Q31 (R400). -/
def HbIn.ok : HbIn → Bool
  | .link q _ => q == 30 || q == 31
  | .pair _ => true

/-- The commands of the EG9: one constructor per row of the table of operations and events, each with its row's rule. -/
inductive Instr where
  /-- QUAD_APPLY (R37): QUAD_CMD.APPLY checks QUAD_CTL and, if the configuration passes, takes every lane of the quad
  to DISABLED and brings the quad up under the new role, rate and lane count. -/
  | quadApply (q : Nat)
  /-- QUAD_RETRAIN (R38): QUAD_CMD.RETRAIN repeats the bring-up of every brought-up lane and decides lane order
  again. -/
  | quadRetrain (q : Nat)
  /-- QUAD_PLL_LOCK (R46): The quad PLL locks, so its lanes leave WAIT_PLL, send TRAIN blocks with RX_LOCKED = 0 and
  start the training timer. -/
  | quadPllLock (q : Nat)
  /-- QUAD_PLL_UNLOCK (R46): The quad PLL loses lock, so QUAD_ERR.PLL_UNLOCK is set and every lane of the quad goes
  to WAIT_PLL. -/
  | quadPllUnlock (q : Nat)
  /-- REFCLK_LOSS (R49): SD_REFCLK_A or SD_REFCLK_B stops, so REFCLK_LOSS is set on every quad fed by that clock and
  their PLLs lose lock. -/
  | refclkLoss (b : Bool)
  /-- ACQUIRE_DONE (R46): With SIG_DET present for 1 µs, the CDR locked and the CTLE settled, the lane begins its
  hunt for the block boundary and enters BLOCK_SYNC. -/
  | acquireDone (n : Nat) (ctle : Nat)
  /-- LANE_BLOCK_RX (R39): A 66-bit block is received: its sync header is checked, its payload is descrambled and it
  is passed on; after an invalid header the receiver slips one bit and counts the header in SYNC_ERR. -/
  | laneBlockRx (n : Nat) (hdr : BitVec 2) (payload : BitVec 64)
  /-- HI_BER_CLEAR (R40): The invalid-header count of the last 125 µs falls back to BER_LIMIT or below, so HI_BER
  clears. -/
  | hiBerClear (n : Nat)
  /-- BLOCK_LOCK_ACQUIRED (R40): After 64 consecutive valid sync headers the receiver holds block lock and the lane
  enters TRAIN. -/
  | blockLockAcquired (n : Nat)
  /-- BLOCK_LOCK_LOST (R40): 16 invalid headers within 64 blocks lose block lock; a lane in READY counts LOCK_LOSS,
  sends TRAIN blocks with RX_LOCKED = 0 and returns to ACQUIRE. -/
  | blockLockLost (n : Nat)
  /-- SIGNAL_LOST (R46): SIG_DET stays low for 1 µs in READY, so SIG_LOST is set, LOCK_LOSS counts 1 and the lane
  returns to ACQUIRE. -/
  | signalLost (n : Nat)
  /-- RX_POLARITY_INVERT (R42): After 8 complemented TRAIN blocks in a row the receiver inverts its input and sets
  RX_INV_NOW. -/
  | rxPolarityInvert (n : Nat)
  /-- TRAIN_BLOCK_RX (R41): The lane layer consumes a received TRAIN block, checks that it is consistent and updates
  PEER_LOG and PEER_LOCKED. -/
  | trainBlockRx (n : Nat) (payload : BitVec 64)
  /-- TRAIN_LOCKED (R46): With polarity decided and 16 consecutive consistent TRAIN blocks received, the lane sets
  RX_LOCKED = 1 in the blocks it sends. -/
  | trainLocked (n : Nat)
  /-- LANE_READY (R46): After the 16 TRAIN blocks with GOING_READY = 1 have been sent, the lane stops the timer and
  enters READY. -/
  | laneReady (n : Nat)
  /-- LISTEN_LANE_READY (R409): A lane of a listening quad enters READY once it holds block lock and has received 16
  consistent TRAIN blocks or 4 ALIGN blocks. -/
  | listenLaneReady (n : Nat)
  /-- TRAIN_TIMEOUT (R46): The training timer exceeds TRAIN_TIMEOUT, so the sticky TRAIN_TIMEOUT bit is set and the
  lane restarts from ACQUIRE. -/
  | trainTimeout (n : Nat)
  /-- LANE_RETRAIN (R46): LANE_CMD.RETRAIN sends TRAIN blocks with RX_LOCKED = 0 and restarts this lane from ACQUIRE.
  -/
  | laneRetrain (n : Nat)
  /-- CTLE_TRACK_STEP (R45): In READY with adaptation on, the CTLE may move its code by one step each 1 ms. -/
  | ctleTrackStep (n : Nat) (up : Bool)
  /-- LANE_CTL_WRITE (R59): A write to LANE_CTL changes polarity, swing, loopback or CTLE control; a polarity change
  in READY retrains the lane, and LOOPBACK ≠ 0 enters TEST. -/
  | laneCtlWrite (n : Nat) (v : BitVec 32)
  /-- LANE_FFE_WRITE (R44): A write to LANE_FFE sets the transmit taps from the next block boundary, provided the
  main tap stays at 24 or more. -/
  | laneFfeWrite (n : Nat) (v : BitVec 32)
  /-- PRBS_CTL_WRITE (R52): A write to PRBS_CTL enables or disables the pattern generator and checker, so the lane
  enters or leaves TEST. -/
  | prbsCtlWrite (n : Nat) (v : BitVec 32)
  /-- PRBS_LOCK_GAINED (R52): After 64 error-free bits the PRBS checker gains pattern lock and starts counting. -/
  | prbsLockGained (n : Nat)
  /-- PRBS_LOCK_LOST (R52): After 16 errors within 256 bits the PRBS checker loses lock and re-seeds. -/
  | prbsLockLost (n : Nat)
  /-- INJ_SINGLE (R53): LANE_CMD.INJ_SINGLE requests one flipped bit at the next block or pattern bit. -/
  | injSingle (n : Nat)
  /-- INJ_BURST (R53): LANE_CMD.INJ_BURST requests a burst of BURST_LEN + 1 flipped bits. -/
  | injBurst (n : Nat)
  /-- INJECTION_SENT (R53): The pending error injection is sent on the serial stream, and its command bit clears. -/
  | injectionSent (n : Nat)
  /-- EYE_START (R55): LANE_CMD.EYE_START starts one eye-scan point and abandons any point already running. -/
  | eyeStart (n : Nat)
  /-- EYE_POINT_DONE (R55): An eye-scan point completes: EYE_ERRS is written, VALID is set, SEQ increments and
  TEST_DONE fires. -/
  | eyePointDone (n : Nat) (errs : BitVec 32)
  /-- LANE_CAL_APPLY (R51): A staged CDR-offset and sampler-threshold correction is applied to a lane at a block
  boundary, and any eye-scan point running on it is discarded. -/
  | laneCalApply (n : Nat)
  /-- LINK_WAIT_EXPIRY (R82): LINK_WAIT ms after the first lane of a DOWN port entered READY, the port takes the
  READY lanes as ACTIVE_MASK and sends a STRIPE request. -/
  | linkWaitExpiry (q : Nat)
  /-- STRIPE_ACK_RX (R82): A STRIPE acknowledge with the requested mask, followed by ALIGN and deskew, completes the
  exchange: the port goes from STRIPING to DISCOVER, or a re-stripe ends. -/
  | stripeAckRx (q mask : Nat) (skewNs : Nat)
  /-- STRIPE_REQ_RX (R92): The camera end receives a STRIPE request, switches its receive mask at that column and
  acknowledges. -/
  | stripeReqRx (q mask seq : Nat) (atFrame : Bool) (skewNs : Nat)
  /-- ALIGN_RX (R66): An ALIGN column is received: the lanes are lined up by ALIGN_SEQ, and a listening port takes
  its mask from MASK. -/
  | alignRx (q mask seq : Nat) (logs : List Nat) (skewNs : Nat)
  /-- ALIGN_SEND (R66): The sender inserts an ALIGN column so that no more than 4,096 columns pass between two of
  them. -/
  | alignSend (q : Nat)
  /-- RESTRIPE_TIMEOUT (R89): No STRIPE acknowledge arrives within RESTRIPE_TIMEOUT, so the request is sent again; on
  the third failure STRIPE_TIMEOUT is set and the port goes to FAULT. -/
  | restripeTimeout (q : Nat)
  /-- TRIGGER_SEND (R78): A TRIGGER column for an edge of TP[TPG] leaves SD_TX at the edge + 40 ns − OFFSET, with
  TRIG_SEQ taken from TRIG_NEXT. -/
  | triggerSend (q offset : Nat)
  /-- TRIGGER_RX (R81): A CAMERA_OUT quad receives a TRIGGER column, counts it in TRIG_RX and fires CTRL. -/
  | triggerRx (q : Nat)
  /-- IDLE_UNIT_RX (R65): An IDLE unit is received: it resynchronises packet boundaries, ends any packet it
  interrupts, and resumes delivery after a re-stripe. -/
  | idleUnitRx (q : Nat) (part : Option Pkt)
  /-- UNKNOWN_CTRL_BLOCK_RX (R64): A control block of an unknown type is dropped, counted in DROP_PKT, and sets
  BAD_CTRL. -/
  | unknownCtrlBlockRx (q : Nat) (type : BitVec 8)
  /-- FRAME_START_RX (R74): A FRAME_START packet is received, LAST_FRAME is updated, the tagged-setting and AT_FRAME
  checks are made, and the packet is passed to the front end. -/
  | frameStartRx (q : Nat) (p : Pkt)
  /-- FRAME_END_RX (R74): A FRAME_END packet is received and passed to the front end; a pending STOP ends the port's
  RUN here. -/
  | frameEndRx (q : Nat) (p : Pkt)
  /-- LINE_START_RX (R80): A LINE_START packet is received: LINE_TIME is set from the trigger ring or from the
  arrival time, and the packet is passed to the front end. -/
  | lineStartRx (q : Nat) (p : Pkt)
  /-- LINE_END_RX (R74): A LINE_END packet is received and passed to the front end with its CRC result; OVERRUN is
  counted. -/
  | lineEndRx (q : Nat) (p : Pkt)
  /-- PIXEL_PACKET_RX (R75): A pixel packet on STREAM_VC is received and passed to the front end before its CRC has
  been checked. -/
  | pixelPacketRx (q : Nat) (p : Pkt)
  /-- RING_PACKET_RX (R95): A METADATA, FIRN, DEFECT_REC, CLASS4 or other-VC packet is written to the receive ring,
  or dropped into RING_DROP. -/
  | ringPacketRx (q : Nat) (p : Pkt)
  /-- CTRL_RESP_RX (R87): A CTRL_RESP completes a backchannel transaction or a descriptor read, or arrives late and
  is dropped. -/
  | ctrlRespRx (q : Nat) (p : Pkt)
  /-- SET_ACK_RX (R88): A SET_ACK records the status and EFFECT_FRAME of a tagged setting, and schedules the bank
  switch or marks it late. -/
  | setAckRx (q : Nat) (p : Pkt)
  /-- NULL_PACKET_RX (R73): A received NULL packet is discarded. -/
  | nullPacketRx (q : Nat) (p : Pkt)
  /-- BAD_PACKET_RX (R96): A packet with an uncorrectable header, a reserved DT, the wrong end, a bad LEN, a SEQ
  repeat or an unknown TAG is dropped and counted. -/
  | badPacketRx (q : Nat) (p : Pkt)
  /-- HOST_REQUEST_RX (R85): A CAMERA_IN quad that receives a request answers NO_REG, or REFUSED for SET_TAGGED. -/
  | hostRequestRx (q : Nat) (p : Pkt)
  /-- CTRL_WRITE_RX (R92): A CAMERA_OUT quad answers a CTRL_WRITE, taking only STREAM_CTL.RUN. -/
  | ctrlWriteRx (q : Nat) (p : Pkt)
  /-- CTRL_READ_RX (R92): A CAMERA_OUT quad answers a CTRL_READ from TX_DESC or the registers of R84. -/
  | ctrlReadRx (q : Nat) (p : Pkt)
  /-- SET_TAGGED_RX (R92): A CAMERA_OUT quad answers SET_TAGGED with REFUSED. -/
  | setTaggedRx (q : Nat) (p : Pkt)
  /-- CTRL_TIMEOUT (R87): No CTRL_RESP arrives within CTRL_TIMEOUT: STATUS reads 0xFF, CTRL_TIMEOUTS counts 1, and a
  descriptor read retries or fails after three tries. -/
  | ctrlTimeout (q : Nat) (desc : Bool)
  /-- PORT_START (R82): PORT_CMD.START takes a LINKED port to RUN, with delivery from the next FRAME_START. -/
  | portStart (q : Nat)
  /-- PORT_STOP (R82): PORT_CMD.STOP ends delivery after the next FRAME_END and clears WAS_RUN. -/
  | portStop (q : Nat)
  /-- PORT_RESET_LINK (R82): PORT_CMD.RESET_LINK takes a FAULT port to DOWN. -/
  | portResetLink (q : Nat)
  /-- PORT_REDISCOVER (R82): PORT_CMD.REDISCOVER reads the descriptor again without interrupting the stream. -/
  | portRediscover (q : Nat)
  /-- PORT_LANE_LOST (R89): An active lane leaves READY while another remains, so the port sends a STRIPE request
  with the surviving mask and stops delivery. -/
  | portLaneLost (q : Nat)
  /-- PORT_LANE_RETURN (R91): A lane returns to READY on a LINKED or RUN port, so the port sends an AT_FRAME STRIPE
  request with the enlarged mask. -/
  | portLaneReturn (q : Nat)
  /-- ALL_LANES_LOST (R82): Every active lane has left READY, so LINK_LOST is set, WAS_RUN is recorded and the port
  goes to DOWN. -/
  | allLanesLost (q : Nat)
  /-- BC_GO (R87): BC_CMD.GO sends one backchannel CTRL_WRITE or CTRL_READ to the camera. -/
  | bcGo (q : Nat)
  /-- TS_GO (R88): TS_CMD.GO sends SET_TAGGED with TARGET_FRAME = LAST_FRAME + PORT_LAT. -/
  | tsGo (q : Nat)
  /-- STREAM_OUT_SEND (R92): A CAMERA_OUT port sends the next packet of an enabled OUT_VC stream while RUN = 1. -/
  | streamOutSend (q v : Nat)
  /-- FE_APPLY (R101): FE_CMD.APPLY checks FORMAT, GEOM and SRC and, if they pass, sets APPLY_PENDING; a change of
  QUAD releases the old quad. -/
  | feApply (n : Nat)
  /-- FE_SWITCH_NEXT (R118): FE_CMD.SWITCH_NEXT requests a bank switch at the next FRAME_START. -/
  | feSwitchNext (n : Nat)
  /-- TAB_INIT (R109): FE_CMD.TAB_INIT starts filling every correction-table entry with 0x0000_4000. -/
  | tabInit (n : Nat)
  /-- TAB_INIT_DONE (R109): The table fill ends after 32,768 CLK_PIX cycles, and TAB_READY reads 1. -/
  | tabInitDone (n : Nat)
  /-- TAB_DATA_WRITE (R109): A write to TAB_DATA stores the entry at TAB_ADDR and increments TAB_ADDR; during
  TAB_INIT it is ignored and sets CFG_ERR. -/
  | tabDataWrite (n : Nat) (v : BitVec 32)
  /-- FE_CTL_WRITE (R100): A write to FE_CTL enables the front end from the next FRAME_START, or disables it at once
  and closes any open line and frame. -/
  | feCtlWrite (n : Nat) (v : BitVec 32)
  /-- FE_FRAME_START (R107): The front end opens a frame: it applies a pending APPLY, takes FRAME_NO, checks
  continuity and geometry, decides the bank and fires FRAME. -/
  | feFrameStart (n : Nat)
  /-- FE_LINE_START (R103): The front end accepts or refuses a LINE_START, counting skipped lines as missing. -/
  | feLineStart (n : Nat)
  /-- FE_PIXEL_PACKET (R104): The front end places the samples of a pixel packet into the open line and flags gaps,
  long lines, CRC failures and DT mismatches. -/
  | fePixelPacket (n count : Nat)
  /-- FE_LINE_END (R102): A LINE_END closes the open line with its flags, or with NO_END if it does not match the
  line or its CRC failed. -/
  | feLineEnd (n : Nat)
  /-- FE_FRAME_END (R102): A FRAME_END closes the frame, and the front end waits for a FRAME_START. -/
  | feFrameEnd (n : Nat)
  /-- LINE_TIMEOUT (R102): LINE_TIMEOUT ns after its LINE_START, an open line is closed with LATE. -/
  | lineTimeout (n : Nat)
  /-- WINDOW_WAIT_TIMEOUT (R113): An awaited reconstruction-window line counts as missing because no LINE_START has
  arrived for LINE_TIMEOUT. -/
  | windowWaitTimeout (n : Nat)
  /-- FE_LINE_OUT (R117): A corrected line, with its triple, flags and bank, leaves the front end for stitching. -/
  | feLineOut (n : Nat)
  /-- STAT_RECORD_WRITE (R122): The frame's statistics record is written to the ring slot, STAT_WR advances and STATS
  fires. -/
  | statRecordWrite (n : Nat)
  /-- STAT_OUT_HOLD_EXPIRY (R122): A stream-out copy of a record held back for more than one frame period is dropped
  into STAT_OUT_DROP. -/
  | statOutHoldExpiry (n q v : Nat)
  /-- VIEW_APPLY (R126): VIEW_CMD.APPLY checks the view configuration and, if it passes, applies it at once,
  discarding open rows and putting the view in WAIT or OFF. -/
  | viewApply (v : Nat)
  /-- VIEW_SWAP (R141): VIEW_CMD.SWAP sets SWAP_PENDING, so that the table changes at the next row that starts a
  frame of the view. -/
  | viewSwap (v : Nat)
  /-- VIEW_CANCEL_SWAP (R141): VIEW_CMD.CANCEL_SWAP clears a pending swap. -/
  | viewCancelSwap (v : Nat)
  /-- STITCH_TAB_LO_WRITE (R140): A write to STITCH.TAB_LO stages bits [31:0] of a pool entry. -/
  | stitchTabLoWrite (v : BitVec 32)
  /-- STITCH_TAB_HI_WRITE (R140): A write to STITCH.TAB_HI stores the staged entry at TAB_ADDR and increments
  TAB_ADDR. -/
  | stitchTabHiWrite (v : BitVec 32)
  /-- STITCH_LINE_IN (R128): A corrected line reaches the stitch engine: it opens row 0 in WAIT, or matches a row by
  LINE_TIME, or is discarded. -/
  | stitchLineIn (n stalls : Nat)
  /-- ROW_DEADLINE (R129): A row still incomplete at its deadline is emitted with TIMED_OUT and its missing segments
  are padded. -/
  | rowDeadline (v stalls : Nat)
  /-- DRIFT_ROW_IN (R144): A row enters Drift: the coverage test runs, the state is updated on update rows, and the
  row leaves with its reference and COVERED bits. -/
  | driftRowIn (v : Nat)
  /-- DRIFT_SEED (R147): DRIFT_CMD.SEED requests a seed on the next row. -/
  | driftSeed (v : Nat)
  /-- DRIFT_PROBE (R150): DRIFT_CMD.PROBE requests a capture of column PROBE_COL on the next row. -/
  | driftProbe (v : Nat)
  /-- DRIFT_FREEZE_EVENT (R146): An event on the view's Drift freeze input loads FREEZE_ROWS into the freeze count.
  -/
  | driftFreezeEvent (v : Nat)
  /-- DRIFT_CTL_WRITE (R148): A write to DRIFT_CTL changes the preset, the freezes or the coverage settings from the
  next row; EN going from 0 to 1 seeds. -/
  | driftCtlWrite (v : Nat) (x : BitVec 32)
  /-- HEARTH_ROW_DELIVER (R162): A row's stripe is written into its context's ring slot, or dropped if the slot is
  still held or the context is halted. -/
  | hearthRowDeliver (t c : Nat)
  /-- SPILL_REPLAY_ROW (R168): A spilled row is read back into a context slot during a replay. -/
  | spillReplayRow (t c : Nat)
  /-- CTX_FRAME_ENTRY (R163): A context runs ENTRY_FRAME before the row entry of a FRAME_FIRST row, or after an APPLY
  or RESUME. -/
  | ctxFrameEntry (t c : Nat)
  /-- CTX_ROW_ENTRY (R163): A context runs ENTRY_ROW for row r once row r + L_H stands in its ring, or row r is the
  last row of its frame. -/
  | ctxRowEntry (t c : Nat)
  /-- WDOG_EXPIRY (R164): An invocation exceeds WDOG cycles, so the context halts with FAULT code 4. -/
  | wdogExpiry (t c : Nat)
  /-- CTX_RESUME (R164): CTX_CMD.RESUME restarts a halted context at the next FRAME_FIRST row, with ENTRY_FRAME. -/
  | ctxResume (t c : Nat)
  /-- CTX_CONTINUE (R164): CTX_CMD.CONTINUE resumes a code-5 halt at the word that CTX_PC holds. -/
  | ctxContinue (t c : Nat)
  /-- CTX_HALT (R164): CTX_CMD.HALT stops a running context with code 5 after the word in issue. -/
  | ctxHalt (t c : Nat)
  /-- GROUP_APPLY (R174): GCMD.APPLY checks the group and, if it passes, rebinds the contexts at once, discards held
  rows, cuts fragments and empties the spill areas. -/
  | groupApply (g : Nat)
  /-- SWAP_PROG (R173): GCMD.SWAP_PROG checks PROG_NEXT and ENTRY_NEXT and sets SWAP_PENDING. -/
  | swapProg (g : Nat)
  /-- SWAP_CLUT (R173): GCMD.SWAP_CLUT requests a CLUT bank swap at each context's next frame. -/
  | swapClut (g : Nat)
  /-- GROUP_CANCEL_SWAP (R173): GCMD.CANCEL_SWAP clears a swap that no context has yet taken. -/
  | groupCancelSwap (g : Nat)
  /-- FRAGMENT_QUEUE_DRAIN (R170): The fragment network takes one record from a tile's queue and sends it towards
  Moraine. -/
  | fragmentQueueDrain (t : Nat)
  /-- CLASS_ROW_RELEASE (R171): A CLASS4 row is released once every CLASS_EN stripe has finished or dropped that row.
  -/
  | classRowRelease (v : Nat)
  /-- IMEM_WRITE (R172): A write to IMEM, direct or broadcast, is stored unless it falls in a protected program
  range. -/
  | imemWrite (t : Nat) (bc : Bool) (i : Nat) (w : BitVec 32)
  /-- CLUT_WRITE (R172): A write to the CLUT bank not in force is stored, or ignored during a swap. -/
  | clutWrite (t : Nat) (bc : Bool) (i : Nat) (w : BitVec 32)
  /-- LINE_STORE_WRITE (R172): A write to the line store is taken only while the tile's group is OFF. -/
  | lineStoreWrite (t i : Nat) (w : BitVec 32)
  /-- HORIZON_TIMEOUT (R205): HORIZON_NS after a row left Drift, the horizon advances to it and HORIZON_TIMEOUT is
  set. -/
  | horizonTimeout (v : Nat)
  /-- FUSION_WINDOW_EXPIRY (R212): A WAIT side's fusion window closes, so it is decided alone with PARTNER_MISSED and
  MISSED fires. -/
  | fusionWindowExpiry (e : Nat)
  /-- ENTRY_RETIRE (R224): A DECIDED entry retires to FREE when network time reaches EJECT_TIME + PULSE_US × 1,000.
  -/
  | entryRetire (e : Nat)
  /-- UPSTREAM_FRAME_RX (R244): A valid upstream frame is copied to the link registers, acknowledges its frame, and
  may bring the link UP. -/
  | upstreamFrameRx (l sof : Nat) (groups : List (BitVec 10))
  /-- UPSTREAM_WINDOW_CLOSE (R241): The upstream window of a slot closes without a valid acknowledge: the frame's
  actions become unsent, and after 3 slots the link drops to SYNCING. -/
  | upstreamWindowClose (l : Nat)
  /-- BCTL_WRITE (R250): A write to BCTL changes the mode; going from SHADOW to LIVE puts the links in SYNCING and
  marks queued actions unsent. -/
  | bctlWrite (v : Word)
  /-- LCTL_WRITE (R247): A write to LCTL enables or disables a link, or sets CABLE_NS. -/
  | lctlWrite (l : Nat) (v : Word)
  /-- LINK_RESYNC (R247): LCMD.RESYNC returns the link to SYNCING. -/
  | linkResync (l : Nat)
  /-- HALL_EDGE (R258): A qualified change of the Hall state is scored into POS and the speed estimator. -/
  | hallEdge (n h run sub : Nat)
  /-- INDEX_EVENT (R261): A qualified HZ edge captures POS into IDX_CAPT and may reset POS and set HOMED. -/
  | indexEvent (n : Nat) (level : Bool) (run sub : Nat)
  /-- FB_SPEED_REFRESH (R263): On each 1 µs tick, SPEED is refreshed and decays when the time since the last edge
  exceeds the last interval. -/
  | fbSpeedRefresh (n : Nat)
  /-- SPEED_TIMEOUT (R264): SPEED_TIMEOUT µs without an edge set SPEED to 0 and the estimator to STILL. -/
  | speedTimeout (n : Nat)
  /-- FB_SET_POS (R260): FB CMD.SET_POS loads POS from POS_SET. -/
  | fbSetPos (n : Nat)
  /-- ARM_INDEX (R261): CMD.ARM_INDEX sets IDX_ARMED. -/
  | armIndex (n : Nat)
  /-- DISARM_INDEX (R261): CMD.DISARM_INDEX clears IDX_ARMED. -/
  | disarmIndex (n : Nat)
  /-- FB_CTL_WRITE (R265): A write to FB CTL; EN going from 0 to 1 takes the present Hall state as reference and
  clears HOMED. -/
  | fbCtlWrite (n : Nat) (v : Word)
  /-- AXIS_TICK (R272): On each 1 µs tick the axis updates POS and VEL from its move, ramp or gearing, and checks
  stalls and limits. -/
  | axisTick (a : Nat)
  /-- CHOP_UPPER_REACHED (R268): CS_x reaches the upper threshold, and the phase begins to decay. -/
  | chopUpperReached (a : Nat) (b : Bool) (cs : Int)
  /-- CHOP_LOWER_REACHED (R268): CS_x falls to the lower threshold, ending the decay. -/
  | chopLowerReached (a : Nat) (b : Bool) (cs : Int)
  /-- CHOP_DRIVE_START (R268): A new drive phase begins, no sooner than 1/FMAX after the last; a staged comparator
  calibration applies here. -/
  | chopDriveStart (a : Nat) (b : Bool)
  /-- CHOP_BLANK_END (R268): BLANK × 20 ns after an output change, the comparator is heeded again. -/
  | chopBlankEnd (a : Nat) (b : Bool)
  /-- HOLD_DELAY_EXPIRY (R267): POS unchanged for HOLD_DELAY ms puts hold current in force. -/
  | holdDelayExpiry (a : Nat)
  /-- LIMIT_ASSERT (R278): A qualified limit assertion latches, counts in LIMIT_TRIPS and fires FAULT. -/
  | limitAssert (a : Nat) (hi level : Bool) (run : Nat)
  /-- LIMIT_DEASSERT (R278): A limit input's qualified level becomes inactive. -/
  | limitDeassert (a : Nat) (hi level : Bool) (run : Nat)
  /-- PUSH (R273): AX CMD.PUSH copies MOVE into the axis's queue, or refuses it. -/
  | push (a : Nat)
  /-- AX_STOP_CMD (R275): AX CMD.STOP is a stop request: a stop ramp and a flush of the queue. -/
  | axStopCmd (a : Nat)
  /-- ESTOP (R275): CMD.ESTOP sets velocity to 0 at once, flushes the queue and holds current. -/
  | estop (a : Nat)
  /-- HOME (R279): CMD.HOME starts the homing search. -/
  | home (a : Nat)
  /-- CLR_LIM (R278): CMD.CLR_LIM clears each limit latch whose input is inactive. -/
  | clrLim (a : Nat)
  /-- AX_SET_POS (R285): AX CMD.SET_POS loads POS from POS_SET in IDLE or OFF. -/
  | axSetPos (a : Nat)
  /-- GEAR_ON (R281): CMD.GEAR_ON makes the axis follow its master channel. -/
  | gearOn (a : Nat)
  /-- GEAR_ARM (R282): CMD.GEAR_ARM arms GEAR_NEXT at GEAR_AT, applying it at once if that position is already
  passed. -/
  | gearArm (a : Nat)
  /-- GEAR_CANCEL (R282): CMD.GEAR_CANCEL disarms the armed change. -/
  | gearCancel (a : Nat)
  /-- STALL_REARM (R280): CMD.STALL_REARM latches a new stall reference. -/
  | stallRearm (a : Nat)
  /-- AX_GO (R273): An event on the AX_GO input acts as PUSH. -/
  | axGo (a : Nat)
  /-- AX_STOP (R275): An event on the AX_STOP input is a stop request. -/
  | axStop (a : Nat)
  /-- AX_CTL_WRITE (R275): A write to AX CTL; EN written 1 energises the axis, and EN written 0 turns it OFF. -/
  | axCtlWrite (a : Nat) (v : Word)
  /-- TRAINING_DONE (R300): A channel's training ends, passed or failed, and TRAINED fires. -/
  | trainingDone (n : Nat) (rd wr : List Word) (ecc : Bool)
  /-- MC_CTL_WRITE (R301): A write to MC.CTL; EN = 1 before INIT_DONE is ignored and sets CFG_ERR. -/
  | mcCtlWrite (v : Word)
  /-- EVAC (R303): CH_CMD.EVAC starts migrating an ACTIVE channel's data into the reserve. -/
  | evac (n : Nat)
  /-- EVAC_CANCEL (R303): CH_CMD.CANCEL abandons an evacuation and migrates back the blocks already moved. -/
  | evacCancel (n : Nat)
  /-- CH_TRAIN (R304): CH_CMD.TRAIN retrains an EVACUATED channel at its next refresh. -/
  | chTrain (n : Nat)
  /-- REFILL (R303): CH_CMD.REFILL migrates the data back onto an EVACUATED channel. -/
  | refill (n : Nat)
  /-- RETIRE (R303): CH_CMD.RETIRE retires an EVACUATED channel. -/
  | retire (n : Nat)
  /-- REFRESH_DUE (R297): A refresh interval tREFI elapses: the refresh is issued or postponed, and DEBT counts it.
  -/
  | refreshDue (n : Nat)
  /-- REFRESH_ISSUE (R297): An all-bank refresh is issued; staged PHY calibration and pending in-service training
  take effect here. -/
  | refreshIssue (n : Nat)
  /-- CHANNEL_TEMP_SAMPLE (R298): The channel temperature is sampled every 100 µs; above 85 °C the channel enters the
  hot zone. -/
  | channelTempSample (n : Nat)
  /-- HOT_ZONE_EXIT (R298): After one full normal refresh window at or below 85 °C, the channel returns to the normal
  zone. -/
  | hotZoneExit (n : Nat)
  /-- DEV_TEMP_WRITE (R298): Software writes DEV_TEMP from a board sensor. -/
  | devTempWrite (n : Nat) (v : Word)
  /-- DEV_TEMP_STALE (R298): DEV_TEMP not written for 100 ms counts as hot and sets TEMP_STALE. -/
  | devTempStale (n : Nat)
  /-- MEM_REQUEST (R296): A request reaches a channel queue, after its address is decoded through the permutation
  table. -/
  | memRequest (tag addr len : Nat) (wr : Bool) (data : List (BitVec 8))
  /-- MEM_COMMAND_ISSUE (R296): In a command slot the controller issues the first eligible command of the priority
  classes. -/
  | memCommandIssue (n : Nat)
  /-- MEM_READ_DONE (R289): Read data returns with SECDED checking: corrected, or reported with an error response. -/
  | memReadDone (n ecc w : Nat)
  /-- ROW_IDLE_CLOSE (R288): A row not accessed for 64 CLK_MC cycles is closed. -/
  | rowIdleClose (n b : Nat)
  /-- REFRESH_WINDOW_BOUNDARY (R299): At each refresh-window boundary every disturbance table is emptied. -/
  | refreshWindowBoundary (n : Nat)
  /-- MIGRATE_BLOCK (R305): One 64-byte block is copied at MIGRATE_RATE and MIG_PTR advances; the last block
  completes the evacuation or refill. -/
  | migrateBlock (n : Nat) (ue : Option Nat)
  /-- DMA_START (R317): CH_CMD.START in IDLE fetches the descriptor at DESC. -/
  | dmaStart (c : Nat)
  /-- DMA_ABORT (R317): CH_CMD.ABORT stops a channel, with a residue write-back from RUNNING. -/
  | dmaAbort (c : Nat)
  /-- DMA_RESUME (R319): CH_CMD.RESUME continues a HALTED channel from the failing access. -/
  | dmaResume (c : Nat)
  /-- DOORBELL_RING (R315): DOORBELL.RING makes a parked channel read NEXT again, or sets DB_PEND. -/
  | doorbellRing (c : Nat)
  /-- DMA_CH_CTL_WRITE (R317): A write to CH_CTL; EN written 0 acts as ABORT. -/
  | dmaChCtlWrite (c : Nat) (v : Word)
  /-- DMA_TRIGGER_INPUT (R315): An event on a channel's consumer input acts as RING when TRIG_DB = 1. -/
  | dmaTriggerInput (c : Nat)
  /-- DESC_FETCH_DONE (R312): A fetched descriptor is checked and then starts moving elements. -/
  | descFetchDone (c : Nat)
  /-- DMA_ELEMENT_ISSUE (R311): A channel issues the next element read in loop order. -/
  | dmaElementIssue (ready : BitVec 32)
  /-- DMA_READ_DATA (R311): Data of an element read returns, and the element write issues. -/
  | dmaReadData (c : Nat)
  /-- DMA_WRITE_ACK (R313): An element write is acknowledged; the last one completes the descriptor. -/
  | dmaWriteAck (c k : Nat)
  /-- NEXT_READ_DONE (R313): The NEXT word is read: the channel follows the chain or parks. -/
  | nextReadDone (c : Nat)
  /-- DMA_ERROR_RESPONSE (R319): An error response halts the channel and captures the address, direction and residue.
  -/
  | dmaErrorResponse (c dir k : Nat)
  /-- FIRN_START (R334): ECMD.START lets a STOPPED engine take jobs again. -/
  | firnStart (e : Nat)
  /-- FIRN_ABORT (R334): ECMD.ABORT ends the running job ABORTED at its next code boundary. -/
  | firnAbort (e : Nat)
  /-- DROP_CTX (R330): ECMD.DROP_CTX invalidates the resident context. -/
  | dropCtx (e : Nat)
  /-- FIRN_ECTL_WRITE (R334): A write to ECTL; EN = 0 stops the engine after its running job. -/
  | firnEctlWrite (e : Nat) (v : Word)
  /-- JOB_WR_WRITE (R324): A write to JOB_WR publishes new jobs in the engine's ring. -/
  | jobWrWrite (e : Nat) (v : Word)
  /-- FIRN_JOB_START (R326): The engine starts the job at JOB_RD: it checks the job and sets up or loads the stream
  state. -/
  | firnJobStart (e : Nat)
  /-- FIRN_JOB_END (R327): A job ends with its status, writes back its results and advances JOB_RD, or stops the
  engine. -/
  | firnJobEnd (e fault : Nat)
  /-- FIRN_PACKET_SEND (R333): A FIRN packet of a finished job's output goes to its stream-out port, or is discarded.
  -/
  | firnPacketSend (e stall : Nat)
  /-- INCR_NS_WRITE (R347): A write of INCR_NS takes a new increment into use with the staged INCR_FRAC, if it is in
  range. -/
  | incrNsWrite (v : Word)
  /-- CAPTURE (R351): An event on a capture unit's consumer input records the time base. -/
  | capture (i : Nat)
  /-- ETH_LINK_STATUS (R340): The RGMII in-band status changes link, speed or duplex. -/
  | ethLinkStatus (link : Bool) (speed : Nat) (full : Bool)
  /-- TX_WR_WRITE (R343): A write to TX_WR publishes transmit descriptors. -/
  | txWrWrite (v : Word)
  /-- RX_FRAME (R344): A received frame is filtered, time-stamped and written to the receive ring, or dropped. -/
  | rxFrame (frame : List (BitVec 8)) (fcsOk : Bool) (age : Nat)
  /-- MDIO_GO (R346): MDIO_CMD.GO starts an MDIO frame. -/
  | mdioGo (v : Word)
  /-- MDIO_DONE (R346): An MDIO frame completes, and MDIO_DONE fires. -/
  | mdioDone (data : BitVec 16)
  /-- TP_ARM (R355): TCMD.ARM latches the generator parameters and arms it, or refuses invalid parameters. -/
  | tpArm (k : Nat)
  /-- TP_STOP (R355): TCMD.STOP ends the generator after the current or next pulse. -/
  | tpStop (k : Nat)
  /-- TP_ABORT (R355): TCMD.ABORT idles the output at once. -/
  | tpAbort (k : Nat)
  /-- TP_START_INPUT (R355): An event on the start input of an ARMED generator in START_MODE 1 starts the series. -/
  | tpStartInput (k : Nat)
  /-- TP_EDGE_COMPUTE (R354): An edge is computed at least 256 ns ahead and handed to ACT, or skipped if too late. -/
  | tpEdgeCompute (k : Nat)
  /-- TP_LEADING_EDGE (R353): A pulse's leading edge is output, EDGE fires and PULSES counts 1. -/
  | tpLeadingEdge (k : Nat)
  /-- TP_TRAILING_EDGE (R353): A pulse's trailing edge is output; the series may end here, and a staged tap
  calibration applies. -/
  | tpTrailingEdge (k : Nat)
  /-- CHANNEL_EVENT_ARRIVE (R360): A source pulse reaches a channel and is delivered, or held as pending within
  MIN_GAP. -/
  | channelEventArrive (n : Nat)
  /-- PENDING_EVENT_DELIVER (R360): MIN_GAP cycles after the last delivery, a pending channel event is delivered. -/
  | pendingEventDeliver (n : Nat)
  /-- CH_FIRE (R361): A write to CH_FIRE fires the channels named. -/
  | chFire (i : Nat) (v : Word)
  /-- SW_FIRE (R361): A write to SW_FIRE fires software sources 1216–1279. -/
  | swFire (i : Nat) (v : Word)
  /-- EVF_ROUTE_WRITE (R363): A write to CH_CTL or CONS changes routing from the next CLK_PER cycle. -/
  | evfRouteWrite (m : Master) (cons : Bool) (i : Nat) (v : Word)
  /-- ROUTE_LOCK (R363): LOCK.ROUTE makes CH_CTL and CONS read-only until power-on reset. -/
  | routeLock (m : Master)
  /-- CORE_CTL_WRITE (R368): A masked write to CORE_CTL.RUN releases or resets application harts. -/
  | coreCtlWrite (m : Master) (v : Word)
  /-- MTIMER_PENDING (R367): MTIME reaches MTIMECMP[h], so the hart's machine timer interrupt is pending. -/
  | mtimerPending (h : Nat)
  /-- HART_INSTRUCTION (R365): An application core executes one RISC-V instruction. -/
  | hartInstruction (h : Nat) (act : CoreAct)
  /-- GUARD_INSTRUCTION (R369): A guardian core executes one RV32IMC instruction. -/
  | guardInstruction (g : Nat) (act : CoreAct)
  /-- TV_SCRUB (R381): Every 1 µs every TV field's copies are compared and a differing copy is rewritten. -/
  | tvScrub (upsets : List (Nat × Nat × Word))
  /-- TO_APP (R370): DOORBELL.TO_APP fires source 50 for the application cores. -/
  | toApp (m : Master)
  /-- IRQ_COMPLETE (R388): A write to COMPLETE[t] clears the named source's PEND bit. -/
  | irqComplete (m : Master) (t id : Nat)
  /-- SRAM_ACCESS (R390): An access to system SRAM is checked by SECDED: corrected, or returned with an error
  response. -/
  | sramAccess (m : Master) (a n : Nat) (data : Option (List (BitVec 8))) (ecc : Nat)
  /-- BUS_ACCESS_UNMAPPED (R26): An access outside every window gets an error response and is recorded as a decode
  error. -/
  | busAccessUnmapped (m : Master) (a : Nat)
  /-- REGISTER_WRITE (R378): A write to a register with no row of its own acts under its access type. -/
  | registerWrite (m : Master) (a : Nat) (v : Word)
  /-- TCTL_WRITE (R395): A write to TWIN.TCTL; EN moves the device between SOLO and UNPAIRED. -/
  | tctlWrite (v : Word)
  /-- ACT_IN_CHANGE (R396): The qualified ACT_IN level changes, which can end a claim or make an ACTIVE device yield.
  -/
  | actInChange (level : Bool)
  /-- HEARTBEAT_RX (R399): A valid heartbeat restarts the silence timer and updates the partner status; a FAREWELL
  starts takeover. -/
  | heartbeatRx (f : HbIn)
  /-- HEARTBEAT_MISS (R399): A 20 µs period without a valid heartbeat counts in HB_x_MISS. -/
  | heartbeatMiss (path : Nat)
  /-- PATH_SILENT (R399): A path silent for 100 µs clears HB_x_OK, sets HB_x_LOST and fires PARTNER. -/
  | pathSilent (path : Nat)
  /-- DECIDE_RX (R403): The standby holds a received DECIDE record until its CYCLE_END. -/
  | decideRx (q : Nat) (p : Pkt)
  /-- CYCLE_END_RX (R405): The standby checks a CYCLE_END, applies the cycle's records and acknowledges, or discards
  them and asks to resynchronise. -/
  | cycleEndRx (q : Nat) (p : Pkt)
  /-- MIRROR_ACK_RX (R402): The active receives the acknowledge of a mirror cycle. -/
  | mirrorAckRx (q : Nat) (p : Pkt)
  /-- CHECK_RX (R408): The standby compares received check-block entries with its own. -/
  | checkRx (q : Nat) (p : Pkt)
  /-- RESYNC_REQ_RX (R405): The active answers RESYNC_REQ with a dump and descriptor reads. -/
  | resyncReqRx (q : Nat) (p : Pkt)
  /-- USER_RX (R401): A received USER packet is copied to USER_RX, and USER_RX fires. -/
  | userRx (q : Nat) (p : Pkt)
  /-- TEMP_SAMPLE (R416): Each die sensor is sampled every 100 µs, which may trigger calibration, the overtemperature
  alarm or a thermal reset. -/
  | tempSample (i : Nat) (reading : BitVec 16) (valid : Bool)
  /-- CAL_RUN (R417): CCMD.RUN requests a calibration run of a domain. -/
  | calRun (d : Nat)
  /-- CAL_RUN_START (R420): The calibration engine starts a domain's run: it reads the sensor and measures EXT_RES
  and the units. -/
  | calRunStart (temp : BitVec 16)
  /-- CAL_STAGED (R420): A domain's corrections are computed and staged for the units' safe points. -/
  | calStaged (res : BitVec 16) (failed : List Nat)
  /-- VDD_CORE_WARN (R423): VDD_CORE below WARN for 1 µs sets WARN_NOW, and SUPPLY_WARN fires. -/
  | vddCoreWarn (mv : Nat)
  /-- VDD_CORE_WARN_CLEAR (R423): VDD_CORE at or above WARN + 10 mV for 1 µs clears WARN_NOW. -/
  | vddCoreWarnClear (mv : Nat)
  /-- VDD_CORE_UV (R423): VDD_CORE below 0.665 V for 1 µs resets the main domain with CORE_UV. -/
  | vddCoreUv (mv : Nat)
  /-- RAIL_LOW (R423): VDD_SD, VDD_SDH or VDD_MIO below 90 % sets its RAIL_LOW bit. -/
  | railLow (r : Nat)
  /-- RAIL_LOW_CLEAR (R423): The rail returns to 92 % or more. -/
  | railLowClear (r : Nat)
  /-- AON_FEED_LOW (R423): An always-on feed below 0.720 V clears AON_x_OK and sets AON_x_LOST. -/
  | aonFeedLow (x : Nat)
  /-- AON_FEED_OK (R423): An always-on feed at or above 0.740 V sets AON_x_OK. -/
  | aonFeedOk (x : Nat) (oneMs twinId : Bool)
  /-- FEED_SENSE_LOW (R423): FEED_SENSE_x below FEED_THR clears FEED_x_OK and sets FEED_x_LOST. -/
  | feedSenseLow (x mv : Nat)
  /-- FEED_SENSE_OK (R423): FEED_SENSE_x at or above FEED_THR + 10 mV sets FEED_x_OK. -/
  | feedSenseOk (x mv : Nat)
  /-- BLOCK_STICKY_CLEAR (R428): A write of 1 to a BLOCK_STICKY bit clears it and rearms that block's FIRST capture.
  -/
  | blockStickyClear (v : Word)
  /-- POR_RELEASE (R434): The island leaves power-on reset, samples TWIN_ID, and its guardian cores start their
  island ROMs. -/
  | porRelease (twinId : Bool)
  /-- MAIN_RESET_RELEASE (R434): The main domain leaves reset: the straps are sampled, the PLL relocks, registers
  reset and hart 0 starts. -/
  | mainResetRelease (bootMode : Nat)
  /-- RST_REQ (R446): QSPI.RST_REQ with its KEY resets the main domain within 1 µs with SOFT. -/
  | rstReq (v : Word)
  /-- BOOT_ROM_RUN (R439): Hart 0 runs the boot ROM: it loads and checks an image, hands on the guardian sections and
  jumps to APP_ENTRY. -/
  | bootRomRun (slotA slotB uart : Option (List (BitVec 8))) (sfdp long : Bool) (us : Nat)
  /-- ISLAND_ROM_LOAD (R441): A waiting guardian island ROM takes its section from system SRAM, checks the digest and
  jumps to it. -/
  | islandRomLoad (g : Nat)
  /-- QSPI_DONE (R446): A flash transaction completes, and QDONE fires. -/
  | qspiDone (data : List (BitVec 8)) (busErr : Bool)
  /-- UART_TX_PUSH (R447): UCMD.TX_PUSH appends UTX to the transmit FIFO. -/
  | uartTxPush (i : Nat)
  /-- UART_RX_POP (R447): UCMD.RX_POP discards the head of the receive FIFO. -/
  | uartRxPop (i : Nat)
  /-- UART_FLUSH (R447): UCMD.FLUSH empties both FIFOs. -/
  | uartFlush (i : Nat)
  /-- UART_BYTE_RX (R447): A received byte enters the receive FIFO, or is dropped with RX_OVERRUN. -/
  | uartByteRx (i : Nat) (b : BitVec 8) (framing parity : Bool)
  /-- UART_BYTE_SENT (R447): A byte leaves the transmit FIFO; when the FIFO becomes empty, UTX_EMPTY fires. -/
  | uartByteSent (i : Nat)
  /-- IIC_DONE (R448): An I²C transaction ends with its RESULT, and IDONE fires. -/
  | iicDone (result : Nat) (data : List (BitVec 8))
  /-- EXTEST (R473): JTAG EXTEST selects the boundary register. -/
  | extest (cells shift : List Bool)
  /-- SAMPLE_PRELOAD (R473): JTAG SAMPLE/PRELOAD selects the boundary register. -/
  | samplePreload (cells shift : List Bool)
  /-- EXTEST_PULSE (R473): JTAG IEEE 1149.6 EXTEST_PULSE. -/
  | extestPulse (cells shift : List Bool)
  /-- EXTEST_TRAIN (R473): JTAG IEEE 1149.6 EXTEST_TRAIN. -/
  | extestTrain (cells shift : List Bool)
  /-- DMI (R473): JTAG access to the RISC-V debug module interface. -/
  | dmi (h : Nat) (act : CoreAct)
  /-- FUSE_SEL (R474): JTAG FUSE_SEL chooses the fuse word. -/
  | fuseSel (addr : BitVec 8)
  /-- FUSE_DATA (R474): JTAG FUSE_DATA captures or loads a fuse word. -/
  | fuseData (v : Word)
  /-- FUSE_PROG (R474): JTAG FUSE_PROG in Run-Test/Idle blows the selected bits. -/
  | fuseProg (mv : Nat) (temp : Int)
  /-- BYPASS (R473): JTAG BYPASS, and every other code, selects bypass. -/
  | bypass (code : Nat)
  /-- DESC_WRITE_BACK_DONE (R313): The write-back of a completed or aborted descriptor's bytes 0–7 and 32–39 is
  acknowledged. DMA then fires DONE when EVT_DONE is set and reads NEXT, or, after an abort, returns to IDLE. -/
  | descWriteBackDone (c : Nat)
  /-- ILLEGAL_INSTRUCTION (R199): A reserved opcode, an illegal width or another code-1 cause halts the context with
  FAULT code 1. -/
  | illegalInstruction (t c : Nat)
  /-- VNOP (R185): Vector no-operation. -/
  | vnop (t c : Nat)
  /-- VLDP (R186): Loads pixel values of one plane and one row offset from the ring. -/
  | vldp (t c : Nat)
  /-- VLDR (R186): Loads Drift reference values from the ring. -/
  | vldr (t c : Nat)
  /-- VLDF (R186): Loads column flags from the ring. -/
  | vldf (t c : Nat)
  /-- VLDS (R188): Loads 384 bytes of scratch into the guarded elements of a vector. -/
  | vlds (t c : Nat)
  /-- VSTS (R188): Stores the guarded elements of a vector to scratch. -/
  | vsts (t c : Nat)
  /-- VCLS (R197): Writes class codes into the CLASS4 row. -/
  | vcls (t c : Nat)
  /-- VMOVI (R185): Moves an immediate into the guarded elements. -/
  | vmovi (t c : Nat)
  /-- VADD (R184): Adds elementwise, with optional saturation. -/
  | vadd (t c : Nat)
  /-- VSUB (R184): Subtracts elementwise. -/
  | vsub (t c : Nat)
  /-- VMUL (R184): Multiplies elementwise. -/
  | vmul (t c : Nat)
  /-- VMIN (R185): Takes the elementwise minimum. -/
  | vmin (t c : Nat)
  /-- VMAX (R185): Takes the elementwise maximum. -/
  | vmax (t c : Nat)
  /-- VABSD (R185): Takes the elementwise absolute difference. -/
  | vabsd (t c : Nat)
  /-- VAND (R185): Bitwise AND of elements. -/
  | vand (t c : Nat)
  /-- VOR (R185): Bitwise OR of elements. -/
  | vor (t c : Nat)
  /-- VXOR (R185): Bitwise XOR of elements. -/
  | vxor (t c : Nat)
  /-- VSHL (R185): Shifts elements left. -/
  | vshl (t c : Nat)
  /-- VSHR (R185): Shifts elements right, arithmetically when signed. -/
  | vshr (t c : Nat)
  /-- VSEL (R185): Selects between two sources by the guard. -/
  | vsel (t c : Nat)
  /-- VCMPEQ (R185): Writes an equality compare into a predicate. -/
  | vcmpeq (t c : Nat)
  /-- VCMPLT (R185): Writes a less-than compare into a predicate. -/
  | vcmplt (t c : Nat)
  /-- VCMPLE (R185): Writes a less-or-equal compare into a predicate. -/
  | vcmple (t c : Nat)
  /-- PAND (R185): ANDs two predicates. -/
  | pand (t c : Nat)
  /-- POR (R185): ORs two predicates. -/
  | por (t c : Nat)
  /-- PXOR (R185): XORs two predicates. -/
  | pxor (t c : Nat)
  /-- VQNT (R189): Quantises elements to four-bit codes. -/
  | vqnt (t c : Nat)
  /-- VINS (R189): Inserts a nibble into an element. -/
  | vins (t c : Nat)
  /-- VEXT (R189): Extracts a nibble from an element. -/
  | vext (t c : Nat)
  /-- VLUT (R189): Looks up 16-bit indices in the CLUT bank in force. -/
  | vlut (t c : Nat)
  /-- VDOT4 (R190): Accumulates a four-bit dot product into the destination. -/
  | vdot4 (t c : Nat)
  /-- VNAR (R191): Narrows elements from a wider source width. -/
  | vnar (t c : Nat)
  /-- VWID (R191): Widens elements from a narrower source width. -/
  | vwid (t c : Nat)
  /-- VRSUM (R185): Sums the guarded elements into a scalar. -/
  | vrsum (t c : Nat)
  /-- VRUN (R193): Codes the guarded columns of a chunk into runs with tags and feature sums. -/
  | vrun (t c : Nat)
  /-- SNOP (R192): Scalar no-operation. -/
  | snop (t c : Nat)
  /-- SLI (R192): Loads a 16-bit immediate, zero-extended. -/
  | sli (t c : Nat)
  /-- SLIH (R192): Loads the upper 16 bits of a scalar. -/
  | slih (t c : Nat)
  /-- SADDI (R192): Adds a sign-extended immediate. -/
  | saddi (t c : Nat)
  /-- SADD (R192): Adds two scalars. -/
  | sadd (t c : Nat)
  /-- SSUB (R192): Subtracts two scalars. -/
  | ssub (t c : Nat)
  /-- SAND (R192): Scalar bitwise AND. -/
  | sand (t c : Nat)
  /-- SOR (R192): Scalar bitwise OR. -/
  | sor (t c : Nat)
  /-- SXOR (R192): Scalar bitwise XOR. -/
  | sxor (t c : Nat)
  /-- SSHLI (R192): Scalar shift left by an immediate. -/
  | sshli (t c : Nat)
  /-- SSHRI (R192): Scalar logical shift right by an immediate. -/
  | sshri (t c : Nat)
  /-- SSRAI (R192): Scalar arithmetic shift right by an immediate. -/
  | ssrai (t c : Nat)
  /-- SMUL (R192): Low 32 bits of a scalar product. -/
  | smul (t c : Nat)
  /-- SMIN (R192): Signed scalar minimum. -/
  | smin (t c : Nat)
  /-- SMAX (R192): Signed scalar maximum. -/
  | smax (t c : Nat)
  /-- SSLT (R192): Signed set-less-than. -/
  | sslt (t c : Nat)
  /-- SGET (R194): Reads a row-sideband or context value. -/
  | sget (t c : Nat)
  /-- SLDS (R188): Loads 4 bytes of scratch. -/
  | slds (t c : Nat)
  /-- SSTS (R188): Stores 4 bytes to scratch. -/
  | ssts (t c : Nat)
  /-- SPCNT (R192): Counts the set bits of a predicate. -/
  | spcnt (t c : Nat)
  /-- B (R182): Unconditional branch. -/
  | bOp (t c : Nat)
  /-- BZ (R192): Branches if a scalar is zero. -/
  | bz (t c : Nat)
  /-- BNZ (R192): Branches if a scalar is non-zero. -/
  | bnz (t c : Nat)
  /-- BLT (R192): Branches if one scalar is less than another, signed. -/
  | blt (t c : Nat)
  /-- END (R196): Ends the invocation, performing an owed LROW and emitting the closed labels left unhandled. -/
  | endOp (t c : Nat)
  /-- BRK (R199): Halts the context with FAULT code 5 after its word. -/
  | brk (t c : Nat)
  /-- LROW (R195): Connects the current row's runs to the previous row, merging, updating and closing labels. -/
  | lrow (t c : Nat)
  /-- LCLOSED (R196): Returns the next closed label ID. -/
  | lclosed (t c : Nat)
  /-- LGET (R196): Reads a label field. -/
  | lget (t c : Nat)
  /-- LSET (R196): Writes a writable label field. -/
  | lset (t c : Nat)
  /-- FEMIT (R196): Emits a closed label as a fragment record and frees its ID. -/
  | femit (t c : Nat)
  /-- LDROP (R196): Frees a closed label without a record. -/
  | ldrop (t c : Nat)
  /-- ROOT_PLL_LOSS (R22): The root PLL loses lock, so the main domain resets and ERRLOG records a sticky SYS error.
  -/
  | rootPllLoss
  /-- FRAGMENT_IN (R206): Moraine takes a fragment: it joins or merges sides, or starts an object, and accumulates
  tags and features. -/
  | fragmentIn
  /-- ROW_MARK_IN (R205): A tile's row mark arrives and may advance the horizon of its view. -/
  | rowMarkIn
  /-- OBJECT_DECIDE (R226): In its 64-cycle slot, an object is evaluated against the rules and given its ejection
  time, span and records. -/
  | objectDecide
  /-- DEFECT_PKT_FLUSH (R223): REC_FLUSH_US after its first record, a partial DEFECT_REC packet is closed for
  stream-out. -/
  | defectPktFlush
  /-- MORAINE_APPLY (R229): MCMD.APPLY checks the MVIEW registers and MCTL and, if they pass, applies them at once.
  -/
  | moraineApply
  /-- SWAP_RULES (R228): MCMD.SWAP_RULES switches the rule bank at the next decision. -/
  | swapRules
  /-- SWAP_FT (R228): MCMD.SWAP_FT switches the flight-table bank at the next decision. -/
  | swapFt
  /-- MORAINE_CLEAR (R229): MCMD.CLEAR frees every entry and empties the edge store, only while EN = 0. -/
  | moraineClear
  /-- ACTION_ACCEPT (R235): Bellows takes one action of a handed-over object and checks it in order: queued, merged
  or dropped. -/
  | actionAccept
  /-- SLOT_ASSEMBLE (R240): At T_k − 2 µs the downstream frame of each link is assembled from eligible actions, and
  actions that missed their last slot are dropped. -/
  | slotAssemble
  /-- DOWNSTREAM_FRAME_SEND (R245): The preamble, SYNC and downstream frame of slot k are sent on each link that is
  not OFF. -/
  | downstreamFrameSend
  /-- ACTION_RETIRE (R238): An action is retired at its CLOSE time and frees its queue entry. -/
  | actionRetire
  /-- ARM (R249): BCMD.ARM arms Bellows from the next assembled frame, unless a supply warning refuses it. -/
  | arm
  /-- DISARM (R249): BCMD.DISARM disarms at once, discarding every queued action. -/
  | disarm
  /-- KICK (R251): BCMD.KICK restarts the Bellows watchdog. -/
  | kick
  /-- TEST_ACT (R252): BCMD.TEST_ACT forms one test action from TEST_VALVE and TEST_TIME. -/
  | testAct
  /-- TEST_ACTION_CHECK (R252): The test action passes through the checks of R235, and TEST_STAT is written. -/
  | testActionCheck
  /-- BELLOWS_CLEAR (R253): BCMD.CLEAR empties the queue while Bellows is disarmed in LIVE mode, and is otherwise
  refused. -/
  | bellowsClear
  /-- BELLOWS_WDOG_EXPIRY (R251): WDOG_US pass without a KICK, so Bellows disarms and sets WDOG. -/
  | bellowsWdogExpiry
  /-- BELLOWS_DISARM_INPUT (R249): An event on the Bellows disarm consumer input disarms when DISARM_ON_EVT = 1. -/
  | bellowsDisarmInput
  /-- MC_INIT (R301): MC.CMD.INIT trains the enabled channels, builds the default table and computes DRAM_TOP and
  RES_BASE. -/
  | mcInit
  /-- APPLY_TABLE (R294): MC.CMD.APPLY_TABLE takes a written permutation table while EN = 0. -/
  | applyTable
  /-- PTP_LATCH (R351): PCMD.LATCH copies the time base into LATCH_LO, LATCH_HI and LATCH_FRAC. -/
  | ptpLatch
  /-- PTP_STEP (R348): PCMD.STEP jumps the time base by ADJ, or is refused beyond PTP_STEP_MAX. -/
  | ptpStep
  /-- PTP_SLEW (R347): PCMD.SLEW loads SLEW_LEFT from ADJ. -/
  | ptpSlew
  /-- PTP_SET (R348): PCMD.SET loads the time base while TIME_VALID = 0 and sets TIME_VALID. -/
  | ptpSet
  /-- INVALIDATE (R348): PCMD.INVALIDATE clears TIME_VALID. -/
  | invalidate
  /-- SLEW_STOP (R347): PCMD.SLEW_STOP sets SLEW_LEFT to 0. -/
  | slewStop
  /-- SLEW_STEP (R347): Every 1,024 CLK_TIME cycles SLEW_LEFT moves 1 ns towards 0. -/
  | slewStep
  /-- ALARM (R350): The time base reaches the alarm time while ALARM_EN = 1, so ALARM fires and ALARM_EN clears. -/
  | alarm
  /-- SECOND (R350): The time base reaches a new whole second. -/
  | second
  /-- TX_FRAME_START (R345): The MAC begins sending the frame at TX_RD, time-stamping it and inserting one-step
  fields. -/
  | txFrameStart
  /-- TX_FRAME_DONE (R343): After the last bit of a frame leaves, the descriptor is written back and TX_RD advances.
  -/
  | txFrameDone
  /-- TP_HALT (R355): The fixed input TP_HALT idles every generator at once and sets HALTED. -/
  | tpHalt
  /-- WARN_BELLOWS (R362): The fixed input from SUPPLY_WARN reaches Bellows and disarms it when DISARM_ON_WARN = 1.
  -/
  | warnBellows
  /-- WARN_AXES (R362): The fixed input from SUPPLY_WARN reaches the AX_STOP input of every axis. -/
  | warnAxes
  /-- SNAP_GO (R380): SYS.SNAP_CTL.GO requests a snapshot of every counter. -/
  | snapGo
  /-- SNAP_INPUT (R380): An event on consumer input 5 acts as a write of GO. -/
  | snapInput
  /-- SNAPSHOT_TAKEN (R380): Every counter is copied into its _S register on one CLK_SYS edge, SEQ increments and
  SNAP fires. -/
  | snapshotTaken
  /-- TO_G_0 (R370): DOORBELL.TO_G_0 fires source 48 for G0. -/
  | toG0
  /-- TO_G_1 (R370): DOORBELL.TO_G_1 fires source 49 for G1. -/
  | toG1
  /-- CLAIM (R395): TCMD.CLAIM asserts ACT_OUT and opens the 10 µs claim window. -/
  | claim
  /-- CLAIM_WINDOW_EXPIRY (R395): After the 10 µs claim window the device becomes ACTIVE. -/
  | claimWindowExpiry
  /-- JOIN (R395): TCMD.JOIN makes the device STANDBY behind an active partner, with Bellows in SHADOW, and sends
  RESYNC_REQ. -/
  | join
  /-- HANDOVER (R413): TCMD.HANDOVER closes the mirror cycle, waits for its acknowledge, then yields with FAREWELL.
  -/
  | handover
  /-- TWIN_RESYNC (R405): TCMD.RESYNC makes a standby send RESYNC_REQ. -/
  | twinResync
  /-- USER_SEND (R401): TCMD.USER_SEND sends a USER packet from USER_TX. -/
  | userSend
  /-- HEARTBEAT_SEND (R398): Every 20 µs a heartbeat is sent on both paths. -/
  | heartbeatSend
  /-- PARTNER_SILENT (R395): No valid heartbeat on either path for 100 µs: a standby takes over, or refuses if not
  SYNCED. -/
  | partnerSilent
  /-- MUX_SETTLE_EXPIRY (R410): MUX_SETTLE_US after ACT_OUT, Bellows goes LIVE, the ports leave LISTEN and ROLE
  becomes ACTIVE. -/
  | muxSettleExpiry
  /-- CYCLE_END_SEND (R402): At each mirror-cycle boundary the active sends CYCLE_END. -/
  | cycleEndSend
  /-- MIRROR_ACK_TIMEOUT (R402): A CYCLE_END not acknowledged within 2 × P counts in CYCLES_LOST and sets
  MIRROR_LOST. -/
  | mirrorAckTimeout
  /-- MATCH_WAIT_EXPIRY (R406): An unmatched record held MATCH_WAIT µs is inserted as a DECIDED entry, or dropped. -/
  | matchWaitExpiry
  /-- CHECK_BLOCK_TIMEOUT (R408): A block closed on one device but not on the other 10 ms later counts as a mismatch.
  -/
  | checkBlockTimeout
  /-- VDD_SRAM_UV (R423): VDD_SRAM below 0.720 V for 1 µs resets the main domain with SRAM_UV. -/
  | vddSramUv
  /-- MAIN_SUPPLY_RELEASE (R423): The core supplies are back above their release levels for 1 ms, so the supply reset
  ends. -/
  | mainSupplyRelease
  /-- BOTH_AON_FEEDS_LOST (R423): Both always-on feeds below 0.650 V put every domain, the island included, into
  power-on reset. -/
  | bothAonFeedsLost
  /-- ERRLOG_CLEAR (R428): ECMD.CLEAR clears every block's sticky bit, its capture and GERR. -/
  | errlogClear
  /-- POR_ASSERT (R434): POR_N low resets both domains and records POWER_ON. -/
  | porAssert
  /-- RESET_N_ASSERT (R434): RESET_N held low for 1 µs resets the main domain with PIN. -/
  | resetNAssert
  /-- RESET_N_RELEASE (R434): RESET_N is released, ending that reset source. -/
  | resetNRelease
  /-- DEBUG_RESET (R434): The debug module's reset, through JTAG, resets the main domain with DEBUG. -/
  | debugReset
  /-- QSPI_GO (R446): QCMD.GO starts a flash transaction. -/
  | qspiGo
  /-- IIC_GO (R448): ICMD.GO starts an I²C transaction. -/
  | iicGo
  /-- IIC_TIMEOUT (R448): A target holding SCL low for 25 ms ends the transaction with TIMEOUT. -/
  | iicTimeout
  /-- IDCODE (R473): JTAG IDCODE selects the IDCODE register. -/
  | idcode
  /-- HIGHZ (R473): JTAG HIGHZ selects bypass. -/
  | highz
  /-- CLAMP (R473): JTAG CLAMP selects bypass. -/
  | clamp
  /-- DTMCS (R473): JTAG access to the RISC-V debug transport control register. -/
  | dtmcs
deriving DecidableEq, Repr

end Sys2Proof
end

