-- ==== Sys2Proof/Decode.lean ====
section
/-! DEFINITION. The commands that a word spells: the table of operations and events gives no bits to any row, so no word spells a
command. -/

namespace Sys2Proof

/-- The command that a word of `nbits` bits spells: none, since no row of the table has bits. -/
def decodeTableWord (_nbits _w : Nat) : Option Instr := none

end Sys2Proof
end

