-- ==== Sys2Proof/Config.lean ====
section
/-! DEFINITION. The free values: what the spec leaves undefined, as constants without a body, so that no proof can see
them. -/

namespace Sys2Proof.Config

/-- A value that the spec leaves open, one for each count of the model's own counter `State.freeIx`. -/
opaque freeValue : Nat → BitVec 64

/-- The fixed receive latency of a lane at a rate code, in ns (R50): at most 200, the same at every bring-up. -/
opaque rxLatency : Nat → BitVec 64

/-- The two sensors nearest to die sensor `i` (R421): the spec does not give the places of the sensors. -/
opaque nearSensor : Nat → Nat → BitVec 3

/-- The bytes of the boot ROM (R24, R439), which the spec does not list. -/
opaque bootRom : Nat → BitVec 8

/-- A channel's capacity in granules under the reserved DENSITY 3 (R286), which the spec does not give. -/
opaque reservedCap : Nat

/-- Which of the cached lines leaves when a line comes into caches that are full (R366): the spec gives no choice. -/
opaque victim : Nat → Nat

end Sys2Proof.Config
end

