-- ==== Sys2Proof/Machine/Bits.lean ====
section
/-! DEFINITION. Bit fields, sign extension, clamping, and the operations on sparse maps. -/

namespace Sys2Proof

/-- The value of a field. -/
def Fld.get (f : Fld) (x : Word) : Nat := x.toNat / 2 ^ f.lo % 2 ^ f.w

/-- The word with a field replaced; the low bits of the value are kept (R10). -/
def Fld.put (f : Fld) (x : Word) (n : Nat) : Word :=
  BitVec.ofNat 32
    (x.toNat / 2 ^ (f.lo + f.w) * 2 ^ (f.lo + f.w) + n % 2 ^ f.w * 2 ^ f.lo + x.toNat % 2 ^ f.lo)

/-- One bit as a field. -/
def bit (n : Nat) : Fld := ⟨n, 1⟩

/-- A Bool as a number. -/
def b2n (b : Bool) : Nat := if b then 1 else 0

/-- Sign extension of the low `w` bits of a number. -/
def signed (w n : Nat) : Int := if n % 2 ^ w < 2 ^ (w - 1) then (n % 2 ^ w : Nat) else (n % 2 ^ w : Nat) - (2 ^ w : Nat)

/-- Clamping (R10). -/
def sat (x lo hi : Int) : Int := if x < lo then lo else if hi < x then hi else x

/-- Reading a key; `d` says what an unlisted key reads as. -/
def SMap.get {β : Type} (d : Nat → β) : SMap β → Nat → β
  | [], k => d k
  | (j, v) :: m, k => if k = j then v else SMap.get d m k

/-- Removing a key. -/
def SMap.del {β : Type} : SMap β → Nat → SMap β
  | [], _ => []
  | (j, v) :: m, k => if k = j then SMap.del m k else (j, v) :: SMap.del m k

/-- Listing a key with a value, in key order. -/
def SMap.ins {β : Type} : SMap β → Nat → β → SMap β
  | [], k, v => [(k, v)]
  | (j, w) :: m, k, v =>
    if k < j then (k, v) :: (j, w) :: m
    else if k = j then (k, v) :: m
    else (j, w) :: SMap.ins m k v

/-- Writing a key: the entry is removed when the value is what an unlisted key reads as. -/
def SMap.set {β : Type} [DecidableEq β] (d : Nat → β) (m : SMap β) (k : Nat) (v : β) : SMap β :=
  if v = d k then SMap.del m k else SMap.ins m k v

/-- The canonical form: keys strictly rise from `lo` on, and no entry equals the default. -/
def SMap.wfFrom {β : Type} [DecidableEq β] (d : Nat → β) : Nat → SMap β → Bool
  | _, [] => true
  | lo, (j, v) :: m => decide (lo ≤ j) && decide (v ≠ d j) && SMap.wfFrom d (j + 1) m

/-- The canonical form of a sparse map. -/
def SMap.wf {β : Type} [DecidableEq β] (d : Nat → β) (m : SMap β) : Bool := SMap.wfFrom d 0 m

/-- Removing the first copy of a value from a list. -/
def erase1 {α : Type} [DecidableEq α] (x : α) : List α → List α
  | [] => []
  | y :: ys => if x = y then ys else y :: erase1 x ys

end Sys2Proof
end

