-- ==== Sys2Proof/Machine/Fields.lean ====
section
/-! DEFINITION. The fields of the registers, named BLOCK_REGISTER_FIELD: the lowest bit and the width that the spec's
register table gives. -/

namespace Sys2Proof.F

def LANE_QUAD_CTL_ROLE : Fld := ⟨0, 2⟩
def LANE_QUAD_CTL_RATE : Fld := ⟨4, 3⟩
def LANE_QUAD_CTL_LANES : Fld := ⟨8, 3⟩
def LANE_QUAD_CTL_AUTO_RX_REV : Fld := ⟨12, 1⟩
def LANE_QUAD_CTL_AUTO_TX_REV : Fld := ⟨13, 1⟩
def LANE_QUAD_CTL_TX_REV : Fld := ⟨14, 1⟩
def LANE_QUAD_CTL_RX_REV : Fld := ⟨15, 1⟩
def LANE_QUAD_CMD_APPLY : Fld := ⟨0, 1⟩
def LANE_QUAD_CMD_RETRAIN : Fld := ⟨1, 1⟩
def LANE_QUAD_STAT_ROLE_NOW : Fld := ⟨0, 2⟩
def LANE_QUAD_STAT_RATE_NOW : Fld := ⟨4, 3⟩
def LANE_QUAD_STAT_PLL_LOCK : Fld := ⟨8, 1⟩
def LANE_QUAD_STAT_ORDER : Fld := ⟨9, 2⟩
def LANE_QUAD_STAT_TX_REV_NOW : Fld := ⟨11, 1⟩
def LANE_QUAD_STAT_READY : Fld := ⟨12, 4⟩
def LANE_QUAD_STAT_QSTATE : Fld := ⟨16, 3⟩
def LANE_QUAD_ERR_CFG_ERR : Fld := ⟨0, 1⟩
def LANE_QUAD_ERR_PLL_UNLOCK : Fld := ⟨1, 1⟩
def LANE_QUAD_ERR_REFCLK_LOSS : Fld := ⟨2, 1⟩
def LANE_QUAD_ERR_ORDER_MISMATCH : Fld := ⟨3, 1⟩
def LANE_LANE_CTL_RX_INV_AUTO : Fld := ⟨0, 1⟩
def LANE_LANE_CTL_RX_INV : Fld := ⟨1, 1⟩
def LANE_LANE_CTL_TX_INV : Fld := ⟨2, 1⟩
def LANE_LANE_CTL_TX_SWING : Fld := ⟨4, 2⟩
def LANE_LANE_CTL_LOOPBACK : Fld := ⟨6, 2⟩
def LANE_LANE_CTL_CTLE_MANUAL : Fld := ⟨8, 1⟩
def LANE_LANE_CTL_CTLE_FREEZE : Fld := ⟨9, 1⟩
def LANE_LANE_CTL_CTLE_CODE : Fld := ⟨12, 4⟩
def LANE_LANE_FFE_C_PRE : Fld := ⟨0, 4⟩
def LANE_LANE_FFE_C_POST : Fld := ⟨8, 5⟩
def LANE_LANE_CMD_RETRAIN : Fld := ⟨0, 1⟩
def LANE_LANE_CMD_INJ_SINGLE : Fld := ⟨1, 1⟩
def LANE_LANE_CMD_INJ_BURST : Fld := ⟨2, 1⟩
def LANE_LANE_CMD_EYE_START : Fld := ⟨3, 1⟩
def LANE_LANE_STAT_STATE : Fld := ⟨0, 3⟩
def LANE_LANE_STAT_SIG_DET : Fld := ⟨4, 1⟩
def LANE_LANE_STAT_CDR_LOCK : Fld := ⟨5, 1⟩
def LANE_LANE_STAT_BLOCK_LOCK : Fld := ⟨6, 1⟩
def LANE_LANE_STAT_HI_BER : Fld := ⟨7, 1⟩
def LANE_LANE_STAT_RX_INV_NOW : Fld := ⟨8, 1⟩
def LANE_LANE_STAT_PEER_LOG : Fld := ⟨9, 2⟩
def LANE_LANE_STAT_PEER_LOCKED : Fld := ⟨11, 1⟩
def LANE_LANE_STAT_CTLE_NOW : Fld := ⟨12, 4⟩
def LANE_LANE_STAT_MAIN_TAP : Fld := ⟨16, 6⟩
def LANE_LANE_STAT_CHK_LOCK : Fld := ⟨22, 1⟩
def LANE_LANE_ERR_LOCK_LOST : Fld := ⟨0, 1⟩
def LANE_LANE_ERR_SIG_LOST : Fld := ⟨1, 1⟩
def LANE_LANE_ERR_HI_BER_SEEN : Fld := ⟨2, 1⟩
def LANE_LANE_ERR_TRAIN_TIMEOUT : Fld := ⟨3, 1⟩
def LANE_LANE_ERR_FFE_BAD : Fld := ⟨4, 1⟩
def LANE_LANE_ERR_TRAIN_INCONSISTENT : Fld := ⟨5, 1⟩
def LANE_LANE_INJ_BURST_LEN : Fld := ⟨0, 6⟩
def LANE_PRBS_CTL_GEN_EN : Fld := ⟨0, 1⟩
def LANE_PRBS_CTL_GEN_POLY : Fld := ⟨1, 2⟩
def LANE_PRBS_CTL_GEN_INV : Fld := ⟨3, 1⟩
def LANE_PRBS_CTL_CHK_EN : Fld := ⟨4, 1⟩
def LANE_PRBS_CTL_CHK_POLY : Fld := ⟨5, 2⟩
def LANE_EYE_CTL_PHASE : Fld := ⟨0, 6⟩
def LANE_EYE_CTL_VOFF : Fld := ⟨8, 7⟩
def LANE_EYE_CTL_DWELL : Fld := ⟨16, 5⟩
def LANE_EYE_STAT_SEQ : Fld := ⟨0, 16⟩
def LANE_EYE_STAT_BUSY : Fld := ⟨16, 1⟩
def LANE_EYE_STAT_DWELL_RES : Fld := ⟨17, 5⟩
def LANE_EYE_STAT_VALID : Fld := ⟨31, 1⟩
def ACT_PORT_CTL_STREAM_VC : Fld := ⟨0, 4⟩
def ACT_PORT_CTL_USE_TX_TIME : Fld := ⟨4, 1⟩
def ACT_PORT_CTL_AUTO_RESUME : Fld := ⟨5, 1⟩
def ACT_PORT_CTL_LISTEN : Fld := ⟨6, 1⟩
def ACT_PORT_CTL_LINK_WAIT : Fld := ⟨8, 8⟩
def ACT_PORT_CMD_START : Fld := ⟨0, 1⟩
def ACT_PORT_CMD_STOP : Fld := ⟨1, 1⟩
def ACT_PORT_CMD_RESET_LINK : Fld := ⟨2, 1⟩
def ACT_PORT_CMD_REDISCOVER : Fld := ⟨3, 1⟩
def ACT_PORT_STAT_PSTATE : Fld := ⟨0, 3⟩
def ACT_PORT_STAT_RESTRIPING : Fld := ⟨3, 1⟩
def ACT_PORT_STAT_ACTIVE_MASK : Fld := ⟨4, 4⟩
def ACT_PORT_STAT_ACTIVE_LANES : Fld := ⟨8, 3⟩
def ACT_PORT_STAT_PORT_LAT_NOW : Fld := ⟨12, 3⟩
def ACT_PORT_STAT_WAS_RUN : Fld := ⟨15, 1⟩
def ACT_PORT_ERR_HDR_UNCORR : Fld := ⟨0, 1⟩
def ACT_PORT_ERR_CRC_ERR : Fld := ⟨1, 1⟩
def ACT_PORT_ERR_SEQ_GAP : Fld := ⟨2, 1⟩
def ACT_PORT_ERR_DROP_PKT : Fld := ⟨3, 1⟩
def ACT_PORT_ERR_STRIPE_TIMEOUT : Fld := ⟨4, 1⟩
def ACT_PORT_ERR_CTRL_TIMEOUT : Fld := ⟨5, 1⟩
def ACT_PORT_ERR_DESC_ERR : Fld := ⟨6, 1⟩
def ACT_PORT_ERR_DESC_CHANGED : Fld := ⟨7, 1⟩
def ACT_PORT_ERR_LINK_LOST : Fld := ⟨8, 1⟩
def ACT_PORT_ERR_SHORT_LINE : Fld := ⟨9, 1⟩
def ACT_PORT_ERR_OVERRUN_LINE : Fld := ⟨10, 1⟩
def ACT_PORT_ERR_ACK_LATE : Fld := ⟨11, 1⟩
def ACT_PORT_ERR_TAG_MISMATCH : Fld := ⟨12, 1⟩
def ACT_PORT_ERR_TS_REFUSED : Fld := ⟨13, 1⟩
def ACT_PORT_ERR_RING_DROP : Fld := ⟨14, 1⟩
def ACT_PORT_ERR_TRIG_UNMATCHED : Fld := ⟨15, 1⟩
def ACT_PORT_ERR_SKEW_ERR : Fld := ⟨16, 1⟩
def ACT_PORT_ERR_BAD_CTRL : Fld := ⟨17, 1⟩
def ACT_PORT_ERR_OUT_CFG_ERR : Fld := ⟨18, 1⟩
def ACT_TIMING_CTRL_TIMEOUT : Fld := ⟨0, 16⟩
def ACT_TIMING_RESTRIPE_TIMEOUT : Fld := ⟨16, 8⟩
def ACT_TRIG_CTL_EN : Fld := ⟨0, 1⟩
def ACT_TRIG_CTL_TPG : Fld := ⟨4, 4⟩
def ACT_TRIG_CTL_KIND : Fld := ⟨8, 1⟩
def ACT_BC_CTL_OP : Fld := ⟨0, 1⟩
def ACT_BC_CTL_COUNT : Fld := ⟨8, 5⟩
def ACT_BC_STAT_SEQ : Fld := ⟨0, 16⟩
def ACT_BC_STAT_STATUS : Fld := ⟨16, 8⟩
def ACT_BC_STAT_BUSY : Fld := ⟨24, 1⟩
def ACT_BC_STAT_VALID : Fld := ⟨31, 1⟩
def ACT_TS_STAT_TAG_ID : Fld := ⟨0, 16⟩
def ACT_TS_STAT_STATUS : Fld := ⟨16, 2⟩
def ACT_TS_STAT_SWITCHED_LATE : Fld := ⟨18, 1⟩
def ACT_TS_STAT_BUSY : Fld := ⟨24, 1⟩
def ACT_TS_STAT_VALID : Fld := ⟨31, 1⟩
def ACT_OUT_VC_EN : Fld := ⟨0, 1⟩
def ACT_OUT_VC_KIND : Fld := ⟨1, 3⟩
def ACT_OUT_VC_INDEX : Fld := ⟨4, 5⟩
def ACT_OUT_VC_VC : Fld := ⟨12, 4⟩
def FE_FE_CTL_EN : Fld := ⟨0, 1⟩
def FE_FE_CTL_STAT_EN : Fld := ⟨1, 1⟩
def FE_FE_CTL_TAB_BYPASS : Fld := ⟨2, 1⟩
def FE_FE_CMD_APPLY : Fld := ⟨0, 1⟩
def FE_FE_CMD_SWITCH_NEXT : Fld := ⟨1, 1⟩
def FE_FE_CMD_TAB_INIT : Fld := ⟨2, 1⟩
def FE_FE_STAT_ASTATE : Fld := ⟨0, 2⟩
def FE_FE_STAT_BANK_NOW : Fld := ⟨2, 1⟩
def FE_FE_STAT_PENDING : Fld := ⟨3, 2⟩
def FE_FE_STAT_APPLY_PENDING : Fld := ⟨5, 1⟩
def FE_FE_STAT_TAB_READY : Fld := ⟨6, 1⟩
def FE_FE_STAT_RUNNING : Fld := ⟨7, 1⟩
def FE_FE_ERR_CFG_ERR : Fld := ⟨0, 1⟩
def FE_FE_ERR_GEOM_MISMATCH : Fld := ⟨1, 1⟩
def FE_FE_ERR_FRAME_JUMP : Fld := ⟨2, 1⟩
def FE_FE_ERR_ID_GUESS : Fld := ⟨3, 1⟩
def FE_FE_ERR_LINE_DROP : Fld := ⟨4, 1⟩
def FE_FE_ERR_LATE_LINE : Fld := ⟨5, 1⟩
def FE_FE_ERR_CRC_LINE : Fld := ⟨6, 1⟩
def FE_FE_ERR_DT_MISMATCH : Fld := ⟨7, 1⟩
def FE_FE_ERR_BACKLOG : Fld := ⟨8, 1⟩
def FE_FE_ERR_SWITCH_REFUSED : Fld := ⟨9, 1⟩
def FE_FE_ERR_BANK_MERGED : Fld := ⟨10, 1⟩
def FE_FE_ERR_STAT_DROP : Fld := ⟨11, 1⟩
def FE_FE_ERR_NO_FRAME_END : Fld := ⟨12, 1⟩
def FE_SRC_QUAD : Fld := ⟨0, 5⟩
def FE_GEOM_LINE_PX : Fld := ⟨0, 15⟩
def FE_GEOM_FRAME_LINES : Fld := ⟨16, 13⟩
def FE_FORMAT_MOS_LINES : Fld := ⟨0, 3⟩
def FE_FORMAT_MOS_COLS : Fld := ⟨4, 4⟩
def FE_FORMAT_LINE_PHASE : Fld := ⟨8, 2⟩
def FE_FORMAT_COL_PHASE : Fld := ⟨12, 3⟩
def FE_FORMAT_NATIVE : Fld := ⟨16, 1⟩
def FE_FORMAT_DEPTH : Fld := ⟨18, 2⟩
def FE_FORMAT_OUT_PLANES : Fld := ⟨20, 3⟩
def FE_STAT_STAT_SEQ : Fld := ⟨0, 16⟩
def FE_STAT_STAT_VALID : Fld := ⟨31, 1⟩
def STITCH_VIEW_EN : Fld := ⟨0, 1⟩
def STITCH_VIEW_ANCHOR : Fld := ⟨4, 5⟩
def STITCH_VIEW_PLANES : Fld := ⟨12, 3⟩
def STITCH_VIEW_MISS_LIMIT : Fld := ⟨16, 4⟩
def STITCH_VIEW_CMD_APPLY : Fld := ⟨0, 1⟩
def STITCH_VIEW_CMD_SWAP : Fld := ⟨1, 1⟩
def STITCH_VIEW_CMD_CANCEL_SWAP : Fld := ⟨2, 1⟩
def STITCH_VIEW_STAT_VSTATE : Fld := ⟨0, 2⟩
def STITCH_VIEW_STAT_SWAP_PENDING : Fld := ⟨2, 1⟩
def STITCH_VIEW_STAT_ABSENT : Fld := ⟨8, 8⟩
def STITCH_VIEW_STAT_SLOTS_EN : Fld := ⟨16, 8⟩
def STITCH_VIEW_ERR_CFG_ERR : Fld := ⟨0, 1⟩
def STITCH_VIEW_ERR_ROW_TIMEOUT : Fld := ⟨1, 1⟩
def STITCH_VIEW_ERR_SEG_MISSING : Fld := ⟨2, 1⟩
def STITCH_VIEW_ERR_LATE_CONTRIB : Fld := ⟨3, 1⟩
def STITCH_VIEW_ERR_DUP_CONTRIB : Fld := ⟨4, 1⟩
def STITCH_VIEW_ERR_ANCHOR_GUESS : Fld := ⟨5, 1⟩
def STITCH_VIEW_ERR_ROWS_LOST : Fld := ⟨6, 1⟩
def STITCH_VIEW_ERR_TAB_RANGE : Fld := ⟨7, 1⟩
def STITCH_VIEW_ERR_LIVE_WRITE : Fld := ⟨8, 1⟩
def STITCH_VIEW_ERR_DLY_STALL : Fld := ⟨9, 1⟩
def STITCH_VIEW_ERR_SRC_GEOM : Fld := ⟨10, 1⟩
def STITCH_VIEW_ERR_ROWS_FORCED : Fld := ⟨11, 1⟩
def STITCH_SLOT_FE : Fld := ⟨0, 5⟩
def STITCH_SLOT_EN : Fld := ⟨7, 1⟩
def STITCH_SLOT_OFS : Fld := ⟨8, 8⟩
def DRIFT_DRIFT_CTL_EN : Fld := ⟨0, 1⟩
def DRIFT_DRIFT_CTL_PRESET : Fld := ⟨1, 2⟩
def DRIFT_DRIFT_CTL_GFREEZE_SW : Fld := ⟨3, 1⟩
def DRIFT_DRIFT_CTL_GFREEZE_ALL : Fld := ⟨4, 1⟩
def DRIFT_DRIFT_CTL_SEED_ON_SWAP : Fld := ⟨5, 1⟩
def DRIFT_DRIFT_CTL_SEED_ON_RESYNC : Fld := ⟨6, 1⟩
def DRIFT_DRIFT_CTL_COVER_GROW : Fld := ⟨8, 4⟩
def DRIFT_DRIFT_CTL_COVER_HOLD : Fld := ⟨16, 8⟩
def DRIFT_DRIFT_CMD_SEED : Fld := ⟨0, 1⟩
def DRIFT_DRIFT_CMD_PROBE : Fld := ⟨1, 1⟩
def DRIFT_DRIFT_STAT_RUNNING : Fld := ⟨0, 1⟩
def DRIFT_DRIFT_STAT_PRESET_NOW : Fld := ⟨1, 2⟩
def DRIFT_DRIFT_STAT_GFREEZE_NOW : Fld := ⟨3, 1⟩
def DRIFT_DRIFT_STAT_SEED_PENDING : Fld := ⟨4, 1⟩
def DRIFT_DRIFT_STAT_FREEZE_LEFT : Fld := ⟨16, 16⟩
def DRIFT_DRIFT_ERR_PROBE_RANGE : Fld := ⟨0, 1⟩
def DRIFT_PROBE_STAT_SEQ : Fld := ⟨0, 16⟩
def DRIFT_PROBE_STAT_HOLD : Fld := ⟨16, 8⟩
def DRIFT_PROBE_STAT_COVERED : Fld := ⟨24, 1⟩
def DRIFT_PROBE_STAT_BUSY : Fld := ⟨25, 1⟩
def DRIFT_PROBE_STAT_VALID : Fld := ⟨31, 1⟩
def HEARTH_TSTAT_GROUP : Fld := ⟨0, 4⟩
def HEARTH_TSTAT_IN_GROUP : Fld := ⟨4, 1⟩
def HEARTH_TSTAT_CTX_USED : Fld := ⟨5, 3⟩
def HEARTH_TERR_CTX_FAULT : Fld := ⟨0, 1⟩
def HEARTH_TERR_IMEM_LIVE_WRITE : Fld := ⟨1, 1⟩
def HEARTH_TERR_CLUT_BUSY_WRITE : Fld := ⟨2, 1⟩
def HEARTH_TERR_ROW_DROP : Fld := ⟨3, 1⟩
def HEARTH_CTX_STAT_BOUND : Fld := ⟨0, 1⟩
def HEARTH_CTX_STAT_GCTX : Fld := ⟨1, 2⟩
def HEARTH_CTX_STAT_STRIPE : Fld := ⟨3, 11⟩
def HEARTH_CTX_STAT_STATE : Fld := ⟨14, 2⟩
def HEARTH_CTX_STAT_FAULT : Fld := ⟨16, 3⟩
def HEARTH_CTX_STAT_CLUT_BANK : Fld := ⟨19, 1⟩
def HEARTH_CTX_STAT_SWITCHED : Fld := ⟨20, 1⟩
def HEARTH_CTX_CMD_RESUME : Fld := ⟨0, 1⟩
def HEARTH_CTX_CMD_CONTINUE : Fld := ⟨1, 1⟩
def HEARTH_CTX_CMD_HALT : Fld := ⟨2, 1⟩
def HEARTH_GCTL_EN : Fld := ⟨0, 1⟩
def HEARTH_GCTL_MODE : Fld := ⟨1, 1⟩
def HEARTH_GCTL_CLASS_EN : Fld := ⟨2, 1⟩
def HEARTH_GCMD_APPLY : Fld := ⟨0, 1⟩
def HEARTH_GCMD_SWAP_PROG : Fld := ⟨1, 1⟩
def HEARTH_GCMD_SWAP_CLUT : Fld := ⟨2, 1⟩
def HEARTH_GCMD_CANCEL_SWAP : Fld := ⟨3, 1⟩
def HEARTH_GSTAT_GSTATE : Fld := ⟨0, 2⟩
def HEARTH_GSTAT_SWAP_PENDING : Fld := ⟨2, 1⟩
def HEARTH_GSTAT_SWAP_PROG_P : Fld := ⟨3, 1⟩
def HEARTH_GSTAT_SWAP_CLUT_P : Fld := ⟨4, 1⟩
def HEARTH_GSTAT_CLUT_BANK : Fld := ⟨5, 1⟩
def HEARTH_GSTAT_OWNER : Fld := ⟨6, 2⟩
def HEARTH_GSTAT_OWNER_VALID : Fld := ⟨8, 1⟩
def HEARTH_GSTAT_SPILL_HELD : Fld := ⟨16, 16⟩
def HEARTH_GERR_CFG_ERR : Fld := ⟨0, 1⟩
def HEARTH_GERR_SPILLED : Fld := ⟨1, 1⟩
def HEARTH_GERR_FRAME_DROP : Fld := ⟨2, 1⟩
def HEARTH_GERR_SWAP_REFUSED : Fld := ⟨3, 1⟩
def HEARTH_LAYOUT_STRIPE_W : Fld := ⟨0, 11⟩
def HEARTH_LAYOUT_APRON : Fld := ⟨16, 6⟩
def HEARTH_LAYOUT_EDGE_MODE : Fld := ⟨24, 1⟩
def HEARTH_RING_ROW_SLOTS : Fld := ⟨0, 7⟩
def HEARTH_RING_L_H : Fld := ⟨8, 5⟩
def HEARTH_RING_SCRATCH : Fld := ⟨16, 13⟩
def HEARTH_CTX_CTL_EN : Fld := ⟨0, 1⟩
def HEARTH_CTX_CTL_VIEW : Fld := ⟨1, 2⟩
def HEARTH_CTX_CTL_SPILL_FRAMES : Fld := ⟨4, 4⟩
def MORAINE_MCTL_EN : Fld := ⟨0, 1⟩
def MORAINE_MCTL_REC_EN : Fld := ⟨1, 1⟩
def MORAINE_MCTL_REC_UNTAGGED : Fld := ⟨2, 1⟩
def MORAINE_MCTL_DEFAULT_VERDICT : Fld := ⟨3, 2⟩
def MORAINE_MCTL_REC_PER_PKT : Fld := ⟨8, 8⟩
def MORAINE_MCTL_REC_FLUSH_US : Fld := ⟨16, 16⟩
def MORAINE_MCMD_APPLY : Fld := ⟨0, 1⟩
def MORAINE_MCMD_SWAP_RULES : Fld := ⟨1, 1⟩
def MORAINE_MCMD_SWAP_FT : Fld := ⟨2, 1⟩
def MORAINE_MCMD_CLEAR : Fld := ⟨3, 1⟩
def MORAINE_MSTAT_RUNNING : Fld := ⟨0, 1⟩
def MORAINE_MSTAT_RULE_BANK : Fld := ⟨1, 1⟩
def MORAINE_MSTAT_FT_BANK : Fld := ⟨2, 1⟩
def MORAINE_MSTAT_SWAP_RULES_P : Fld := ⟨3, 1⟩
def MORAINE_MSTAT_SWAP_FT_P : Fld := ⟨4, 1⟩
def MORAINE_MSTAT_NO_FREE : Fld := ⟨5, 1⟩
def MORAINE_MERR_CFG_ERR : Fld := ⟨0, 1⟩
def MORAINE_MERR_TABLE_FULL : Fld := ⟨1, 1⟩
def MORAINE_MERR_VIEW_OFF : Fld := ⟨2, 1⟩
def MORAINE_MERR_LATE_FRAG : Fld := ⟨3, 1⟩
def MORAINE_MERR_TAG_LOST : Fld := ⟨4, 1⟩
def MORAINE_MERR_EDGE_FULL : Fld := ⟨5, 1⟩
def MORAINE_MERR_FT_CLAMP : Fld := ⟨6, 1⟩
def MORAINE_MERR_REC_DROP : Fld := ⟨7, 1⟩
def MORAINE_MERR_REC_OUT_DROP : Fld := ⟨8, 1⟩
def MORAINE_MERR_HORIZON_TIMEOUT : Fld := ⟨9, 1⟩
def MVIEW_VCTL_EN : Fld := ⟨0, 1⟩
def MVIEW_VCTL_FUSE_EN : Fld := ⟨1, 1⟩
def MVIEW_VCTL_PARTNER : Fld := ⟨2, 2⟩
def MVIEW_VCTL_ROLE_B : Fld := ⟨4, 1⟩
def MVIEW_VCTL_RECHECK_EJECT : Fld := ⟨5, 1⟩
def MVIEW_VCTL_FB : Fld := ⟨8, 5⟩
def MVIEW_VCTL_JOIN_ROWS : Fld := ⟨16, 4⟩
def BELLOWS_BCTL_MODE : Fld := ⟨0, 1⟩
def BELLOWS_BCTL_DISARM_ON_WARN : Fld := ⟨1, 1⟩
def BELLOWS_BCTL_DISARM_ON_EVT : Fld := ⟨2, 1⟩
def BELLOWS_BCTL_WDOG_EN : Fld := ⟨3, 1⟩
def BELLOWS_BCMD_ARM : Fld := ⟨0, 1⟩
def BELLOWS_BCMD_DISARM : Fld := ⟨1, 1⟩
def BELLOWS_BCMD_KICK : Fld := ⟨2, 1⟩
def BELLOWS_BCMD_TEST_ACT : Fld := ⟨3, 1⟩
def BELLOWS_BCMD_CLEAR : Fld := ⟨4, 1⟩
def BELLOWS_BSTAT_ARMED : Fld := ⟨0, 1⟩
def BELLOWS_BSTAT_MODE_NOW : Fld := ⟨1, 1⟩
def BELLOWS_BSTAT_WARN_HOLD : Fld := ⟨2, 1⟩
def BELLOWS_BSTAT_Q_FULL : Fld := ⟨3, 1⟩
def BELLOWS_BERR_QFULL : Fld := ⟨0, 1⟩
def BELLOWS_BERR_LATE : Fld := ⟨1, 1⟩
def BELLOWS_BERR_MISSED : Fld := ⟨2, 1⟩
def BELLOWS_BERR_ON_LIMIT : Fld := ⟨3, 1⟩
def BELLOWS_BERR_WDOG : Fld := ⟨4, 1⟩
def BELLOWS_BERR_WARN_DISARM : Fld := ⟨5, 1⟩
def BELLOWS_BERR_EVT_DISARM : Fld := ⟨6, 1⟩
def BELLOWS_BERR_ARM_REFUSED : Fld := ⟨7, 1⟩
def BELLOWS_BERR_CFG_ERR : Fld := ⟨8, 1⟩
def BELLOWS_BERR_YIELD : Fld := ⟨9, 1⟩
def BELLOWS_TEST_STAT_SEQ : Fld := ⟨0, 16⟩
def BELLOWS_TEST_STAT_RESULT : Fld := ⟨16, 3⟩
def BELLOWS_TEST_STAT_VALID : Fld := ⟨31, 1⟩
def EJL_LCTL_EN : Fld := ⟨0, 1⟩
def EJL_LCTL_CABLE_NS : Fld := ⟨16, 10⟩
def EJL_LCMD_RESYNC : Fld := ⟨0, 1⟩
def EJL_LSTAT_LSTATE : Fld := ⟨0, 2⟩
def EJL_LSTAT_SYNC_OK : Fld := ⟨2, 1⟩
def EJL_LSTAT_HOLDOVER : Fld := ⟨3, 1⟩
def EJL_LSTAT_BANK_FAULT : Fld := ⟨4, 1⟩
def EJL_LSTAT_ARMED_SEEN : Fld := ⟨5, 1⟩
def EJL_LSTAT_UP_VALID : Fld := ⟨6, 1⟩
def EJL_LSTAT_OUTSTANDING : Fld := ⟨16, 9⟩
def EJL_LERR_LOST : Fld := ⟨0, 1⟩
def EJL_LERR_UP_CRC : Fld := ⟨1, 1⟩
def EJL_LERR_UP_MISSING : Fld := ⟨2, 1⟩
def EJL_LERR_NACK : Fld := ⟨3, 1⟩
def EJL_LERR_COIL_OPEN : Fld := ⟨4, 1⟩
def EJL_LERR_COIL_SHORT : Fld := ⟨5, 1⟩
def EJL_LERR_BANK_FAULT : Fld := ⟨6, 1⟩
def EJL_LERR_BANK_LATE : Fld := ⟨7, 1⟩
def EJL_LERR_CFG_ERR : Fld := ⟨8, 1⟩
def FB_CTL_EN : Fld := ⟨0, 1⟩
def FB_CTL_DIR_INV : Fld := ⟨1, 1⟩
def FB_CTL_IDX_MODE : Fld := ⟨2, 1⟩
def FB_CTL_IDX_POL : Fld := ⟨3, 1⟩
def FB_CTL_AVG_N : Fld := ⟨4, 3⟩
def FB_CTL_SET_CLR_HOMED : Fld := ⟨7, 1⟩
def FB_CTL_FILT : Fld := ⟨8, 8⟩
def FB_CMD_SET_POS : Fld := ⟨0, 1⟩
def FB_CMD_ARM_INDEX : Fld := ⟨1, 1⟩
def FB_CMD_DISARM_INDEX : Fld := ⟨2, 1⟩
def FB_STAT_HALL : Fld := ⟨0, 3⟩
def FB_STAT_INVALID_NOW : Fld := ⟨3, 1⟩
def FB_STAT_HOMED : Fld := ⟨4, 1⟩
def FB_STAT_IDX_ARMED : Fld := ⟨5, 1⟩
def FB_STAT_DIR : Fld := ⟨6, 1⟩
def FB_STAT_EST : Fld := ⟨7, 2⟩
def FB_STAT_RUNNING : Fld := ⟨9, 1⟩
def FB_STAT_HZ : Fld := ⟨10, 1⟩
def FB_ERR_HALL_INVALID : Fld := ⟨0, 1⟩
def FB_ERR_HALL_SKIP : Fld := ⟨1, 1⟩
def FB_ERR_HALL_AMBIG : Fld := ⟨2, 1⟩
def FB_ERR_SPEED_SAT : Fld := ⟨3, 1⟩
def FB_ERR_CFG_ERR : Fld := ⟨4, 1⟩
def AX_CTL_EN : Fld := ⟨0, 1⟩
def AX_CTL_DIR_INV : Fld := ⟨1, 1⟩
def AX_CTL_ADAPT : Fld := ⟨2, 1⟩
def AX_CTL_DECAY : Fld := ⟨3, 2⟩
def AX_CMD_PUSH : Fld := ⟨0, 1⟩
def AX_CMD_STOP : Fld := ⟨1, 1⟩
def AX_CMD_ESTOP : Fld := ⟨2, 1⟩
def AX_CMD_HOME : Fld := ⟨3, 1⟩
def AX_CMD_CLR_LIM : Fld := ⟨4, 1⟩
def AX_CMD_SET_POS : Fld := ⟨5, 1⟩
def AX_CMD_GEAR_ON : Fld := ⟨6, 1⟩
def AX_CMD_GEAR_ARM : Fld := ⟨7, 1⟩
def AX_CMD_GEAR_CANCEL : Fld := ⟨8, 1⟩
def AX_CMD_STALL_REARM : Fld := ⟨9, 1⟩
def AX_STAT_STATE : Fld := ⟨0, 3⟩
def AX_STAT_QDEPTH : Fld := ⟨3, 4⟩
def AX_STAT_HOMED : Fld := ⟨7, 1⟩
def AX_STAT_LIM_NEG_LATCH : Fld := ⟨8, 1⟩
def AX_STAT_LIM_POS_LATCH : Fld := ⟨9, 1⟩
def AX_STAT_LIM_NEG_IN : Fld := ⟨10, 1⟩
def AX_STAT_LIM_POS_IN : Fld := ⟨11, 1⟩
def AX_STAT_HOLD_CUR : Fld := ⟨12, 1⟩
def AX_STAT_STALLED : Fld := ⟨13, 1⟩
def AX_STAT_GEAR_ARMED : Fld := ⟨14, 1⟩
def AX_STAT_LATE_APPLY : Fld := ⟨15, 1⟩
def AX_STAT_GEAR_LIMITED : Fld := ⟨16, 1⟩
def AX_STAT_HOME_RES : Fld := ⟨17, 2⟩
def AX_STAT_REVERSED : Fld := ⟨19, 1⟩
def AX_ERR_LIM_NEG_TRIP : Fld := ⟨0, 1⟩
def AX_ERR_LIM_POS_TRIP : Fld := ⟨1, 1⟩
def AX_ERR_LIM_REFUSED : Fld := ⟨2, 1⟩
def AX_ERR_STALL : Fld := ⟨3, 1⟩
def AX_ERR_FB_BAD : Fld := ⟨4, 1⟩
def AX_ERR_HOME_FAIL : Fld := ⟨5, 1⟩
def AX_ERR_STARVED : Fld := ⟨6, 1⟩
def AX_ERR_QUEUE_REFUSED : Fld := ⟨7, 1⟩
def AX_ERR_SEG_BAD : Fld := ⟨8, 1⟩
def AX_ERR_GEAR_LAG : Fld := ⟨9, 1⟩
def AX_ERR_CLR_REFUSED : Fld := ⟨10, 1⟩
def AX_ERR_CFG_ERR : Fld := ⟨11, 1⟩
def MC_CTL_CH_EN : Fld := ⟨0, 6⟩
def MC_CTL_EN : Fld := ⟨8, 1⟩
def MC_CTL_CE_WB : Fld := ⟨9, 1⟩
def MC_CTL_CLASS : Fld := ⟨12, 2⟩
def MC_CTL_DENSITY : Fld := ⟨14, 2⟩
def MC_CMD_INIT : Fld := ⟨0, 1⟩
def MC_CMD_APPLY_TABLE : Fld := ⟨1, 1⟩
def MC_STAT_CH_DEAD : Fld := ⟨0, 6⟩
def MC_STAT_CH_RETIRED : Fld := ⟨8, 6⟩
def MC_STAT_CH_ACTIVE : Fld := ⟨16, 6⟩
def MC_STAT_INIT_BUSY : Fld := ⟨22, 1⟩
def MC_STAT_INIT_DONE : Fld := ⟨23, 1⟩
def MC_STAT_RES_USED : Fld := ⟨24, 1⟩
def MC_STAT_RES_SHORT : Fld := ⟨25, 1⟩
def MC_ERR_CFG_ERR : Fld := ⟨0, 1⟩
def MC_ERR_EVAC_REFUSED : Fld := ⟨1, 1⟩
def MC_ERR_RES_HIT : Fld := ⟨2, 1⟩
def MC_PERM_CH : Fld := ⟨0, 3⟩
def MC_PERM_VALID : Fld := ⟨7, 1⟩
def MC_CH_CTL_TEMP_SRC : Fld := ⟨0, 1⟩
def MC_CH_CTL_TEMP_OFFS : Fld := ⟨8, 8⟩
def MC_CH_CTL_MIN_EYE : Fld := ⟨16, 7⟩
def MC_CH_CMD_EVAC : Fld := ⟨0, 1⟩
def MC_CH_CMD_CANCEL : Fld := ⟨1, 1⟩
def MC_CH_CMD_TRAIN : Fld := ⟨2, 1⟩
def MC_CH_CMD_REFILL : Fld := ⟨3, 1⟩
def MC_CH_CMD_RETIRE : Fld := ⟨4, 1⟩
def MC_CH_STAT_CSTATE : Fld := ⟨0, 3⟩
def MC_CH_STAT_INSVC : Fld := ⟨3, 1⟩
def MC_CH_STAT_HOT : Fld := ⟨4, 1⟩
def MC_CH_STAT_DEBT : Fld := ⟨5, 4⟩
def MC_CH_STAT_TEMP_NOW : Fld := ⟨16, 8⟩
def MC_CH_ERR_CE : Fld := ⟨0, 1⟩
def MC_CH_ERR_UE : Fld := ⟨1, 1⟩
def MC_CH_ERR_UE_MIGRATED : Fld := ⟨2, 1⟩
def MC_CH_ERR_TRAIN_FAIL : Fld := ⟨3, 1⟩
def MC_CH_ERR_TEMP_STALE : Fld := ⟨4, 1⟩
def MC_TRAIN_STAT_SEQ : Fld := ⟨0, 16⟩
def MC_TRAIN_STAT_BUSY : Fld := ⟨16, 1⟩
def MC_TRAIN_STAT_PASS : Fld := ⟨17, 1⟩
def MC_TRAIN_STAT_VALID : Fld := ⟨31, 1⟩
def MC_TRAIN_RD_CENTRE : Fld := ⟨0, 7⟩
def MC_TRAIN_RD_WIDTH : Fld := ⟨8, 7⟩
def MC_TRAIN_RD_VREF : Fld := ⟨16, 6⟩
def MC_TRAIN_WR_CENTRE : Fld := ⟨0, 7⟩
def MC_TRAIN_WR_WIDTH : Fld := ⟨8, 7⟩
def MC_TRAIN_WR_VREF : Fld := ⟨16, 6⟩
def DMA_CH_CTL_EN : Fld := ⟨0, 1⟩
def DMA_CH_CTL_DESC_COH : Fld := ⟨1, 1⟩
def DMA_CH_CTL_PRIO : Fld := ⟨2, 2⟩
def DMA_CH_CTL_TRIG_DB : Fld := ⟨4, 1⟩
def DMA_CH_CMD_START : Fld := ⟨0, 1⟩
def DMA_CH_CMD_ABORT : Fld := ⟨1, 1⟩
def DMA_CH_CMD_RESUME : Fld := ⟨2, 1⟩
def DMA_DOORBELL_RING : Fld := ⟨0, 1⟩
def DMA_CH_STAT_STATE : Fld := ⟨0, 3⟩
def DMA_CH_STAT_DB_PEND : Fld := ⟨3, 1⟩
def DMA_CH_ERR_RD_ERR : Fld := ⟨0, 1⟩
def DMA_CH_ERR_WR_ERR : Fld := ⟨1, 1⟩
def DMA_CH_ERR_FETCH_ERR : Fld := ⟨2, 1⟩
def DMA_CH_ERR_DESC_BAD : Fld := ⟨3, 1⟩
def DMA_CH_ERR_WB_ERR : Fld := ⟨4, 1⟩
def DMA_CH_ERR_CFG_ERR : Fld := ⟨5, 1⟩
def DMA_ERR_ADDR_HI_ADDR_HI : Fld := ⟨0, 8⟩
def DMA_ERR_ADDR_HI_ERR_DIR : Fld := ⟨8, 2⟩
def FIRN_ECTL_EN : Fld := ⟨0, 1⟩
def FIRN_ECMD_START : Fld := ⟨0, 1⟩
def FIRN_ECMD_ABORT : Fld := ⟨1, 1⟩
def FIRN_ECMD_DROP_CTX : Fld := ⟨2, 1⟩
def FIRN_ESTAT_STATE : Fld := ⟨0, 2⟩
def FIRN_ESTAT_CTX_VALID : Fld := ⟨2, 1⟩
def FIRN_ESTAT_RESUMABLE : Fld := ⟨3, 1⟩
def FIRN_ESTAT_CTX_TAG : Fld := ⟨16, 16⟩
def FIRN_EERR_VERIFY_FAIL : Fld := ⟨0, 1⟩
def FIRN_EERR_CODE_BAD : Fld := ⟨1, 1⟩
def FIRN_EERR_CRC_BAD : Fld := ⟨2, 1⟩
def FIRN_EERR_LEN_BAD : Fld := ⟨3, 1⟩
def FIRN_EERR_CTX_BAD : Fld := ⟨4, 1⟩
def FIRN_EERR_DESC_BAD : Fld := ⟨5, 1⟩
def FIRN_EERR_BUS_ERR : Fld := ⟨6, 1⟩
def FIRN_EERR_TRUNCATED : Fld := ⟨7, 1⟩
def FIRN_EERR_CFG_ERR : Fld := ⟨8, 1⟩
def FIRN_LAST_RES_SEQ : Fld := ⟨0, 16⟩
def FIRN_LAST_RES_STATUS : Fld := ⟨16, 8⟩
def FIRN_LAST_RES_VALID : Fld := ⟨31, 1⟩
def ETH_ECTL_TX_EN : Fld := ⟨0, 1⟩
def ETH_ECTL_RX_EN : Fld := ⟨1, 1⟩
def ETH_ECTL_PROMISC : Fld := ⟨2, 1⟩
def ETH_ECTL_MCAST_ALL : Fld := ⟨3, 1⟩
def ETH_ECTL_BCAST_EN : Fld := ⟨4, 1⟩
def ETH_ECTL_TXC_DLY : Fld := ⟨5, 1⟩
def ETH_ECTL_RXC_DLY : Fld := ⟨6, 1⟩
def ETH_ESTAT_LINK : Fld := ⟨0, 1⟩
def ETH_ESTAT_SPEED : Fld := ⟨1, 2⟩
def ETH_ESTAT_FULL_DUPLEX : Fld := ⟨3, 1⟩
def ETH_ESTAT_TX_BUSY : Fld := ⟨4, 1⟩
def ETH_EERR_SPEED_BAD : Fld := ⟨0, 1⟩
def ETH_EERR_TX_BUS : Fld := ⟨1, 1⟩
def ETH_EERR_RX_BUS : Fld := ⟨2, 1⟩
def ETH_EERR_RX_DROP : Fld := ⟨3, 1⟩
def ETH_EERR_OS_BAD : Fld := ⟨4, 1⟩
def ETH_EERR_CFG_ERR : Fld := ⟨5, 1⟩
def ETH_MDIO_CMD_PHYAD : Fld := ⟨0, 5⟩
def ETH_MDIO_CMD_REGAD : Fld := ⟨5, 5⟩
def ETH_MDIO_CMD_OP : Fld := ⟨10, 2⟩
def ETH_MDIO_CMD_CLAUSE_45 : Fld := ⟨12, 1⟩
def ETH_MDIO_CMD_GO : Fld := ⟨13, 1⟩
def ETH_MDIO_STAT_SEQ : Fld := ⟨0, 16⟩
def ETH_MDIO_STAT_BUSY : Fld := ⟨16, 1⟩
def ETH_MDIO_STAT_VALID : Fld := ⟨31, 1⟩
def PTP_PCTL_ALARM_EN : Fld := ⟨0, 1⟩
def PTP_PCMD_LATCH : Fld := ⟨0, 1⟩
def PTP_PCMD_STEP : Fld := ⟨1, 1⟩
def PTP_PCMD_SLEW : Fld := ⟨2, 1⟩
def PTP_PCMD_SET : Fld := ⟨3, 1⟩
def PTP_PCMD_INVALIDATE : Fld := ⟨4, 1⟩
def PTP_PCMD_SLEW_STOP : Fld := ⟨5, 1⟩
def PTP_PSTAT_TIME_VALID : Fld := ⟨0, 1⟩
def PTP_PSTAT_SLEWING : Fld := ⟨1, 1⟩
def PTP_PERR_STEP_REFUSED : Fld := ⟨0, 1⟩
def PTP_PERR_CFG_ERR : Fld := ⟨1, 1⟩
def TPG_TCTL_OUT_EN : Fld := ⟨0, 1⟩
def TPG_TCTL_POL : Fld := ⟨1, 1⟩
def TPG_TCTL_START_MODE : Fld := ⟨2, 1⟩
def TPG_TCMD_ARM : Fld := ⟨0, 1⟩
def TPG_TCMD_STOP : Fld := ⟨1, 1⟩
def TPG_TCMD_ABORT : Fld := ⟨2, 1⟩
def TPG_TSTAT_STATE : Fld := ⟨0, 2⟩
def TPG_TSTAT_ACTIVE : Fld := ⟨2, 1⟩
def TPG_TERR_SKIPPED : Fld := ⟨0, 1⟩
def TPG_TERR_HALTED : Fld := ⟨1, 1⟩
def TPG_TERR_CFG_ERR : Fld := ⟨2, 1⟩
def EVF_STAT_LOOP_SUSPECT : Fld := ⟨0, 1⟩
def EVF_STAT_CFG_ERR : Fld := ⟨1, 1⟩
def EVF_STAT_ROUTE_LOCKED : Fld := ⟨2, 1⟩
def EVF_STAT_LAST_OVR : Fld := ⟨8, 8⟩
def EVF_FX_CTL_WB_EN : Fld := ⟨0, 1⟩
def EVF_FX_CTL_TH_WARN_EN : Fld := ⟨1, 1⟩
def EVF_FX_CTL_TH_YIELD_EN : Fld := ⟨2, 1⟩
def EVF_FX_CTL_WA_EN : Fld := ⟨3, 1⟩
def EVF_CH_CTL_SRC : Fld := ⟨0, 11⟩
def EVF_CH_CTL_EN : Fld := ⟨15, 1⟩
def EVF_CH_CTL_MIN_GAP : Fld := ⟨16, 10⟩
def EVF_CONS_CH : Fld := ⟨0, 8⟩
def EVF_CONS_EN : Fld := ⟨8, 1⟩
def SYS_SNAP_CTL_GO : Fld := ⟨0, 1⟩
def SYS_SNAP_CTL_VALID : Fld := ⟨15, 1⟩
def SYS_SNAP_CTL_SEQ : Fld := ⟨16, 16⟩
def SYS_SYS_ERR_SRAM_UE : Fld := ⟨0, 1⟩
def SYS_SYS_ERR_CACHE_UE : Fld := ⟨1, 1⟩
def SYS_SYS_ERR_TV_CORR : Fld := ⟨2, 1⟩
def SYS_CORE_CTL_RUN : Fld := ⟨0, 8⟩
def SYS_CORE_STAT_RUNNING : Fld := ⟨0, 8⟩
def SYS_CORE_STAT_WFI : Fld := ⟨8, 8⟩
def SYS_CORE_STAT_DEBUG : Fld := ⟨16, 8⟩
def GUARD_GCTL_RUN : Fld := ⟨0, 2⟩
def GUARD_GSTAT_RUNNING : Fld := ⟨0, 2⟩
def GUARD_GSTAT_WFI : Fld := ⟨2, 2⟩
def GUARD_GSTAT_MAIN_IN_RESET : Fld := ⟨4, 1⟩
def GUARD_GSTAT_ROM_WAIT : Fld := ⟨5, 2⟩
def GUARD_DOORBELL_TO_G_0 : Fld := ⟨0, 1⟩
def GUARD_DOORBELL_TO_G_1 : Fld := ⟨1, 1⟩
def GUARD_DOORBELL_TO_APP : Fld := ⟨2, 1⟩
def IRQC_PRIO_PRIO : Fld := ⟨0, 3⟩
def IRQC_PRIO_PRIV : Fld := ⟨3, 1⟩
def IRQC_TOP_ID : Fld := ⟨0, 11⟩
def IRQC_TOP_PRIO : Fld := ⟨11, 3⟩
def IRQC_TOP_VALID : Fld := ⟨31, 1⟩
def TWIN_TCTL_EN : Fld := ⟨0, 1⟩
def TWIN_TCTL_MODE : Fld := ⟨1, 1⟩
def TWIN_TCTL_TAKE_UNSYNCED : Fld := ⟨2, 1⟩
def TWIN_TCTL_AUX_LINK_EN : Fld := ⟨3, 1⟩
def TWIN_TCTL_MUX_SETTLE_US : Fld := ⟨8, 8⟩
def TWIN_TCTL_MATCH_TOL : Fld := ⟨16, 8⟩
def TWIN_TCMD_CLAIM : Fld := ⟨0, 1⟩
def TWIN_TCMD_JOIN : Fld := ⟨1, 1⟩
def TWIN_TCMD_HANDOVER : Fld := ⟨2, 1⟩
def TWIN_TCMD_RESYNC : Fld := ⟨3, 1⟩
def TWIN_TCMD_USER_SEND : Fld := ⟨4, 1⟩
def TWIN_TSTAT_ROLE : Fld := ⟨0, 2⟩
def TWIN_TSTAT_CLAIMING : Fld := ⟨2, 1⟩
def TWIN_TSTAT_PAIRED : Fld := ⟨3, 1⟩
def TWIN_TSTAT_SYNCED : Fld := ⟨4, 1⟩
def TWIN_TSTAT_ACT_OUT : Fld := ⟨5, 1⟩
def TWIN_TSTAT_ACT_IN : Fld := ⟨6, 1⟩
def TWIN_TSTAT_HB_1_OK : Fld := ⟨7, 1⟩
def TWIN_TSTAT_HB_2_OK : Fld := ⟨8, 1⟩
def TWIN_TSTAT_TWIN_ID : Fld := ⟨9, 1⟩
def TWIN_TSTAT_PARTNER_ARMED : Fld := ⟨10, 1⟩
def TWIN_TSTAT_PARTNER_ROLE : Fld := ⟨11, 2⟩
def TWIN_TSTAT_LINK_MAIN : Fld := ⟨13, 1⟩
def TWIN_TSTAT_LINK_AUX : Fld := ⟨14, 1⟩
def TWIN_TERR_CFG_ERR : Fld := ⟨0, 1⟩
def TWIN_TERR_CLAIM_LOST : Fld := ⟨1, 1⟩
def TWIN_TERR_TAKE_REFUSED : Fld := ⟨2, 1⟩
def TWIN_TERR_ID_CLASH : Fld := ⟨3, 1⟩
def TWIN_TERR_DIVERGED : Fld := ⟨4, 1⟩
def TWIN_TERR_MIRROR_LOST : Fld := ⟨5, 1⟩
def TWIN_TERR_EARLY_SEND : Fld := ⟨6, 1⟩
def TWIN_TERR_TRIG_ALIGN_ERR : Fld := ⟨7, 1⟩
def TWIN_TERR_MATCH_DROP : Fld := ⟨8, 1⟩
def TWIN_TERR_YIELDED : Fld := ⟨9, 1⟩
def TWIN_TERR_HB_1_LOST : Fld := ⟨10, 1⟩
def TWIN_TERR_HB_2_LOST : Fld := ⟨11, 1⟩
def SUP_SCTL_WARN : Fld := ⟨0, 4⟩
def SUP_SCTL_FEED_THR : Fld := ⟨8, 4⟩
def SUP_SSTAT_WARN_NOW : Fld := ⟨0, 1⟩
def SUP_SSTAT_AON_A_OK : Fld := ⟨1, 1⟩
def SUP_SSTAT_AON_B_OK : Fld := ⟨2, 1⟩
def SUP_SSTAT_FEED_A_OK : Fld := ⟨3, 1⟩
def SUP_SSTAT_FEED_B_OK : Fld := ⟨4, 1⟩
def SUP_SSTAT_VCORE_MV : Fld := ⟨16, 10⟩
def SUP_SERR_WARN_SEEN : Fld := ⟨0, 1⟩
def SUP_SERR_CORE_RESET : Fld := ⟨1, 1⟩
def SUP_SERR_AON_A_LOST : Fld := ⟨2, 1⟩
def SUP_SERR_AON_B_LOST : Fld := ⟨3, 1⟩
def SUP_SERR_FEED_A_LOST : Fld := ⟨4, 1⟩
def SUP_SERR_FEED_B_LOST : Fld := ⟨5, 1⟩
def SUP_SERR_RAIL_LOW : Fld := ⟨6, 3⟩
def SUP_SERR_OVERTEMP : Fld := ⟨9, 1⟩
def CAL_CCTL_EN : Fld := ⟨0, 1⟩
def CAL_CCTL_TCAL_DELTA : Fld := ⟨8, 5⟩
def CAL_CCTL_AUTO : Fld := ⟨16, 8⟩
def CAL_DSTAT_SEQ : Fld := ⟨0, 16⟩
def CAL_DSTAT_BUSY : Fld := ⟨16, 1⟩
def CAL_DSTAT_PENDING : Fld := ⟨17, 1⟩
def CAL_DSTAT_FAIL : Fld := ⟨18, 1⟩
def CAL_DSTAT_VALID : Fld := ⟨31, 1⟩
def ERRLOG_FINFO_CODE : Fld := ⟨0, 5⟩
def ERRLOG_FINFO_REG : Fld := ⟨5, 2⟩
def ERRLOG_FINFO_INST : Fld := ⟨8, 8⟩
def ERRLOG_FINFO_TIME_VALID : Fld := ⟨16, 1⟩
def ERRLOG_FINFO_VALID : Fld := ⟨31, 1⟩
def QSPI_QCTL_DIV : Fld := ⟨0, 8⟩
def QSPI_QCTL_ADDR_LONG : Fld := ⟨8, 1⟩
def QSPI_QSTAT_SEQ : Fld := ⟨0, 16⟩
def QSPI_QSTAT_BUSY : Fld := ⟨16, 1⟩
def QSPI_QSTAT_VALID : Fld := ⟨31, 1⟩
def QSPI_QOP_OPCODE : Fld := ⟨0, 8⟩
def QSPI_QOP_ALINES : Fld := ⟨8, 2⟩
def QSPI_QOP_DLINES : Fld := ⟨10, 2⟩
def QSPI_QOP_ADDR_EN : Fld := ⟨12, 1⟩
def QSPI_QOP_DUMMY : Fld := ⟨13, 5⟩
def QSPI_QOP_WRITE : Fld := ⟨18, 1⟩
def QSPI_BOOT_STAT_BOOT_MODE : Fld := ⟨0, 2⟩
def QSPI_BOOT_STAT_SECURE : Fld := ⟨2, 1⟩
def QSPI_BOOT_STAT_JTAG_DIS : Fld := ⟨3, 1⟩
def QSPI_BOOT_STAT_KEY_REVOKE : Fld := ⟨4, 4⟩
def QSPI_BOOT_STAT_SVN : Fld := ⟨8, 7⟩
def QSPI_RST_REQ_GO : Fld := ⟨0, 1⟩
def QSPI_RST_REQ_KEY : Fld := ⟨16, 16⟩
def UART_UCTL_DIV : Fld := ⟨0, 12⟩
def UART_UCTL_EN : Fld := ⟨12, 1⟩
def UART_UCTL_STOP2 : Fld := ⟨13, 1⟩
def UART_UCTL_PARITY : Fld := ⟨14, 2⟩
def UART_UCMD_TX_PUSH : Fld := ⟨0, 1⟩
def UART_UCMD_RX_POP : Fld := ⟨1, 1⟩
def UART_UCMD_FLUSH : Fld := ⟨2, 1⟩
def UART_USTAT_TX_LEVEL : Fld := ⟨0, 5⟩
def UART_USTAT_RX_LEVEL : Fld := ⟨8, 5⟩
def UART_USTAT_RX_HEAD : Fld := ⟨16, 8⟩
def IIC_ISTAT_SEQ : Fld := ⟨0, 16⟩
def IIC_ISTAT_BUSY : Fld := ⟨16, 1⟩
def IIC_ISTAT_RESULT : Fld := ⟨17, 2⟩
def IIC_ISTAT_VALID : Fld := ⟨31, 1⟩

end Sys2Proof.F
end

