-- ==== Sys2Proof/Machine/RegMap.lean ====
section
/-! DEFINITION. The register map: one address per register of the spec's register tables (R59, R98, R124, R152, R153,
R176, R177, R231, R232, R255, R256, R284, R285, R308, R336, R337, R346, R352, R356, R364, R391 to R393, R415, R430 to
R432, R446 to R448), with its access type, its reset value and the bits a write may change. -/

namespace Sys2Proof.Machine

/-- The access types of R378; P and LK are flags of a row. -/
inductive Acc where
  | rw | ro | w1c | sc | mw | wo1
deriving DecidableEq, Repr

/-- One register of a block, with its index dimensions as (count, stride) pairs, outermost first. `cnt` is not 0 for a
counter and is then the distance to its holding register `_S` (R380). -/
structure RegRow where
  off : Nat
  dims : List (Nat × Nat)
  acc : Acc
  priv : Bool
  lk : Bool
  reset : Word
  mask : Word
  cnt : Nat
deriving DecidableEq, Repr

/-- A block of registers: its base, its replication and its registers. -/
structure RegBlock where
  base : Nat
  dims : List (Nat × Nat)
  rows : List RegRow
deriving DecidableEq, Repr

/-- Takes the index digits of an offset off, outermost first; the rest of the offset, if every index is in range. -/
def stripDims : List (Nat × Nat) → Nat → Option Nat
  | [], d => some d
  | (c, st) :: ds, d => if d / st < c then stripDims ds (d % st) else none

/-- Does offset `d` in a block instance hit this register? -/
def RegRow.hit (r : RegRow) (d : Nat) : Bool :=
  if r.off ≤ d then stripDims r.dims (d - r.off) == some 0 else false

/-- The register row at address `a` in a block. -/
def RegBlock.find (b : RegBlock) (a : Nat) : Option RegRow :=
  if b.base ≤ a then
    match stripDims b.dims (a - b.base) with
    | some d => b.rows.find? (fun r => r.hit d)
    | none => none
  else none

/-- The row constructor of the tables below: offset, dimensions, access type, reset value, writable bits. -/
def row (off : Nat) (dims : List (Nat × Nat)) (acc : Acc) (reset mask : Word) : RegRow :=
  ⟨off, dims, acc, false, false, reset, mask, 0⟩

/-- A row of type P. -/
def rowP (off : Nat) (dims : List (Nat × Nat)) (acc : Acc) (reset mask : Word) : RegRow :=
  ⟨off, dims, acc, true, false, reset, mask, 0⟩

/-- A row of type LK; `p` adds type P. -/
def rowLK (off : Nat) (dims : List (Nat × Nat)) (acc : Acc) (p : Bool) (reset mask : Word) : RegRow :=
  ⟨off, dims, acc, p, true, reset, mask, 0⟩

/-- A counter: RW, 32 bits, reset 0, with its holding register `s` bytes further on. -/
def rowC (off : Nat) (dims : List (Nat × Nat)) (s : Nat) : RegRow :=
  ⟨off, dims, .rw, false, false, 0, 0xffffffff, s⟩

/-- Registers of LANE, part 1 of 1 (R59). -/
def blkLaneRows0 : List RegRow :=
  [ /- QUAD_CTL -/ row 0 [] .rw 0x1000 0xf773,
    /- QUAD_CMD -/ row 4 [] .sc 0 3,
    /- QUAD_STAT -/ row 8 [] .ro 0 0,
    /- QUAD_ERR -/ row 0xc [] .w1c 0 0xf,
    /- TRAIN_TIMEOUT -/ row 0x10 [] .rw 0x2710 0xffff,
    /- BER_LIMIT -/ row 0x14 [] .rw 0x10 0xffff,
    /- LANE_CTL -/ row 0x1000 [(4, 0x400)] .rw 0x21 0xf3f7,
    /- LANE_FFE -/ row 0x1004 [(4, 0x400)] .rw 0 0x1f0f,
    /- LANE_CMD -/ row 0x1008 [(4, 0x400)] .sc 0 0xf,
    /- LANE_STAT -/ row 0x100c [(4, 0x400)] .ro 0 0,
    /- LANE_ERR -/ row 0x1010 [(4, 0x400)] .w1c 0 0x3f,
    /- LANE_INJ -/ row 0x1014 [(4, 0x400)] .rw 0 0x3f,
    /- PRBS_CTL -/ row 0x1018 [(4, 0x400)] .rw 0 0x7f,
    /- PRBS_ERR -/ rowC 0x1020 [(4, 0x400)] 0x20,
    /- PRBS_MBITS -/ rowC 0x1024 [(4, 0x400)] 0x20,
    /- SYNC_ERR -/ rowC 0x1028 [(4, 0x400)] 0x20,
    /- LOCK_LOSS -/ rowC 0x102c [(4, 0x400)] 0x20,
    /- EYE_CTL -/ row 0x1030 [(4, 0x400)] .rw 0 0x1f7f3f,
    /- EYE_STAT -/ row 0x1034 [(4, 0x400)] .ro 0 0,
    /- EYE_ERRS -/ row 0x1038 [(4, 0x400)] .ro 0 0 ]

/-- Block LANE at 0x49000000 (R59). -/
def blkLane : RegBlock :=
  ⟨0x49000000, [(32, 0x10000)], blkLaneRows0⟩

/-- Registers of ACT, part 1 of 2 (R98). -/
def blkActRows0 : List RegRow :=
  [ /- PORT_CTL -/ row 0 [] .rw 0xa20 0xff7f,
    /- PORT_CMD -/ row 4 [] .sc 0 0xf,
    /- PORT_STAT -/ row 8 [] .ro 0 0,
    /- PORT_ERR -/ row 0xc [] .w1c 0 0x7ffff,
    /- TIMING -/ row 0x10 [] .rw 0x40064 0xffffff,
    /- CABLE_NS -/ row 0x14 [] .rw 0 0xffff,
    /- TRIG_CTL -/ row 0x18 [] .rw 0 0x1f1,
    /- LAST_FRAME -/ row 0x1c [] .ro 0 0,
    /- RING_BASE_LO -/ row 0x20 [] .rw 0 0xffffffc0,
    /- RING_BASE_HI -/ row 0x24 [] .rw 0 0xff,
    /- RING_SIZE -/ row 0x28 [] .rw 0 0xffffffc0,
    /- RING_WR -/ row 0x2c [] .ro 0 0,
    /- RING_RD -/ row 0x30 [] .rw 0 0xffffffff,
    /- TRIG_NEXT -/ row 0x34 [] .rw 0 0xffff,
    /- RX_DESC -/ row 0x40 [(16, 4)] .ro 0 0,
    /- TX_DESC -/ row 0x80 [] .rw 0x100 0xffffffff,
    /- TX_DESC -/ row 0x80 [(16, 4)] .rw 0 0xffffffff,
    /- BC_CTL -/ row 0xc0 [] .rw 0 0x1f01,
    /- BC_ADDR -/ row 0xc4 [] .rw 0 0xffffffff,
    /- BC_CMD -/ row 0xc8 [] .sc 0 1,
    /- BC_STAT -/ row 0xcc [] .ro 0 0,
    /- BC_DATA -/ row 0x100 [(16, 4)] .rw 0 0xffffffff,
    /- TS_CTL -/ row 0x140 [] .rw 0 0xf,
    /- TS_CMD -/ row 0x144 [] .sc 0 1 ]

/-- Registers of ACT, part 2 of 2 (R98). -/
def blkActRows1 : List RegRow :=
  [ /- TS_STAT -/ row 0x148 [] .ro 0 0,
    /- TS_TARGET -/ row 0x14c [] .ro 0 0,
    /- TS_EFFECT -/ row 0x150 [] .ro 0 0,
    /- TS_ADDR -/ row 0x160 [(8, 8)] .rw 0 0xffffffff,
    /- TS_DATA -/ row 0x164 [(8, 8)] .rw 0 0xffffffff,
    /- OUT_VC -/ row 0x1c0 [(4, 4)] .rw 0 0xf1ff,
    /- HDR_CORR -/ rowC 0x200 [] 0x40,
    /- HDR_UNCORR -/ rowC 0x204 [] 0x40,
    /- CRC_ERR -/ rowC 0x208 [] 0x40,
    /- SEQ_GAP -/ rowC 0x20c [] 0x40,
    /- DROP_PKT -/ rowC 0x210 [] 0x40,
    /- SHORT_LINES -/ rowC 0x214 [] 0x40,
    /- OVERRUN_LINES -/ rowC 0x218 [] 0x40,
    /- RESTRIPES -/ rowC 0x21c [] 0x40,
    /- CTRL_TIMEOUTS -/ rowC 0x220 [] 0x40,
    /- ACK_LATE -/ rowC 0x224 [] 0x40,
    /- TRIG_SENT -/ rowC 0x228 [] 0x40,
    /- TRIG_SKIPPED -/ rowC 0x22c [] 0x40,
    /- TRIG_RX -/ rowC 0x230 [] 0x40,
    /- RING_DROP -/ rowC 0x234 [] 0x40,
    /- PKT_RX -/ rowC 0x238 [] 0x40,
    /- PKT_TX -/ rowC 0x23c [] 0x40 ]

/-- Block ACT at 0x4a000000 (R98). -/
def blkAct : RegBlock :=
  ⟨0x4a000000, [(32, 0x10000)], blkActRows0 ++ blkActRows1⟩

/-- Registers of FE, part 1 of 2 (R124). -/
def blkFeRows0 : List RegRow :=
  [ /- FE_CTL -/ row 0 [] .rw 0 7,
    /- FE_CMD -/ row 4 [] .sc 0 7,
    /- FE_STAT -/ row 8 [] .ro 0 0,
    /- FE_ERR -/ row 0xc [] .w1c 0 0x1fff,
    /- SRC -/ row 0x10 [] .rw 0 0x1f,
    /- GEOM -/ row 0x14 [] .rw 0x4004000 0x1fff7fff,
    /- FORMAT -/ row 0x18 [] .rw 0x490011 0x7d73f7,
    /- LINE_PERIOD_NS -/ row 0x20 [] .rw 0x2710 0xffffff,
    /- LINE_TIMEOUT -/ row 0x24 [] .rw 0x4e20 0xffffff,
    /- FE_STAT_FRAME -/ row 0x28 [] .ro 0 0,
    /- PEND_FRAME -/ row 0x2c [(2, 4)] .ro 0 0,
    /- PAD_VAL -/ row 0x40 [(4, 4)] .rw 0 0xfff,
    /- TAB_ADDR -/ row 0x60 [] .rw 0 0xffff,
    /- TAB_DATA -/ row 0x64 [] .rw 0x4000 0xffffffff,
    /- MOSAIC_ROW -/ row 0x70 [(4, 4)] .rw 0 0xffffff,
    /- STAT_BASE_LO -/ row 0x80 [] .rw 0 0xffffffc0,
    /- STAT_BASE_HI -/ row 0x84 [] .rw 0 0xff,
    /- STAT_ENTRIES -/ row 0x88 [] .rw 0 0xff,
    /- STAT_WR -/ row 0x8c [] .ro 0 0,
    /- STAT_RD -/ row 0x90 [] .rw 0 0xff,
    /- STAT_STAT -/ row 0x94 [] .ro 0 0,
    /- LAST_REC_FRAME -/ row 0x98 [] .ro 0 0,
    /- LINES_IN -/ rowC 0x100 [] 0x40,
    /- LINES_OUT -/ rowC 0x104 [] 0x40 ]

/-- Registers of FE, part 2 of 2 (R124). -/
def blkFeRows1 : List RegRow :=
  [ /- FRAMES -/ rowC 0x108 [] 0x40,
    /- LINES_PADDED -/ rowC 0x10c [] 0x40,
    /- LINES_SHORT -/ rowC 0x110 [] 0x40,
    /- LINES_OVERRUN -/ rowC 0x114 [] 0x40,
    /- LINES_GAP -/ rowC 0x118 [] 0x40,
    /- LINES_LONG -/ rowC 0x11c [] 0x40,
    /- LINES_CRC -/ rowC 0x120 [] 0x40,
    /- LINES_LATE -/ rowC 0x124 [] 0x40,
    /- LINES_DROPPED -/ rowC 0x128 [] 0x40,
    /- LINES_MISSING -/ rowC 0x12c [] 0x40,
    /- FRAME_JUMPS -/ rowC 0x130 [] 0x40,
    /- BANK_SWITCHES -/ rowC 0x134 [] 0x40,
    /- STAT_DROP -/ rowC 0x138 [] 0x40,
    /- STAT_OUT_DROP -/ rowC 0x13c [] 0x40,
    /- DARK_SCALE -/ row 0x1000 [(2, 0x100)] .rw 0x1000 0xffff,
    /- BLACK -/ row 0x1004 [(2, 0x100), (6, 4)] .rw 0 0xffff,
    /- GAIN -/ row 0x1020 [(2, 0x100), (6, 4)] .rw 0x1000 0xffff,
    /- XT -/ row 0x1040 [(2, 0x100)] .rw 0x1000 0xffffffff,
    /- XT -/ row 0x1050 [(2, 0x100)] .rw 0x10000000 0xffffffff,
    /- XT -/ row 0x1064 [(2, 0x100)] .rw 0x1000 0xffffffff,
    /- XT -/ row 0x1074 [(2, 0x100)] .rw 0x10000000 0xffffffff,
    /- XT -/ row 0x1040 [(2, 0x100), (4, 0x10), (3, 4)] .rw 0 0xffffffff,
    /- OFFS -/ row 0x1080 [(2, 0x100), (4, 4)] .rw 0 0xffff ]

/-- Block FE at 0x4b000000 (R124). -/
def blkFe : RegBlock :=
  ⟨0x4b000000, [(24, 0x40000)], blkFeRows0 ++ blkFeRows1⟩

/-- Registers of STITCH, part 1 of 1 (R152). -/
def blkStitchRows0 : List RegRow :=
  [ /- TAB_ADDR -/ row 0 [] .rw 0 0x7ffff,
    /- TAB_LO -/ row 4 [] .rw 0 0xffffffff,
    /- TAB_HI -/ row 8 [] .rw 0 0xff ]

/-- Block STITCH at 0x4c000000 (R152). -/
def blkStitch : RegBlock :=
  ⟨0x4c000000, [], blkStitchRows0⟩

/-- Registers of STITCH, part 1 of 2 (R152). -/
def blkStitch1Rows0 : List RegRow :=
  [ /- VIEW -/ row 0 [] .rw 0x44000 0xf71f1,
    /- VIEW_CMD -/ row 4 [] .sc 0 7,
    /- VIEW_STAT -/ row 8 [] .ro 0 0,
    /- VIEW_ERR -/ row 0xc [] .w1c 0 0xfff,
    /- WIDTH -/ row 0x10 [] .rw 0 0x3ffff,
    /- ROW_PERIOD_NS -/ row 0x14 [] .rw 0x2710 0xffffff,
    /- ROW_TIMEOUT -/ row 0x18 [] .rw 0x7530 0xfffff,
    /- TAB_BASE -/ row 0x1c [] .rw 0 0xfffff,
    /- TAB_BASE_NEXT -/ row 0x20 [] .rw 0 0xfffff,
    /- TAB_USED -/ row 0x24 [] .ro 0 0,
    /- DLY_BASE_LO -/ row 0x28 [] .rw 0 0xfffff000,
    /- DLY_BASE_HI -/ row 0x2c [] .rw 0 0xff,
    /- DLY_SIZE -/ row 0x30 [] .rw 0 0xfffff000,
    /- ROW_NO -/ row 0x34 [] .ro 0 0,
    /- LAST_FRAME -/ row 0x38 [] .ro 0 0,
    /- PAD_VAL -/ row 0x40 [(4, 4)] .rw 0 0xfff,
    /- SLOT -/ row 0x60 [(8, 4)] .rw 0 0xff9f,
    /- ROWS_OUT -/ rowC 0x100 [] 0x40,
    /- ROWS_TIMED_OUT -/ rowC 0x104 [] 0x40,
    /- ROWS_FORCED -/ rowC 0x108 [] 0x40,
    /- SEG_MISSING -/ rowC 0x10c [] 0x40,
    /- ROWS_ALL_PAD -/ rowC 0x110 [] 0x40,
    /- ROWS_LOST -/ rowC 0x114 [] 0x40,
    /- LATE_CONTRIB -/ rowC 0x118 [] 0x40 ]

/-- Registers of STITCH, part 2 of 2 (R152). -/
def blkStitch1Rows1 : List RegRow :=
  [ /- DUP_CONTRIB -/ rowC 0x11c [] 0x40,
    /- PRE_SYNC -/ rowC 0x120 [] 0x40,
    /- ANCHOR_GUESS -/ rowC 0x124 [] 0x40,
    /- SWAPS -/ rowC 0x128 [] 0x40,
    /- TORN_ROWS -/ rowC 0x12c [] 0x40,
    /- DLY_STALL -/ rowC 0x130 [] 0x40 ]

/-- Block STITCH at 0x4c001000 (R152). -/
def blkStitch1 : RegBlock :=
  ⟨0x4c001000, [(4, 0x400)], blkStitch1Rows0 ++ blkStitch1Rows1⟩

/-- Registers of DRIFT, part 1 of 1 (R153). -/
def blkDriftRows0 : List RegRow :=
  [ /- DRIFT_CTL -/ row 0 [] .rw 0x80242 0xff0f7f,
    /- DRIFT_CMD -/ row 4 [] .sc 0 3,
    /- DRIFT_STAT -/ row 8 [] .ro 0 0,
    /- DRIFT_ERR -/ row 0xc [] .w1c 0 1,
    /- FREEZE_ROWS -/ row 0x10 [] .rw 0x40 0xffff,
    /- COVER_THR -/ row 0x20 [(4, 4)] .rw 0x40 0xfff,
    /- PROBE_COL -/ row 0x40 [] .rw 0 0x1ffff,
    /- PROBE_STAT -/ row 0x44 [] .ro 0 0,
    /- PROBE_ROW -/ row 0x48 [] .ro 0 0,
    /- PROBE_VAL -/ row 0x50 [(4, 4)] .ro 0 0,
    /- UPDATE_ROWS -/ rowC 0x100 [] 0x40,
    /- FROZEN_COLS -/ rowC 0x104 [] 0x40,
    /- GFREEZE_ROWS -/ rowC 0x108 [] 0x40,
    /- FREEZE_EVENTS -/ rowC 0x10c [] 0x40,
    /- SEEDS -/ rowC 0x110 [] 0x40 ]

/-- Block DRIFT at 0x4d000000 (R153). -/
def blkDrift : RegBlock :=
  ⟨0x4d000000, [(4, 0x400)], blkDriftRows0⟩

/-- Registers of HEARTH, part 1 of 1 (R176). -/
def blkHearthRows0 : List RegRow :=
  [ /- TSTAT -/ row 0 [] .ro 0 0,
    /- TERR -/ row 4 [] .w1c 0 0xf,
    /- ROW_CYC_MAX -/ row 8 [] .rw 0 0xffffff,
    /- CTX_STAT -/ row 0x20 [(4, 0x10)] .ro 0 0,
    /- CTX_CMD -/ row 0x24 [(4, 0x10)] .sc 0 7,
    /- CTX_ROW -/ row 0x28 [(4, 0x10)] .ro 0 0,
    /- CTX_PC -/ row 0x2c [(4, 0x10)] .ro 0 0,
    /- ROWS_RUN -/ rowC 0x100 [] 0x40,
    /- ROWS_DROPPED -/ rowC 0x104 [] 0x40,
    /- FRAGS_OUT -/ rowC 0x108 [] 0x40,
    /- FRAGS_CUT -/ rowC 0x10c [] 0x40,
    /- FRAG_STALL_CYC -/ rowC 0x110 [] 0x40,
    /- CTX_FAULTS -/ rowC 0x114 [] 0x40 ]

/-- Block HEARTH at 0x50000000 (R176). -/
def blkHearth : RegBlock :=
  ⟨0x50000000, [(64, 0x100000)], blkHearthRows0⟩

/-- Registers of HEARTH, part 1 of 1 (R177). -/
def blkHearth1Rows0 : List RegRow :=
  [ /- GCTL -/ row 0 [] .rw 0 7,
    /- GCMD -/ row 4 [] .sc 0 0xf,
    /- GSTAT -/ row 8 [] .ro 0 0,
    /- GERR -/ row 0xc [] .w1c 0 0xf,
    /- TILES_LO -/ row 0x10 [] .rw 0 0xffffffff,
    /- TILES_HI -/ row 0x14 [] .rw 0 0xffffffff,
    /- LAYOUT -/ row 0x18 [] .rw 0x400 0x13f07ff,
    /- RING -/ row 0x1c [] .rw 2 0x1fff1f7f,
    /- PROG -/ row 0x20 [] .rw 0 0xfff07ff,
    /- ENTRY -/ row 0x24 [] .rw 0 0x7ff07ff,
    /- PROG_NEXT -/ row 0x28 [] .rw 0 0xfff07ff,
    /- ENTRY_NEXT -/ row 0x2c [] .rw 0 0x7ff07ff,
    /- WDOG -/ row 0x30 [] .rw 0 0xffffff,
    /- CTX_CTL -/ row 0x40 [(4, 0x10)] .rw 0 0xf7,
    /- COL_LO -/ row 0x44 [(4, 0x10)] .rw 0 0x1ffff,
    /- COL_HI -/ row 0x48 [(4, 0x10)] .rw 0 0x1ffff,
    /- SPILL_BASE_LO -/ row 0x80 [(4, 8)] .rw 0 0xfffff000,
    /- SPILL_BASE_HI -/ row 0x84 [(4, 8)] .rw 0 0xff,
    /- SPILL_SIZE -/ row 0xa0 [(4, 4)] .rw 0 0xfffff000,
    /- FRAMES_RUN -/ rowC 0x100 [] 0x40,
    /- FRAMES_SPILLED -/ rowC 0x104 [] 0x40,
    /- FRAMES_REPLAYED -/ rowC 0x108 [] 0x40,
    /- FRAMES_DROPPED -/ rowC 0x10c [] 0x40,
    /- SWAPS -/ rowC 0x110 [] 0x40 ]

/-- Block HEARTH at 0x500f0000 (R177). -/
def blkHearth1 : RegBlock :=
  ⟨0x500f0000, [(16, 0x400)], blkHearth1Rows0⟩

/-- Registers of MORAINE, part 1 of 2 (R231). -/
def blkMoraineRows0 : List RegRow :=
  [ /- MCTL -/ row 0 [] .rw 0x641008 0xffffff1f,
    /- MCMD -/ row 4 [] .sc 0 0xf,
    /- MSTAT -/ row 8 [] .ro 0 0,
    /- MERR -/ row 0xc [] .w1c 0 0x3ff,
    /- HORIZON_NS -/ row 0x10 [] .rw 0x30d40 0xffffff,
    /- REC_BASE_LO -/ row 0x20 [] .rw 0 0xffffffc0,
    /- REC_BASE_HI -/ row 0x24 [] .rw 0 0xff,
    /- REC_ENTRIES -/ row 0x28 [] .rw 0 0xffff,
    /- REC_WR -/ row 0x2c [] .ro 0 0,
    /- REC_RD -/ row 0x30 [] .rw 0 0xffff,
    /- OBJ_USED -/ row 0x38 [] .ro 0 0,
    /- OBJ_PEAK -/ row 0x3c [] .rw 0 0x1ffff,
    /- DSEQ -/ row 0x40 [] .ro 0 0,
    /- FRAGS_IN -/ rowC 0x100 [] 0x40,
    /- FRAGS_JOINED -/ rowC 0x104 [] 0x40,
    /- FRAGS_DROPPED -/ rowC 0x108 [] 0x40,
    /- FRAGS_LATE -/ rowC 0x10c [] 0x40,
    /- OBJ_CREATED -/ rowC 0x110 [] 0x40,
    /- OBJ_FUSED -/ rowC 0x114 [] 0x40,
    /- PARTNER_MISSED -/ rowC 0x118 [] 0x40,
    /- DECIDED_ACCEPT -/ rowC 0x11c [] 0x40,
    /- DECIDED_REJECT -/ rowC 0x120 [] 0x40,
    /- DECIDED_RECHECK -/ rowC 0x124 [] 0x40,
    /- TAGS_LOST -/ rowC 0x128 [] 0x40 ]

/-- Registers of MORAINE, part 2 of 2 (R231). -/
def blkMoraineRows1 : List RegRow :=
  [ /- EDGE_FULL -/ rowC 0x12c [] 0x40,
    /- EARLY_RETIRE -/ rowC 0x130 [] 0x40,
    /- REC_WRITTEN -/ rowC 0x134 [] 0x40,
    /- REC_DROP -/ rowC 0x138 [] 0x40,
    /- REC_OUT_DROP -/ rowC 0x13c [] 0x40 ]

/-- Block MORAINE at 0x54000000 (R231). -/
def blkMoraine : RegBlock :=
  ⟨0x54000000, [], blkMoraineRows0 ++ blkMoraineRows1⟩

/-- Registers of MVIEW, part 1 of 1 (R232). -/
def blkMviewRows0 : List RegRow :=
  [ /- VCTL -/ row 0 [] .rw 0 0xf1f3f,
    /- X_SCALE -/ row 4 [] .rw 0x10000 0xffffffff,
    /- X_OFFS -/ row 8 [] .rw 0 0xffffffff,
    /- X_TOL -/ row 0xc [] .rw 0x40 0x3ffff,
    /- T_OFFS -/ row 0x10 [] .rw 0 0xffffffff,
    /- T_TOL -/ row 0x14 [] .rw 0xc350 0xffffffff,
    /- FUSE_WAIT -/ row 0x18 [] .rw 0x2dc6c0 0xffffffff,
    /- OPEN_OFFS -/ row 0x1c [] .rw 0 0xffffffff,
    /- CLOSE_OFFS -/ row 0x20 [] .rw 0 0xffffffff,
    /- VALVE_SCALE -/ row 0x24 [] .rw 0 0xffffffff,
    /- VALVE_OFFS -/ row 0x28 [] .rw 0 0xffffffff,
    /- VALVE_RANGE -/ row 0x2c [] .rw 0x7ff0000 0x7ff07ff,
    /- SPAN -/ row 0x30 [] .rw 0x800 0x7fff,
    /- FT_MIN -/ row 0x34 [] .rw 0 0xffffffff,
    /- FT_STEP -/ row 0x38 [] .rw 0x400000 0xffffffff,
    /- PORT_MAP -/ row 0x40 [(8, 4)] .rw 0 0x9f03ffff ]

/-- Block MVIEW at 0x54001000 (R232). -/
def blkMview : RegBlock :=
  ⟨0x54001000, [(4, 0x100)], blkMviewRows0⟩

/-- Registers of BELLOWS, part 1 of 2 (R255). -/
def blkBellowsRows0 : List RegRow :=
  [ /- BCTL -/ row 0 [] .rw 2 0xf,
    /- BCMD -/ row 4 [] .sc 0 0x1f,
    /- BSTAT -/ row 8 [] .ro 0 0,
    /- BERR -/ row 0xc [] .w1c 0 0x3ff,
    /- LEAD -/ row 0x10 [] .rw 0x3c07d0 0xffffff,
    /- WDOG_US -/ row 0x14 [] .rw 0x186a0 0xffffff,
    /- MAX_ON_US -/ row 0x18 [] .rw 0xc350 0xffff,
    /- Q_USED -/ row 0x1c [] .ro 0 0,
    /- Q_PEAK -/ row 0x20 [] .rw 0 0x1ffff,
    /- TEST_VALVE -/ row 0x30 [] .rw 0 0xffff07ff,
    /- TEST_TIME_LO -/ row 0x34 [] .rw 0 0xffffffff,
    /- TEST_TIME_HI -/ row 0x38 [] .rw 0 0xffffffff,
    /- TEST_STAT -/ row 0x3c [] .ro 0 0,
    /- VALVE_EN -/ row 0x40 [(64, 4)] .rw 0xffffffff 0xffffffff,
    /- OBJ_IN -/ rowC 0x200 [] 0x40,
    /- ACT_IN -/ rowC 0x204 [] 0x40,
    /- ACT_QUEUED -/ rowC 0x208 [] 0x40,
    /- ACT_MERGED -/ rowC 0x20c [] 0x40,
    /- ACT_SENT -/ rowC 0x210 [] 0x40,
    /- ACT_DONE -/ rowC 0x214 [] 0x40,
    /- ACT_LATE -/ rowC 0x218 [] 0x40,
    /- ACT_MISSED -/ rowC 0x21c [] 0x40,
    /- ACT_QFULL -/ rowC 0x220 [] 0x40,
    /- ACT_MASKED -/ rowC 0x224 [] 0x40 ]

/-- Registers of BELLOWS, part 2 of 2 (R255). -/
def blkBellowsRows1 : List RegRow :=
  [ /- ACT_ON_LIMIT -/ rowC 0x228 [] 0x40,
    /- ACT_DISARM -/ rowC 0x22c [] 0x40,
    /- ACT_SHADOW -/ rowC 0x230 [] 0x40,
    /- RETX -/ rowC 0x234 [] 0x40 ]

/-- Block BELLOWS at 0x55000000 (R255). -/
def blkBellows : RegBlock :=
  ⟨0x55000000, [], blkBellowsRows0 ++ blkBellowsRows1⟩

/-- Registers of EJL, part 1 of 1 (R256). -/
def blkEjlRows0 : List RegRow :=
  [ /- LCTL -/ row 0 [] .rw 0 0x3ff0001,
    /- LCMD -/ row 4 [] .sc 0 1,
    /- LSTAT -/ row 8 [] .ro 0 0,
    /- LERR -/ row 0xc [] .w1c 0 0x1ff,
    /- COIL_OPEN -/ row 0x10 [] .ro 0 0,
    /- COIL_SHORT -/ row 0x14 [] .ro 0 0,
    /- VALVE_ON -/ row 0x18 [] .ro 0 0,
    /- BANK_ENV -/ row 0x1c [] .ro 0 0,
    /- BANK_TB -/ row 0x20 [] .ro 0 0,
    /- BANK_ID -/ row 0x24 [] .ro 0 0,
    /- BANK_CNT -/ row 0x28 [] .ro 0 0,
    /- REJOIN_LO -/ row 0x2c [] .ro 0 0,
    /- REJOIN_HI -/ row 0x30 [] .ro 0 0,
    /- FRAMES_TX -/ rowC 0x40 [] 0x20,
    /- UP_OK -/ rowC 0x44 [] 0x20,
    /- UP_CRC_ERR -/ rowC 0x48 [] 0x20,
    /- UP_MISSING -/ rowC 0x4c [] 0x20,
    /- RETX_FRAMES -/ rowC 0x50 [] 0x20,
    /- LINK_UPS -/ rowC 0x54 [] 0x20,
    /- OUT_DROP -/ rowC 0x58 [] 0x20 ]

/-- Block EJL at 0x55100000 (R256). -/
def blkEjl : RegBlock :=
  ⟨0x55100000, [(64, 0x80)], blkEjlRows0⟩

/-- Registers of FB, part 1 of 1 (R284). -/
def blkFbRows0 : List RegRow :=
  [ /- CTL -/ row 0 [] .rw 0x2810 0xffff,
    /- CMD -/ row 4 [] .sc 0 7,
    /- STAT -/ row 8 [] .ro 0 0,
    /- ERR -/ row 0xc [] .w1c 0 0x1f,
    /- POS -/ row 0x10 [] .ro 0 0,
    /- SPEED -/ row 0x14 [] .ro 0 0,
    /- POS_SET -/ row 0x18 [] .rw 0 0xffffffff,
    /- INDEX_POS -/ row 0x1c [] .rw 0 0xffffffff,
    /- IDX_CAPT -/ row 0x20 [] .ro 0 0,
    /- SPEED_TIMEOUT -/ row 0x24 [] .rw 0x186a0 0xffffff,
    /- LAST_IVL -/ row 0x28 [] .ro 0 0,
    /- EDGES -/ rowC 0x40 [] 0x10,
    /- INDEXES -/ rowC 0x44 [] 0x10,
    /- HALL_INVALID -/ rowC 0x48 [] 0x10,
    /- HALL_SKIP -/ rowC 0x4c [] 0x10 ]

/-- Block FB at 0x56000000 (R284). -/
def blkFb : RegBlock :=
  ⟨0x56000000, [(24, 0x80)], blkFbRows0⟩

/-- Registers of AX, part 1 of 2 (R285). -/
def blkAxRows0 : List RegRow :=
  [ /- CTL -/ row 0 [] .rw 0x14 0x1f,
    /- CMD -/ row 4 [] .sc 0 0x3ff,
    /- STAT -/ row 8 [] .ro 0 0,
    /- ERR -/ row 0xc [] .w1c 0 0xfff,
    /- POS -/ row 0x10 [] .ro 0 0,
    /- VEL -/ row 0x14 [] .ro 0 0,
    /- POS_SET -/ row 0x18 [] .rw 0 0xffffffff,
    /- MOVE -/ row 0x1c [] .rw 0 0x7fffffff,
    /- TRAP_TARGET -/ row 0x20 [] .rw 0 0xffffffff,
    /- PROF_VMAX -/ row 0x24 [] .rw 0 0xffffffff,
    /- PROF_ACC -/ row 0x28 [] .rw 0 0xffffffff,
    /- PROF_DEC -/ row 0x2c [] .rw 0 0xffffffff,
    /- STOP_DEC -/ row 0x30 [] .rw 0xf4240 0xffffffff,
    /- CUR -/ row 0x34 [] .rw 0x640000 0xffffff,
    /- CHOP -/ row 0x38 [] .rw 0x280419 0xffffff,
    /- CHOP_DLY -/ row 0x3c [] .rw 0 0x3ff,
    /- CHOP_STAT -/ row 0x40 [] .ro 0 0,
    /- LIMIT -/ row 0x44 [] .rw 0xa 0xfff,
    /- HOME -/ row 0x48 [] .rw 0 0xf,
    /- HOME_VEL -/ row 0x4c [] .rw 0 0xffffffff,
    /- HOME_POS -/ row 0x50 [] .rw 0 0xffffffff,
    /- STALL -/ row 0x54 [] .rw 0 0xffffff,
    /- STALL_K -/ row 0x58 [] .rw 0 0xffffffff,
    /- GEAR -/ row 0x5c [] .rw 0x10001 0xffffffff ]

/-- Registers of AX, part 2 of 2 (R285). -/
def blkAxRows1 : List RegRow :=
  [ /- GEAR_NEXT -/ row 0x60 [] .rw 0x10001 0xffffffff,
    /- GEAR_AT -/ row 0x64 [] .rw 0 0xffffffff,
    /- GEAR_SRC -/ row 0x68 [] .rw 0 0x1f,
    /- GEAR_VMAX -/ row 0x6c [] .rw 0 0xffffffff,
    /- MOVES_DONE -/ rowC 0x80 [] 0x20,
    /- MOVES_REFUSED -/ rowC 0x84 [] 0x20,
    /- MOVES_FLUSHED -/ rowC 0x88 [] 0x20,
    /- STALLS -/ rowC 0x8c [] 0x20,
    /- LIMIT_TRIPS -/ rowC 0x90 [] 0x20,
    /- GEAR_CHANGES -/ rowC 0x94 [] 0x20,
    /- CHOP_CYCLES -/ rowC 0x98 [] 0x20 ]

/-- Block AX at 0x56100000 (R285). -/
def blkAx : RegBlock :=
  ⟨0x56100000, [(16, 0x200)], blkAxRows0 ++ blkAxRows1⟩

/-- Registers of MC, part 1 of 1 (R308). -/
def blkMcRows0 : List RegRow :=
  [ /- CTL -/ row 0 [] .rw 0x803f 0xf33f,
    /- CMD -/ row 4 [] .sc 0 3,
    /- STAT -/ row 8 [] .w1c 0 0x3f3f,
    /- ERR -/ row 0xc [] .w1c 0 7,
    /- DRAM_TOP -/ row 0x10 [] .ro 0 0,
    /- EVAC_RESERVE -/ row 0x14 [] .rw 0x400 0x1fff,
    /- RES_BASE -/ row 0x18 [] .ro 0 0,
    /- MIGRATE_RATE -/ row 0x1c [] .rw 0x40 0xff,
    /- PERM -/ row 0x100 [(64, 4)] .rw 0 0x87 ]

/-- Block MC at 0x48000000 (R308). -/
def blkMc : RegBlock :=
  ⟨0x48000000, [], blkMcRows0⟩

/-- Registers of MC, part 1 of 1 (R308). -/
def blkMc1Rows0 : List RegRow :=
  [ /- CH_CTL -/ row 0 [] .rw 0x100000 0x7fff01,
    /- CH_CMD -/ row 4 [] .sc 0 0x1f,
    /- CH_STAT -/ row 8 [] .ro 0 0,
    /- CH_ERR -/ row 0xc [] .w1c 0 0x1f,
    /- DIST_THR -/ row 0x10 [] .rw 0x4000 0xffff,
    /- DEV_TEMP -/ row 0x14 [] .rw 0 0xff,
    /- MIG_PTR -/ row 0x18 [] .ro 0 0,
    /- ERR_ADDR_LO -/ row 0x1c [] .ro 0 0,
    /- ERR_ADDR_HI -/ row 0x20 [] .ro 0 0,
    /- TRAIN_STAT -/ row 0x24 [] .ro 0 0,
    /- TRAIN_RD -/ row 0x40 [(8, 4)] .ro 0 0,
    /- TRAIN_WR -/ row 0x60 [(8, 4)] .ro 0 0,
    /- READS -/ rowC 0x100 [] 0x40,
    /- WRITES -/ rowC 0x104 [] 0x40,
    /- RMW -/ rowC 0x108 [] 0x40,
    /- ACTS -/ rowC 0x10c [] 0x40,
    /- ROW_HITS -/ rowC 0x110 [] 0x40,
    /- REFRESHES -/ rowC 0x114 [] 0x40,
    /- REF_POSTPONED -/ rowC 0x118 [] 0x40,
    /- NREF -/ rowC 0x11c [] 0x40,
    /- CE -/ rowC 0x120 [] 0x40,
    /- UE -/ rowC 0x124 [] 0x40,
    /- UE_MIGRATED -/ rowC 0x128 [] 0x40,
    /- MIGRATED_BLOCKS -/ rowC 0x12c [] 0x40 ]

/-- Block MC at 0x48001000 (R308). -/
def blkMc1 : RegBlock :=
  ⟨0x48001000, [(6, 0x400)], blkMc1Rows0⟩

/-- Registers of DMA, part 1 of 1 (R336). -/
def blkDmaRows0 : List RegRow :=
  [ /- STAT -/ row 0 [] .ro 0 0 ]

/-- Block DMA at 0x46000000 (R336). -/
def blkDma : RegBlock :=
  ⟨0x46000000, [], blkDmaRows0⟩

/-- Registers of DMA, part 1 of 1 (R336). -/
def blkDma1Rows0 : List RegRow :=
  [ /- CH_CTL -/ row 0 [] .rw 0 0x1f,
    /- CH_CMD -/ row 4 [] .sc 0 7,
    /- DOORBELL -/ row 8 [] .sc 0 1,
    /- CH_STAT -/ row 0xc [] .ro 0 0,
    /- CH_ERR -/ row 0x10 [] .w1c 0 0x3f,
    /- DESC_LO -/ row 0x14 [] .rw 0 0xffffffc0,
    /- DESC_HI -/ row 0x18 [] .rw 0 0xff,
    /- CUR_LO -/ row 0x1c [] .ro 0 0,
    /- CUR_HI -/ row 0x20 [] .ro 0 0,
    /- RES_A -/ row 0x24 [] .ro 0 0,
    /- RES_B -/ row 0x28 [] .ro 0 0,
    /- ERR_ADDR_LO -/ row 0x2c [] .ro 0 0,
    /- ERR_ADDR_HI -/ row 0x30 [] .ro 0 0,
    /- DESCS_DONE -/ rowC 0x40 [] 0x20,
    /- BLOCKS -/ rowC 0x44 [] 0x20,
    /- DOORBELLS -/ rowC 0x48 [] 0x20,
    /- DB_EMPTY -/ rowC 0x4c [] 0x20,
    /- HALTS -/ rowC 0x50 [] 0x20,
    /- ABORTS -/ rowC 0x54 [] 0x20 ]

/-- Block DMA at 0x46001000 (R336). -/
def blkDma1 : RegBlock :=
  ⟨0x46001000, [(32, 0x100)], blkDma1Rows0⟩

/-- Registers of FIRN, part 1 of 1 (R337). -/
def blkFirnRows0 : List RegRow :=
  [ /- ECTL -/ row 0 [] .rw 0 1,
    /- ECMD -/ row 4 [] .sc 0 7,
    /- ESTAT -/ row 8 [] .ro 0 0,
    /- EERR -/ row 0xc [] .w1c 0 0x1ff,
    /- JOB_BASE_LO -/ row 0x10 [] .rw 0 0xffffffc0,
    /- JOB_BASE_HI -/ row 0x14 [] .rw 0 0xff,
    /- JOB_ENTRIES -/ row 0x18 [] .rw 0 0xffff,
    /- JOB_WR -/ row 0x1c [] .rw 0 0xffff,
    /- JOB_RD -/ row 0x20 [] .ro 0 0,
    /- CHUNK_MAX -/ row 0x24 [] .rw 0x2000 0x1ffff,
    /- LAST_RES -/ row 0x28 [] .ro 0 0,
    /- JOBS_DONE -/ rowC 0x40 [] 0x20,
    /- JOBS_EXPANDED -/ rowC 0x44 [] 0x20,
    /- JOBS_OUT_FULL -/ rowC 0x48 [] 0x20,
    /- JOBS_FAILED -/ rowC 0x4c [] 0x20,
    /- IN_KIB -/ rowC 0x50 [] 0x20,
    /- OUT_KIB -/ rowC 0x54 [] 0x20,
    /- STALL_US -/ rowC 0x58 [] 0x20,
    /- OUT_DISCARD -/ rowC 0x5c [] 0x20 ]

/-- Block FIRN at 0x47001000 (R337). -/
def blkFirn : RegBlock :=
  ⟨0x47001000, [(8, 0x100)], blkFirnRows0⟩

/-- Registers of ETH, part 1 of 2 (R346). -/
def blkEthRows0 : List RegRow :=
  [ /- ECTL -/ row 0 [] .rw 0x10 0x7f,
    /- ESTAT -/ row 8 [] .ro 0 0,
    /- EERR -/ row 0xc [] .w1c 0 0x3f,
    /- MAC_LO -/ row 0x10 [] .rw 0 0xffffffff,
    /- MAC_HI -/ row 0x14 [] .rw 0 0xffff,
    /- MAX_LEN -/ row 0x18 [] .rw 0x5f2 0xfff,
    /- TX_BASE_LO -/ row 0x20 [] .rw 0 0xffffffe0,
    /- TX_BASE_HI -/ row 0x24 [] .rw 0 0xff,
    /- TX_ENTRIES -/ row 0x28 [] .rw 0 0xffff,
    /- TX_WR -/ row 0x2c [] .rw 0 0xffff,
    /- TX_RD -/ row 0x30 [] .ro 0 0,
    /- RX_BASE_LO -/ row 0x40 [] .rw 0 0xffffffe0,
    /- RX_BASE_HI -/ row 0x44 [] .rw 0 0xff,
    /- RX_ENTRIES -/ row 0x48 [] .rw 0 0xffff,
    /- RX_WR -/ row 0x4c [] .ro 0 0,
    /- RX_RD -/ row 0x50 [] .rw 0 0xffff,
    /- MDIO_CTL -/ row 0x60 [] .rw 0x27 0x1ff,
    /- MDIO_CMD -/ row 0x64 [] .rw 0 0x1fff,
    /- MDIO_DATA -/ row 0x68 [] .rw 0 0xffff,
    /- MDIO_STAT -/ row 0x6c [] .ro 0 0,
    /- TX_FRAMES -/ rowC 0x100 [] 0x40,
    /- TX_OS -/ rowC 0x104 [] 0x40,
    /- TX_ERR -/ rowC 0x108 [] 0x40,
    /- RX_FRAMES -/ rowC 0x10c [] 0x40 ]

/-- Registers of ETH, part 2 of 2 (R346). -/
def blkEthRows1 : List RegRow :=
  [ /- RX_FCS_ERR -/ rowC 0x110 [] 0x40,
    /- RX_LONG -/ rowC 0x114 [] 0x40,
    /- RX_FILTERED -/ rowC 0x118 [] 0x40,
    /- RX_DROP -/ rowC 0x11c [] 0x40 ]

/-- Block ETH at 0x58000000 (R346). -/
def blkEth : RegBlock :=
  ⟨0x58000000, [], blkEthRows0 ++ blkEthRows1⟩

/-- Registers of PTP, part 1 of 2 (R352). -/
def blkPtpRows0 : List RegRow :=
  [ /- PCTL -/ row 0 [] .rw 0 1,
    /- PCMD -/ row 4 [] .sc 0 0x3f,
    /- PSTAT -/ row 8 [] .ro 0 0,
    /- PERR -/ row 0xc [] .w1c 0 3,
    /- INCR_FRAC -/ row 0x10 [] .rw 0 0xffffffff,
    /- INCR_NS -/ row 0x14 [] .rw 8 0xf,
    /- STEP_MAX -/ rowP 0x18 [] .rw 0x3e8 0x3fffffff,
    /- ADJ_LO -/ row 0x20 [] .rw 0 0xffffffff,
    /- ADJ_HI -/ row 0x24 [] .rw 0 0xffffffff,
    /- SET_LO -/ row 0x28 [] .rw 0 0xffffffff,
    /- SET_HI -/ row 0x2c [] .rw 0 0xffffffff,
    /- SLEW_LEFT -/ row 0x30 [] .ro 0 0,
    /- ALARM_LO -/ row 0x38 [] .rw 0 0xffffffff,
    /- ALARM_HI -/ row 0x3c [] .rw 0 0xffffffff,
    /- LATCH_LO -/ row 0x40 [] .ro 0 0,
    /- LATCH_HI -/ row 0x44 [] .ro 0 0,
    /- LATCH_FRAC -/ row 0x48 [] .ro 0 0,
    /- LATCH_STAT -/ row 0x4c [] .ro 0 0,
    /- TX_LAT -/ row 0x50 [] .rw 0 0xfff,
    /- RX_LAT -/ row 0x54 [] .rw 0 0xfff,
    /- CAP_LO -/ row 0x80 [(4, 0x10)] .ro 0 0,
    /- CAP_HI -/ row 0x84 [(4, 0x10)] .ro 0 0,
    /- CAP_STAT -/ row 0x88 [(4, 0x10)] .ro 0 0,
    /- STEPS -/ rowC 0x100 [] 0x40 ]

/-- Registers of PTP, part 2 of 2 (R352). -/
def blkPtpRows1 : List RegRow :=
  [ /- STEPS_REFUSED -/ rowC 0x104 [] 0x40,
    /- SLEWS -/ rowC 0x108 [] 0x40,
    /- CAPTURES -/ rowC 0x10c [] 0x40 ]

/-- Block PTP at 0x45000000 (R352). -/
def blkPtp : RegBlock :=
  ⟨0x45000000, [], blkPtpRows0 ++ blkPtpRows1⟩

/-- Registers of TPG, part 1 of 1 (R356). -/
def blkTpgRows0 : List RegRow :=
  [ /- TCTL -/ row 0 [] .rw 0 7,
    /- TCMD -/ row 4 [] .sc 0 7,
    /- TSTAT -/ row 8 [] .ro 0 0,
    /- TERR -/ row 0xc [] .w1c 0 7,
    /- START_LO -/ row 0x10 [] .rw 0 0xffffffff,
    /- START_HI -/ row 0x14 [] .rw 0 0xffffffff,
    /- PERIOD -/ row 0x18 [] .rw 0 0xffffffff,
    /- WIDTH -/ row 0x1c [] .rw 0 0xffffffff,
    /- FRAC -/ row 0x20 [] .rw 0 0x3f,
    /- COUNT -/ row 0x24 [] .rw 0 0xffffffff,
    /- NEXT_LO -/ row 0x28 [] .ro 0 0,
    /- NEXT_HI -/ row 0x2c [] .ro 0 0,
    /- PULSES -/ rowC 0x40 [] 0x20,
    /- SKIPPED -/ rowC 0x44 [] 0x20 ]

/-- Block TPG at 0x45100000 (R356). -/
def blkTpg : RegBlock :=
  ⟨0x45100000, [(16, 0x80)], blkTpgRows0⟩

/-- Registers of EVF, part 1 of 1 (R364). -/
def blkEvfRows0 : List RegRow :=
  [ /- LOCK -/ rowP 0 [] .wo1 0 1,
    /- STAT -/ row 4 [] .w1c 0 3,
    /- FX_CTL -/ rowP 0x10 [] .rw 5 0xf,
    /- SW_FIRE -/ row 0x40 [(2, 4)] .sc 0 0xffffffff,
    /- CH_FIRE -/ row 0x60 [(8, 4)] .sc 0 0xffffffff,
    /- CH_CTL -/ rowLK 0x1000 [(256, 4)] .rw false 0x100000 0x3ff87ff,
    /- CONS -/ rowLK 0x2000 [(128, 4)] .rw false 0 0x1ff,
    /- EVENTS -/ rowC 0x3000 [(256, 4)] 0x1000,
    /- OVERRUN -/ rowC 0x3400 [(256, 4)] 0x1000,
    /- COINCIDE -/ rowC 0x3800 [(260, 4)] 0x1000 ]

/-- Block EVF at 0x44000000 (R364). -/
def blkEvf : RegBlock :=
  ⟨0x44000000, [], blkEvfRows0⟩

/-- Registers of SYS, part 1 of 1 (R391). -/
def blkSysRows0 : List RegRow :=
  [ /- SYS_ID -/ row 0 [] .ro 0xb10009 0,
    /- SNAP_CTL -/ row 4 [] .sc 0 1,
    /- SYS_ERR -/ row 0xc [] .w1c 0 7,
    /- CORE_CTL -/ rowP 0x10 [] .mw 1 0xff,
    /- CORE_STAT -/ row 0x14 [] .ro 1 0,
    /- BOOT_ADDR_LO -/ rowLK 0x18 [] .rw true 0 0xfffffffc,
    /- BOOT_ADDR_HI -/ rowLK 0x1c [] .rw true 0 0xff,
    /- PROT_LOCK -/ rowP 0x20 [] .wo1 0 1,
    /- SRAM_ERR_LO -/ row 0x28 [] .ro 0 0,
    /- SRAM_ERR_HI -/ row 0x2c [] .ro 0 0,
    /- MTIME_LO -/ row 0x40 [] .ro 0 0,
    /- MTIME_HI -/ row 0x44 [] .ro 0 0,
    /- MTIMECMP_LO -/ row 0x80 [(8, 8)] .rw 0xffffffff 0xffffffff,
    /- MTIMECMP_HI -/ row 0x84 [(8, 8)] .rw 0xffffffff 0xffffffff,
    /- MSIP -/ row 0xc0 [(8, 4)] .rw 0 1,
    /- PRIV_DENIED -/ rowC 0x100 [] 0x40,
    /- TV_CORR -/ rowC 0x104 [] 0x40,
    /- SRAM_CE -/ rowC 0x108 [] 0x40,
    /- SRAM_UE -/ rowC 0x10c [] 0x40,
    /- CACHE_CE -/ rowC 0x110 [] 0x40,
    /- CACHE_UE -/ rowC 0x114 [] 0x40,
    /- DECODE_ERR -/ rowC 0x118 [] 0x40 ]

/-- Block SYS at 0x40000000 (R391). -/
def blkSys : RegBlock :=
  ⟨0x40000000, [], blkSysRows0⟩

/-- Registers of GUARD, part 1 of 1 (R392). -/
def blkGuardRows0 : List RegRow :=
  [ /- GCTL -/ rowP 0 [] .rw 3 3,
    /- GSTAT -/ row 4 [] .ro 0 0,
    /- DOORBELL -/ row 0x10 [] .sc 0 7,
    /- MBOX_IN -/ row 0x40 [(16, 4)] .rw 0 0xffffffff,
    /- MBOX_OUT -/ rowP 0x80 [(16, 4)] .rw 0 0xffffffff ]

/-- Block GUARD at 0x41000000 (R392). -/
def blkGuard : RegBlock :=
  ⟨0x41000000, [], blkGuardRows0⟩

/-- Registers of IRQC, part 1 of 1 (R393). -/
def blkIrqcRows0 : List RegRow :=
  [ /- PRIO -/ row 0 [(1280, 4)] .rw 0 0xf,
    /- PEND -/ row 0x2000 [(40, 4)] .w1c 0 0xffffffff,
    /- MERGED -/ rowC 0x3000 [] 0x40 ]

/-- Block IRQC at 0x43000000 (R393). -/
def blkIrqc : RegBlock :=
  ⟨0x43000000, [], blkIrqcRows0⟩

/-- Registers of IRQC, part 1 of 1 (R393). -/
def blkIrqc1Rows0 : List RegRow :=
  [ /- ENABLE -/ row 0 [(40, 4)] .rw 0 0xffffffff,
    /- THRESH -/ row 0xc0 [] .rw 0 7,
    /- TOP -/ row 0xc4 [] .ro 0 0,
    /- COMPLETE -/ row 0xc8 [] .rw 0 0x7ff ]

/-- Block IRQC at 0x43010000 (R393). -/
def blkIrqc1 : RegBlock :=
  ⟨0x43010000, [(18, 0x100)], blkIrqc1Rows0⟩

/-- Registers of TWIN, part 1 of 2 (R415). -/
def blkTwinRows0 : List RegRow :=
  [ /- TCTL -/ rowP 0 [] .rw 0x200a00 0xffff0f,
    /- TCMD -/ row 4 [] .sc 0 0x1f,
    /- TSTAT -/ row 8 [] .ro 0 0,
    /- TERR -/ row 0xc [] .w1c 0 0xfff,
    /- MIRROR_PERIOD -/ row 0x10 [] .rw 0x64 0x3ff,
    /- SEL_MASK -/ row 0x14 [] .rw 0x1f 0x1f,
    /- MATCH_WAIT -/ row 0x18 [] .rw 0x3e8 0xffff,
    /- TAKE_QUAD -/ rowP 0x1c [] .rw 0 0xffffffff,
    /- TAKE_TP -/ rowP 0x20 [] .rw 0 0xffff,
    /- MIRROR_SEQ -/ row 0x24 [] .ro 0 0,
    /- TAKE_TIME_LO -/ row 0x28 [] .ro 0 0,
    /- TAKE_TIME_HI -/ row 0x2c [] .ro 0 0,
    /- USER_TX -/ row 0x40 [(16, 4)] .rw 0 0xffffffff,
    /- USER_RX -/ row 0x80 [(16, 4)] .ro 0 0,
    /- USER_CTL -/ row 0xc0 [] .rw 1 0x1f,
    /- USER_STAT -/ row 0xc4 [] .ro 0 0,
    /- HB_1_RX -/ rowC 0x100 [] 0x80,
    /- HB_2_RX -/ rowC 0x104 [] 0x80,
    /- HB_1_MISS -/ rowC 0x108 [] 0x80,
    /- HB_2_MISS -/ rowC 0x10c [] 0x80,
    /- CYCLES_SENT -/ rowC 0x110 [] 0x80,
    /- CYCLES_APPLIED -/ rowC 0x114 [] 0x80,
    /- CYCLES_LOST -/ rowC 0x118 [] 0x80,
    /- REC_MATCHED -/ rowC 0x11c [] 0x80 ]

/-- Registers of TWIN, part 2 of 2 (R415). -/
def blkTwinRows1 : List RegRow :=
  [ /- REC_INSERTED -/ rowC 0x120 [] 0x80,
    /- REC_DROPPED -/ rowC 0x124 [] 0x80,
    /- SHADOW_ONLY -/ rowC 0x128 [] 0x80,
    /- VERDICT_DIFF -/ rowC 0x12c [] 0x80,
    /- SUM_BLOCKS -/ rowC 0x130 [] 0x80,
    /- SUM_MISMATCH -/ rowC 0x134 [] 0x80,
    /- SUM_LATE -/ rowC 0x138 [] 0x80,
    /- EARLY_SEND -/ rowC 0x13c [] 0x80,
    /- TAKEOVERS -/ rowC 0x140 [] 0x80,
    /- YIELDS -/ rowC 0x144 [] 0x80,
    /- LINK_DROP -/ rowC 0x148 [] 0x80,
    /- USER_SENT -/ rowC 0x14c [] 0x80 ]

/-- Block TWIN at 0x57000000 (R415). -/
def blkTwin : RegBlock :=
  ⟨0x57000000, [], blkTwinRows0 ++ blkTwinRows1⟩

/-- Registers of SUP, part 1 of 1 (R430). -/
def blkSupRows0 : List RegRow :=
  [ /- SCTL -/ rowP 0 [] .rw 0x405 0xf0f,
    /- SSTAT -/ row 4 [] .ro 0 0,
    /- SERR -/ rowP 8 [] .w1c 0 0x3ff,
    /- RESET_CAUSE -/ rowP 0xc [] .w1c 0 0xff,
    /- WARNS -/ rowC 0x40 [] 0x20,
    /- CORE_RESETS -/ rowC 0x44 [] 0x20,
    /- FEED_LOSSES -/ rowC 0x48 [] 0x20 ]

/-- Block SUP at 0x42000000 (R430). -/
def blkSup : RegBlock :=
  ⟨0x42000000, [], blkSupRows0⟩

/-- Registers of CAL, part 1 of 1 (R431). -/
def blkCalRows0 : List RegRow :=
  [ /- CCTL -/ row 0 [] .rw 0xff0801 0xff1f01,
    /- CCMD -/ row 4 [] .sc 0 0xff,
    /- CERR -/ row 0xc [] .w1c 0 7,
    /- RES_MEAS -/ row 0x10 [] .ro 0 0,
    /- TEMP_ALARM -/ rowP 0x14 [] .rw 0x69 0xff,
    /- TEMP -/ row 0x20 [(8, 4)] .ro 0 0,
    /- LAST_TEMP -/ row 0x40 [(8, 4)] .ro 0 0,
    /- DSTAT -/ row 0x60 [(8, 4)] .ro 0 0,
    /- RUNS -/ rowC 0x100 [] 0x40,
    /- FAILS -/ rowC 0x104 [] 0x40,
    /- APPLIED -/ rowC 0x108 [] 0x40 ]

/-- Block CAL at 0x42100000 (R431). -/
def blkCal : RegBlock :=
  ⟨0x42100000, [], blkCalRows0⟩

/-- Registers of ERRLOG, part 1 of 1 (R432). -/
def blkErrlogRows0 : List RegRow :=
  [ /- BLOCK_STICKY -/ rowP 0 [] .w1c 0 0xffffffff,
    /- GERR -/ rowP 4 [] .w1c 0 1,
    /- ECMD -/ rowP 8 [] .sc 0 1,
    /- LOCK_ADDR_LO -/ row 0x10 [] .ro 0 0,
    /- LOCK_ADDR_HI -/ row 0x14 [] .ro 0 0,
    /- LOCK_MASTER -/ row 0x18 [] .ro 0 0,
    /- AON_US_LO -/ row 0x20 [] .ro 0 0,
    /- AON_US_HI -/ row 0x24 [] .ro 0 0,
    /- FINFO -/ row 0x400 [(32, 0x20)] .ro 0 0,
    /- FADDR_LO -/ row 0x404 [(32, 0x20)] .ro 0 0,
    /- FADDR_HI -/ row 0x408 [(32, 0x20)] .ro 0 0,
    /- FTIME_LO -/ row 0x40c [(32, 0x20)] .ro 0 0,
    /- FTIME_HI -/ row 0x410 [(32, 0x20)] .ro 0 0,
    /- FAON_LO -/ row 0x414 [(32, 0x20)] .ro 0 0,
    /- FAON_HI -/ row 0x418 [(32, 0x20)] .ro 0 0 ]

/-- Block ERRLOG at 0x42200000 (R432). -/
def blkErrlog : RegBlock :=
  ⟨0x42200000, [], blkErrlogRows0⟩

/-- Registers of QSPI, part 1 of 1 (R446). -/
def blkQspiRows0 : List RegRow :=
  [ /- QCTL -/ row 0 [] .rw 3 0x1ff,
    /- QCMD -/ row 4 [] .sc 0 1,
    /- QSTAT -/ row 8 [] .ro 0 0,
    /- QERR -/ row 0xc [] .w1c 0 3,
    /- QOP -/ row 0x10 [] .rw 0 0x7ffff,
    /- QADDR -/ row 0x14 [] .rw 0 0xffffffff,
    /- QLEN -/ row 0x18 [] .rw 0 0x1ff,
    /- BOOT_STAT -/ row 0x20 [] .ro 0 0,
    /- RST_REQ -/ rowP 0x24 [] .sc 0 0xffff0001,
    /- QDATA -/ row 0x100 [(64, 4)] .rw 0 0xffffffff ]

/-- Block QSPI at 0x58200000 (R446). -/
def blkQspi : RegBlock :=
  ⟨0x58200000, [], blkQspiRows0⟩

/-- Registers of UART, part 1 of 1 (R447). -/
def blkUartRows0 : List RegRow :=
  [ /- UCTL -/ row 0 [] .rw 0x6c 0xffff,
    /- UCMD -/ row 4 [] .sc 0 7,
    /- USTAT -/ row 8 [] .ro 0 0,
    /- UERR -/ row 0xc [] .w1c 0 7,
    /- UTX -/ row 0x10 [] .rw 0 0xff ]

/-- Block UART at 0x58100000 (R447). -/
def blkUart : RegBlock :=
  ⟨0x58100000, [(2, 0x10000)], blkUartRows0⟩

/-- Registers of IIC, part 1 of 1 (R448). -/
def blkIicRows0 : List RegRow :=
  [ /- ICTL -/ row 0 [] .rw 0x1f3 0x7ff,
    /- ICMD -/ row 4 [] .sc 0 1,
    /- IXFER -/ row 8 [] .rw 0 0x1f1f7f,
    /- ISTAT -/ row 0xc [] .ro 0 0,
    /- IERR -/ row 0x10 [] .w1c 0 0xf,
    /- IWDATA -/ row 0x40 [(4, 4)] .rw 0 0xffffffff,
    /- IRDATA -/ row 0x60 [(4, 4)] .ro 0 0 ]

/-- Block IIC at 0x58300000 (R448). -/
def blkIic : RegBlock :=
  ⟨0x58300000, [], blkIicRows0⟩

/-- Every register block of the main domain and of the island (R24, R25). -/
def regBlocks : List RegBlock :=
  [blkLane, blkAct, blkFe, blkStitch, blkStitch1, blkDrift,
   blkHearth, blkHearth1, blkMoraine, blkMview, blkBellows, blkEjl,
   blkFb, blkAx, blkMc, blkMc1, blkDma, blkDma1,
   blkFirn, blkEth, blkPtp, blkTpg, blkEvf, blkSys,
   blkGuard, blkIrqc, blkIrqc1, blkTwin, blkSup, blkCal,
   blkErrlog, blkQspi, blkUart, blkIic]

/-- The register at bus address `a`, if one is defined there. -/
def regInfo (a : Nat) : Option RegRow := regBlocks.findSome? (fun b => b.find a)

/-- What a register reads after reset, by its address: the reset value of its table; 0 where no register is. -/
def resetWord (a : Nat) : Word :=
  match regInfo a with
  | some r => r.reset
  | none => 0

end Sys2Proof.Machine

/-! Register addresses, named BLOCK_REGISTER, with the indices of the spec's names. -/
namespace Sys2Proof.R

def LANE_QUAD_CTL (q : Nat) : Nat := 0x49000000 + q * 0x10000
def LANE_QUAD_CMD (q : Nat) : Nat := 0x49000004 + q * 0x10000
def LANE_QUAD_STAT (q : Nat) : Nat := 0x49000008 + q * 0x10000
def LANE_QUAD_ERR (q : Nat) : Nat := 0x4900000c + q * 0x10000
def LANE_TRAIN_TIMEOUT (q : Nat) : Nat := 0x49000010 + q * 0x10000
def LANE_BER_LIMIT (q : Nat) : Nat := 0x49000014 + q * 0x10000
def LANE_LANE_CTL (n : Nat) : Nat := 0x49001000 + n / 4 * 0x10000 + n % 4 * 0x400
def LANE_LANE_FFE (n : Nat) : Nat := 0x49001004 + n / 4 * 0x10000 + n % 4 * 0x400
def LANE_LANE_CMD (n : Nat) : Nat := 0x49001008 + n / 4 * 0x10000 + n % 4 * 0x400
def LANE_LANE_STAT (n : Nat) : Nat := 0x4900100c + n / 4 * 0x10000 + n % 4 * 0x400
def LANE_LANE_ERR (n : Nat) : Nat := 0x49001010 + n / 4 * 0x10000 + n % 4 * 0x400
def LANE_LANE_INJ (n : Nat) : Nat := 0x49001014 + n / 4 * 0x10000 + n % 4 * 0x400
def LANE_PRBS_CTL (n : Nat) : Nat := 0x49001018 + n / 4 * 0x10000 + n % 4 * 0x400
def LANE_PRBS_ERR (n : Nat) : Nat := 0x49001020 + n / 4 * 0x10000 + n % 4 * 0x400
def LANE_PRBS_MBITS (n : Nat) : Nat := 0x49001024 + n / 4 * 0x10000 + n % 4 * 0x400
def LANE_SYNC_ERR (n : Nat) : Nat := 0x49001028 + n / 4 * 0x10000 + n % 4 * 0x400
def LANE_LOCK_LOSS (n : Nat) : Nat := 0x4900102c + n / 4 * 0x10000 + n % 4 * 0x400
def LANE_EYE_CTL (n : Nat) : Nat := 0x49001030 + n / 4 * 0x10000 + n % 4 * 0x400
def LANE_EYE_STAT (n : Nat) : Nat := 0x49001034 + n / 4 * 0x10000 + n % 4 * 0x400
def LANE_EYE_ERRS (n : Nat) : Nat := 0x49001038 + n / 4 * 0x10000 + n % 4 * 0x400
def ACT_PORT_CTL (q : Nat) : Nat := 0x4a000000 + q * 0x10000
def ACT_PORT_CMD (q : Nat) : Nat := 0x4a000004 + q * 0x10000
def ACT_PORT_STAT (q : Nat) : Nat := 0x4a000008 + q * 0x10000
def ACT_PORT_ERR (q : Nat) : Nat := 0x4a00000c + q * 0x10000
def ACT_TIMING (q : Nat) : Nat := 0x4a000010 + q * 0x10000
def ACT_CABLE_NS (q : Nat) : Nat := 0x4a000014 + q * 0x10000
def ACT_TRIG_CTL (q : Nat) : Nat := 0x4a000018 + q * 0x10000
def ACT_LAST_FRAME (q : Nat) : Nat := 0x4a00001c + q * 0x10000
def ACT_RING_BASE_LO (q : Nat) : Nat := 0x4a000020 + q * 0x10000
def ACT_RING_BASE_HI (q : Nat) : Nat := 0x4a000024 + q * 0x10000
def ACT_RING_SIZE (q : Nat) : Nat := 0x4a000028 + q * 0x10000
def ACT_RING_WR (q : Nat) : Nat := 0x4a00002c + q * 0x10000
def ACT_RING_RD (q : Nat) : Nat := 0x4a000030 + q * 0x10000
def ACT_TRIG_NEXT (q : Nat) : Nat := 0x4a000034 + q * 0x10000
def ACT_RX_DESC (q i : Nat) : Nat := 0x4a000040 + q * 0x10000 + i * 4
def ACT_TX_DESC (q i : Nat) : Nat := 0x4a000080 + q * 0x10000 + i * 4
def ACT_BC_CTL (q : Nat) : Nat := 0x4a0000c0 + q * 0x10000
def ACT_BC_ADDR (q : Nat) : Nat := 0x4a0000c4 + q * 0x10000
def ACT_BC_CMD (q : Nat) : Nat := 0x4a0000c8 + q * 0x10000
def ACT_BC_STAT (q : Nat) : Nat := 0x4a0000cc + q * 0x10000
def ACT_BC_DATA (q i : Nat) : Nat := 0x4a000100 + q * 0x10000 + i * 4
def ACT_TS_CTL (q : Nat) : Nat := 0x4a000140 + q * 0x10000
def ACT_TS_CMD (q : Nat) : Nat := 0x4a000144 + q * 0x10000
def ACT_TS_STAT (q : Nat) : Nat := 0x4a000148 + q * 0x10000
def ACT_TS_TARGET (q : Nat) : Nat := 0x4a00014c + q * 0x10000
def ACT_TS_EFFECT (q : Nat) : Nat := 0x4a000150 + q * 0x10000
def ACT_TS_ADDR (q i : Nat) : Nat := 0x4a000160 + q * 0x10000 + i * 8
def ACT_TS_DATA (q i : Nat) : Nat := 0x4a000164 + q * 0x10000 + i * 8
def ACT_OUT_VC (q v : Nat) : Nat := 0x4a0001c0 + q * 0x10000 + v * 4
def ACT_HDR_CORR (q : Nat) : Nat := 0x4a000200 + q * 0x10000
def ACT_HDR_UNCORR (q : Nat) : Nat := 0x4a000204 + q * 0x10000
def ACT_CRC_ERR (q : Nat) : Nat := 0x4a000208 + q * 0x10000
def ACT_SEQ_GAP (q : Nat) : Nat := 0x4a00020c + q * 0x10000
def ACT_DROP_PKT (q : Nat) : Nat := 0x4a000210 + q * 0x10000
def ACT_SHORT_LINES (q : Nat) : Nat := 0x4a000214 + q * 0x10000
def ACT_OVERRUN_LINES (q : Nat) : Nat := 0x4a000218 + q * 0x10000
def ACT_RESTRIPES (q : Nat) : Nat := 0x4a00021c + q * 0x10000
def ACT_CTRL_TIMEOUTS (q : Nat) : Nat := 0x4a000220 + q * 0x10000
def ACT_ACK_LATE (q : Nat) : Nat := 0x4a000224 + q * 0x10000
def ACT_TRIG_SENT (q : Nat) : Nat := 0x4a000228 + q * 0x10000
def ACT_TRIG_SKIPPED (q : Nat) : Nat := 0x4a00022c + q * 0x10000
def ACT_TRIG_RX (q : Nat) : Nat := 0x4a000230 + q * 0x10000
def ACT_RING_DROP (q : Nat) : Nat := 0x4a000234 + q * 0x10000
def ACT_PKT_RX (q : Nat) : Nat := 0x4a000238 + q * 0x10000
def ACT_PKT_TX (q : Nat) : Nat := 0x4a00023c + q * 0x10000
def FE_FE_CTL (n : Nat) : Nat := 0x4b000000 + n * 0x40000
def FE_FE_CMD (n : Nat) : Nat := 0x4b000004 + n * 0x40000
def FE_FE_STAT (n : Nat) : Nat := 0x4b000008 + n * 0x40000
def FE_FE_ERR (n : Nat) : Nat := 0x4b00000c + n * 0x40000
def FE_SRC (n : Nat) : Nat := 0x4b000010 + n * 0x40000
def FE_GEOM (n : Nat) : Nat := 0x4b000014 + n * 0x40000
def FE_FORMAT (n : Nat) : Nat := 0x4b000018 + n * 0x40000
def FE_LINE_PERIOD_NS (n : Nat) : Nat := 0x4b000020 + n * 0x40000
def FE_LINE_TIMEOUT (n : Nat) : Nat := 0x4b000024 + n * 0x40000
def FE_FE_STAT_FRAME (n : Nat) : Nat := 0x4b000028 + n * 0x40000
def FE_PEND_FRAME (n i : Nat) : Nat := 0x4b00002c + n * 0x40000 + i * 4
def FE_PAD_VAL (n p : Nat) : Nat := 0x4b000040 + n * 0x40000 + p * 4
def FE_TAB_ADDR (n : Nat) : Nat := 0x4b000060 + n * 0x40000
def FE_TAB_DATA (n : Nat) : Nat := 0x4b000064 + n * 0x40000
def FE_MOSAIC_ROW (n r : Nat) : Nat := 0x4b000070 + n * 0x40000 + r * 4
def FE_STAT_BASE_LO (n : Nat) : Nat := 0x4b000080 + n * 0x40000
def FE_STAT_BASE_HI (n : Nat) : Nat := 0x4b000084 + n * 0x40000
def FE_STAT_ENTRIES (n : Nat) : Nat := 0x4b000088 + n * 0x40000
def FE_STAT_WR (n : Nat) : Nat := 0x4b00008c + n * 0x40000
def FE_STAT_RD (n : Nat) : Nat := 0x4b000090 + n * 0x40000
def FE_STAT_STAT (n : Nat) : Nat := 0x4b000094 + n * 0x40000
def FE_LAST_REC_FRAME (n : Nat) : Nat := 0x4b000098 + n * 0x40000
def FE_LINES_IN (n : Nat) : Nat := 0x4b000100 + n * 0x40000
def FE_LINES_OUT (n : Nat) : Nat := 0x4b000104 + n * 0x40000
def FE_FRAMES (n : Nat) : Nat := 0x4b000108 + n * 0x40000
def FE_LINES_PADDED (n : Nat) : Nat := 0x4b00010c + n * 0x40000
def FE_LINES_SHORT (n : Nat) : Nat := 0x4b000110 + n * 0x40000
def FE_LINES_OVERRUN (n : Nat) : Nat := 0x4b000114 + n * 0x40000
def FE_LINES_GAP (n : Nat) : Nat := 0x4b000118 + n * 0x40000
def FE_LINES_LONG (n : Nat) : Nat := 0x4b00011c + n * 0x40000
def FE_LINES_CRC (n : Nat) : Nat := 0x4b000120 + n * 0x40000
def FE_LINES_LATE (n : Nat) : Nat := 0x4b000124 + n * 0x40000
def FE_LINES_DROPPED (n : Nat) : Nat := 0x4b000128 + n * 0x40000
def FE_LINES_MISSING (n : Nat) : Nat := 0x4b00012c + n * 0x40000
def FE_FRAME_JUMPS (n : Nat) : Nat := 0x4b000130 + n * 0x40000
def FE_BANK_SWITCHES (n : Nat) : Nat := 0x4b000134 + n * 0x40000
def FE_STAT_DROP (n : Nat) : Nat := 0x4b000138 + n * 0x40000
def FE_STAT_OUT_DROP (n : Nat) : Nat := 0x4b00013c + n * 0x40000
def FE_DARK_SCALE (n b : Nat) : Nat := 0x4b001000 + n * 0x40000 + b * 0x100
def FE_BLACK (n b k : Nat) : Nat := 0x4b001004 + n * 0x40000 + b * 0x100 + k * 4
def FE_GAIN (n b k : Nat) : Nat := 0x4b001020 + n * 0x40000 + b * 0x100 + k * 4
def FE_XT (n b p j : Nat) : Nat := 0x4b001040 + n * 0x40000 + b * 0x100 + p * 0x10 + j * 4
def FE_OFFS (n b p : Nat) : Nat := 0x4b001080 + n * 0x40000 + b * 0x100 + p * 4
def STITCH_TAB_ADDR : Nat := 0x4c000000
def STITCH_TAB_LO : Nat := 0x4c000004
def STITCH_TAB_HI : Nat := 0x4c000008
def STITCH_VIEW (v : Nat) : Nat := 0x4c001000 + v * 0x400
def STITCH_VIEW_CMD (v : Nat) : Nat := 0x4c001004 + v * 0x400
def STITCH_VIEW_STAT (v : Nat) : Nat := 0x4c001008 + v * 0x400
def STITCH_VIEW_ERR (v : Nat) : Nat := 0x4c00100c + v * 0x400
def STITCH_WIDTH (v : Nat) : Nat := 0x4c001010 + v * 0x400
def STITCH_ROW_PERIOD_NS (v : Nat) : Nat := 0x4c001014 + v * 0x400
def STITCH_ROW_TIMEOUT (v : Nat) : Nat := 0x4c001018 + v * 0x400
def STITCH_TAB_BASE (v : Nat) : Nat := 0x4c00101c + v * 0x400
def STITCH_TAB_BASE_NEXT (v : Nat) : Nat := 0x4c001020 + v * 0x400
def STITCH_TAB_USED (v : Nat) : Nat := 0x4c001024 + v * 0x400
def STITCH_DLY_BASE_LO (v : Nat) : Nat := 0x4c001028 + v * 0x400
def STITCH_DLY_BASE_HI (v : Nat) : Nat := 0x4c00102c + v * 0x400
def STITCH_DLY_SIZE (v : Nat) : Nat := 0x4c001030 + v * 0x400
def STITCH_ROW_NO (v : Nat) : Nat := 0x4c001034 + v * 0x400
def STITCH_LAST_FRAME (v : Nat) : Nat := 0x4c001038 + v * 0x400
def STITCH_PAD_VAL (v p : Nat) : Nat := 0x4c001040 + v * 0x400 + p * 4
def STITCH_SLOT (v s : Nat) : Nat := 0x4c001060 + v * 0x400 + s * 4
def STITCH_ROWS_OUT (v : Nat) : Nat := 0x4c001100 + v * 0x400
def STITCH_ROWS_TIMED_OUT (v : Nat) : Nat := 0x4c001104 + v * 0x400
def STITCH_ROWS_FORCED (v : Nat) : Nat := 0x4c001108 + v * 0x400
def STITCH_SEG_MISSING (v : Nat) : Nat := 0x4c00110c + v * 0x400
def STITCH_ROWS_ALL_PAD (v : Nat) : Nat := 0x4c001110 + v * 0x400
def STITCH_ROWS_LOST (v : Nat) : Nat := 0x4c001114 + v * 0x400
def STITCH_LATE_CONTRIB (v : Nat) : Nat := 0x4c001118 + v * 0x400
def STITCH_DUP_CONTRIB (v : Nat) : Nat := 0x4c00111c + v * 0x400
def STITCH_PRE_SYNC (v : Nat) : Nat := 0x4c001120 + v * 0x400
def STITCH_ANCHOR_GUESS (v : Nat) : Nat := 0x4c001124 + v * 0x400
def STITCH_SWAPS (v : Nat) : Nat := 0x4c001128 + v * 0x400
def STITCH_TORN_ROWS (v : Nat) : Nat := 0x4c00112c + v * 0x400
def STITCH_DLY_STALL (v : Nat) : Nat := 0x4c001130 + v * 0x400
def DRIFT_DRIFT_CTL (v : Nat) : Nat := 0x4d000000 + v * 0x400
def DRIFT_DRIFT_CMD (v : Nat) : Nat := 0x4d000004 + v * 0x400
def DRIFT_DRIFT_STAT (v : Nat) : Nat := 0x4d000008 + v * 0x400
def DRIFT_DRIFT_ERR (v : Nat) : Nat := 0x4d00000c + v * 0x400
def DRIFT_FREEZE_ROWS (v : Nat) : Nat := 0x4d000010 + v * 0x400
def DRIFT_COVER_THR (v p : Nat) : Nat := 0x4d000020 + v * 0x400 + p * 4
def DRIFT_PROBE_COL (v : Nat) : Nat := 0x4d000040 + v * 0x400
def DRIFT_PROBE_STAT (v : Nat) : Nat := 0x4d000044 + v * 0x400
def DRIFT_PROBE_ROW (v : Nat) : Nat := 0x4d000048 + v * 0x400
def DRIFT_PROBE_VAL (v p : Nat) : Nat := 0x4d000050 + v * 0x400 + p * 4
def DRIFT_UPDATE_ROWS (v : Nat) : Nat := 0x4d000100 + v * 0x400
def DRIFT_FROZEN_COLS (v : Nat) : Nat := 0x4d000104 + v * 0x400
def DRIFT_GFREEZE_ROWS (v : Nat) : Nat := 0x4d000108 + v * 0x400
def DRIFT_FREEZE_EVENTS (v : Nat) : Nat := 0x4d00010c + v * 0x400
def DRIFT_SEEDS (v : Nat) : Nat := 0x4d000110 + v * 0x400
def HEARTH_TSTAT (t : Nat) : Nat := 0x50000000 + t * 0x100000
def HEARTH_TERR (t : Nat) : Nat := 0x50000004 + t * 0x100000
def HEARTH_ROW_CYC_MAX (t : Nat) : Nat := 0x50000008 + t * 0x100000
def HEARTH_CTX_STAT (t c : Nat) : Nat := 0x50000020 + t * 0x100000 + c * 0x10
def HEARTH_CTX_CMD (t c : Nat) : Nat := 0x50000024 + t * 0x100000 + c * 0x10
def HEARTH_CTX_ROW (t c : Nat) : Nat := 0x50000028 + t * 0x100000 + c * 0x10
def HEARTH_CTX_PC (t c : Nat) : Nat := 0x5000002c + t * 0x100000 + c * 0x10
def HEARTH_ROWS_RUN (t : Nat) : Nat := 0x50000100 + t * 0x100000
def HEARTH_ROWS_DROPPED (t : Nat) : Nat := 0x50000104 + t * 0x100000
def HEARTH_FRAGS_OUT (t : Nat) : Nat := 0x50000108 + t * 0x100000
def HEARTH_FRAGS_CUT (t : Nat) : Nat := 0x5000010c + t * 0x100000
def HEARTH_FRAG_STALL_CYC (t : Nat) : Nat := 0x50000110 + t * 0x100000
def HEARTH_CTX_FAULTS (t : Nat) : Nat := 0x50000114 + t * 0x100000
def HEARTH_GCTL (g : Nat) : Nat := 0x500f0000 + g * 0x400
def HEARTH_GCMD (g : Nat) : Nat := 0x500f0004 + g * 0x400
def HEARTH_GSTAT (g : Nat) : Nat := 0x500f0008 + g * 0x400
def HEARTH_GERR (g : Nat) : Nat := 0x500f000c + g * 0x400
def HEARTH_TILES_LO (g : Nat) : Nat := 0x500f0010 + g * 0x400
def HEARTH_TILES_HI (g : Nat) : Nat := 0x500f0014 + g * 0x400
def HEARTH_LAYOUT (g : Nat) : Nat := 0x500f0018 + g * 0x400
def HEARTH_RING (g : Nat) : Nat := 0x500f001c + g * 0x400
def HEARTH_PROG (g : Nat) : Nat := 0x500f0020 + g * 0x400
def HEARTH_ENTRY (g : Nat) : Nat := 0x500f0024 + g * 0x400
def HEARTH_PROG_NEXT (g : Nat) : Nat := 0x500f0028 + g * 0x400
def HEARTH_ENTRY_NEXT (g : Nat) : Nat := 0x500f002c + g * 0x400
def HEARTH_WDOG (g : Nat) : Nat := 0x500f0030 + g * 0x400
def HEARTH_CTX_CTL (g k : Nat) : Nat := 0x500f0040 + g * 0x400 + k * 0x10
def HEARTH_COL_LO (g k : Nat) : Nat := 0x500f0044 + g * 0x400 + k * 0x10
def HEARTH_COL_HI (g k : Nat) : Nat := 0x500f0048 + g * 0x400 + k * 0x10
def HEARTH_SPILL_BASE_LO (g k : Nat) : Nat := 0x500f0080 + g * 0x400 + k * 8
def HEARTH_SPILL_BASE_HI (g k : Nat) : Nat := 0x500f0084 + g * 0x400 + k * 8
def HEARTH_SPILL_SIZE (g k : Nat) : Nat := 0x500f00a0 + g * 0x400 + k * 4
def HEARTH_FRAMES_RUN (g : Nat) : Nat := 0x500f0100 + g * 0x400
def HEARTH_FRAMES_SPILLED (g : Nat) : Nat := 0x500f0104 + g * 0x400
def HEARTH_FRAMES_REPLAYED (g : Nat) : Nat := 0x500f0108 + g * 0x400
def HEARTH_FRAMES_DROPPED (g : Nat) : Nat := 0x500f010c + g * 0x400
def HEARTH_SWAPS (g : Nat) : Nat := 0x500f0110 + g * 0x400
def MORAINE_MCTL : Nat := 0x54000000
def MORAINE_MCMD : Nat := 0x54000004
def MORAINE_MSTAT : Nat := 0x54000008
def MORAINE_MERR : Nat := 0x5400000c
def MORAINE_HORIZON_NS : Nat := 0x54000010
def MORAINE_REC_BASE_LO : Nat := 0x54000020
def MORAINE_REC_BASE_HI : Nat := 0x54000024
def MORAINE_REC_ENTRIES : Nat := 0x54000028
def MORAINE_REC_WR : Nat := 0x5400002c
def MORAINE_REC_RD : Nat := 0x54000030
def MORAINE_OBJ_USED : Nat := 0x54000038
def MORAINE_OBJ_PEAK : Nat := 0x5400003c
def MORAINE_DSEQ : Nat := 0x54000040
def MORAINE_FRAGS_IN : Nat := 0x54000100
def MORAINE_FRAGS_JOINED : Nat := 0x54000104
def MORAINE_FRAGS_DROPPED : Nat := 0x54000108
def MORAINE_FRAGS_LATE : Nat := 0x5400010c
def MORAINE_OBJ_CREATED : Nat := 0x54000110
def MORAINE_OBJ_FUSED : Nat := 0x54000114
def MORAINE_PARTNER_MISSED : Nat := 0x54000118
def MORAINE_DECIDED_ACCEPT : Nat := 0x5400011c
def MORAINE_DECIDED_REJECT : Nat := 0x54000120
def MORAINE_DECIDED_RECHECK : Nat := 0x54000124
def MORAINE_TAGS_LOST : Nat := 0x54000128
def MORAINE_EDGE_FULL : Nat := 0x5400012c
def MORAINE_EARLY_RETIRE : Nat := 0x54000130
def MORAINE_REC_WRITTEN : Nat := 0x54000134
def MORAINE_REC_DROP : Nat := 0x54000138
def MORAINE_REC_OUT_DROP : Nat := 0x5400013c
def MVIEW_VCTL (v : Nat) : Nat := 0x54001000 + v * 0x100
def MVIEW_X_SCALE (v : Nat) : Nat := 0x54001004 + v * 0x100
def MVIEW_X_OFFS (v : Nat) : Nat := 0x54001008 + v * 0x100
def MVIEW_X_TOL (v : Nat) : Nat := 0x5400100c + v * 0x100
def MVIEW_T_OFFS (v : Nat) : Nat := 0x54001010 + v * 0x100
def MVIEW_T_TOL (v : Nat) : Nat := 0x54001014 + v * 0x100
def MVIEW_FUSE_WAIT (v : Nat) : Nat := 0x54001018 + v * 0x100
def MVIEW_OPEN_OFFS (v : Nat) : Nat := 0x5400101c + v * 0x100
def MVIEW_CLOSE_OFFS (v : Nat) : Nat := 0x54001020 + v * 0x100
def MVIEW_VALVE_SCALE (v : Nat) : Nat := 0x54001024 + v * 0x100
def MVIEW_VALVE_OFFS (v : Nat) : Nat := 0x54001028 + v * 0x100
def MVIEW_VALVE_RANGE (v : Nat) : Nat := 0x5400102c + v * 0x100
def MVIEW_SPAN (v : Nat) : Nat := 0x54001030 + v * 0x100
def MVIEW_FT_MIN (v : Nat) : Nat := 0x54001034 + v * 0x100
def MVIEW_FT_STEP (v : Nat) : Nat := 0x54001038 + v * 0x100
def MVIEW_PORT_MAP (v s : Nat) : Nat := 0x54001040 + v * 0x100 + s * 4
def BELLOWS_BCTL : Nat := 0x55000000
def BELLOWS_BCMD : Nat := 0x55000004
def BELLOWS_BSTAT : Nat := 0x55000008
def BELLOWS_BERR : Nat := 0x5500000c
def BELLOWS_LEAD : Nat := 0x55000010
def BELLOWS_WDOG_US : Nat := 0x55000014
def BELLOWS_MAX_ON_US : Nat := 0x55000018
def BELLOWS_Q_USED : Nat := 0x5500001c
def BELLOWS_Q_PEAK : Nat := 0x55000020
def BELLOWS_TEST_VALVE : Nat := 0x55000030
def BELLOWS_TEST_TIME_LO : Nat := 0x55000034
def BELLOWS_TEST_TIME_HI : Nat := 0x55000038
def BELLOWS_TEST_STAT : Nat := 0x5500003c
def BELLOWS_VALVE_EN (l : Nat) : Nat := 0x55000040 + l * 4
def BELLOWS_OBJ_IN : Nat := 0x55000200
def BELLOWS_ACT_IN : Nat := 0x55000204
def BELLOWS_ACT_QUEUED : Nat := 0x55000208
def BELLOWS_ACT_MERGED : Nat := 0x5500020c
def BELLOWS_ACT_SENT : Nat := 0x55000210
def BELLOWS_ACT_DONE : Nat := 0x55000214
def BELLOWS_ACT_LATE : Nat := 0x55000218
def BELLOWS_ACT_MISSED : Nat := 0x5500021c
def BELLOWS_ACT_QFULL : Nat := 0x55000220
def BELLOWS_ACT_MASKED : Nat := 0x55000224
def BELLOWS_ACT_ON_LIMIT : Nat := 0x55000228
def BELLOWS_ACT_DISARM : Nat := 0x5500022c
def BELLOWS_ACT_SHADOW : Nat := 0x55000230
def BELLOWS_RETX : Nat := 0x55000234
def EJL_LCTL (l : Nat) : Nat := 0x55100000 + l * 0x80
def EJL_LCMD (l : Nat) : Nat := 0x55100004 + l * 0x80
def EJL_LSTAT (l : Nat) : Nat := 0x55100008 + l * 0x80
def EJL_LERR (l : Nat) : Nat := 0x5510000c + l * 0x80
def EJL_COIL_OPEN (l : Nat) : Nat := 0x55100010 + l * 0x80
def EJL_COIL_SHORT (l : Nat) : Nat := 0x55100014 + l * 0x80
def EJL_VALVE_ON (l : Nat) : Nat := 0x55100018 + l * 0x80
def EJL_BANK_ENV (l : Nat) : Nat := 0x5510001c + l * 0x80
def EJL_BANK_TB (l : Nat) : Nat := 0x55100020 + l * 0x80
def EJL_BANK_ID (l : Nat) : Nat := 0x55100024 + l * 0x80
def EJL_BANK_CNT (l : Nat) : Nat := 0x55100028 + l * 0x80
def EJL_REJOIN_LO (l : Nat) : Nat := 0x5510002c + l * 0x80
def EJL_REJOIN_HI (l : Nat) : Nat := 0x55100030 + l * 0x80
def EJL_FRAMES_TX (l : Nat) : Nat := 0x55100040 + l * 0x80
def EJL_UP_OK (l : Nat) : Nat := 0x55100044 + l * 0x80
def EJL_UP_CRC_ERR (l : Nat) : Nat := 0x55100048 + l * 0x80
def EJL_UP_MISSING (l : Nat) : Nat := 0x5510004c + l * 0x80
def EJL_RETX_FRAMES (l : Nat) : Nat := 0x55100050 + l * 0x80
def EJL_LINK_UPS (l : Nat) : Nat := 0x55100054 + l * 0x80
def EJL_OUT_DROP (l : Nat) : Nat := 0x55100058 + l * 0x80
def FB_CTL (n : Nat) : Nat := 0x56000000 + n * 0x80
def FB_CMD (n : Nat) : Nat := 0x56000004 + n * 0x80
def FB_STAT (n : Nat) : Nat := 0x56000008 + n * 0x80
def FB_ERR (n : Nat) : Nat := 0x5600000c + n * 0x80
def FB_POS (n : Nat) : Nat := 0x56000010 + n * 0x80
def FB_SPEED (n : Nat) : Nat := 0x56000014 + n * 0x80
def FB_POS_SET (n : Nat) : Nat := 0x56000018 + n * 0x80
def FB_INDEX_POS (n : Nat) : Nat := 0x5600001c + n * 0x80
def FB_IDX_CAPT (n : Nat) : Nat := 0x56000020 + n * 0x80
def FB_SPEED_TIMEOUT (n : Nat) : Nat := 0x56000024 + n * 0x80
def FB_LAST_IVL (n : Nat) : Nat := 0x56000028 + n * 0x80
def FB_EDGES (n : Nat) : Nat := 0x56000040 + n * 0x80
def FB_INDEXES (n : Nat) : Nat := 0x56000044 + n * 0x80
def FB_HALL_INVALID (n : Nat) : Nat := 0x56000048 + n * 0x80
def FB_HALL_SKIP (n : Nat) : Nat := 0x5600004c + n * 0x80
def AX_CTL (a : Nat) : Nat := 0x56100000 + a * 0x200
def AX_CMD (a : Nat) : Nat := 0x56100004 + a * 0x200
def AX_STAT (a : Nat) : Nat := 0x56100008 + a * 0x200
def AX_ERR (a : Nat) : Nat := 0x5610000c + a * 0x200
def AX_POS (a : Nat) : Nat := 0x56100010 + a * 0x200
def AX_VEL (a : Nat) : Nat := 0x56100014 + a * 0x200
def AX_POS_SET (a : Nat) : Nat := 0x56100018 + a * 0x200
def AX_MOVE (a : Nat) : Nat := 0x5610001c + a * 0x200
def AX_TRAP_TARGET (a : Nat) : Nat := 0x56100020 + a * 0x200
def AX_PROF_VMAX (a : Nat) : Nat := 0x56100024 + a * 0x200
def AX_PROF_ACC (a : Nat) : Nat := 0x56100028 + a * 0x200
def AX_PROF_DEC (a : Nat) : Nat := 0x5610002c + a * 0x200
def AX_STOP_DEC (a : Nat) : Nat := 0x56100030 + a * 0x200
def AX_CUR (a : Nat) : Nat := 0x56100034 + a * 0x200
def AX_CHOP (a : Nat) : Nat := 0x56100038 + a * 0x200
def AX_CHOP_DLY (a : Nat) : Nat := 0x5610003c + a * 0x200
def AX_CHOP_STAT (a : Nat) : Nat := 0x56100040 + a * 0x200
def AX_LIMIT (a : Nat) : Nat := 0x56100044 + a * 0x200
def AX_HOME (a : Nat) : Nat := 0x56100048 + a * 0x200
def AX_HOME_VEL (a : Nat) : Nat := 0x5610004c + a * 0x200
def AX_HOME_POS (a : Nat) : Nat := 0x56100050 + a * 0x200
def AX_STALL (a : Nat) : Nat := 0x56100054 + a * 0x200
def AX_STALL_K (a : Nat) : Nat := 0x56100058 + a * 0x200
def AX_GEAR (a : Nat) : Nat := 0x5610005c + a * 0x200
def AX_GEAR_NEXT (a : Nat) : Nat := 0x56100060 + a * 0x200
def AX_GEAR_AT (a : Nat) : Nat := 0x56100064 + a * 0x200
def AX_GEAR_SRC (a : Nat) : Nat := 0x56100068 + a * 0x200
def AX_GEAR_VMAX (a : Nat) : Nat := 0x5610006c + a * 0x200
def AX_MOVES_DONE (a : Nat) : Nat := 0x56100080 + a * 0x200
def AX_MOVES_REFUSED (a : Nat) : Nat := 0x56100084 + a * 0x200
def AX_MOVES_FLUSHED (a : Nat) : Nat := 0x56100088 + a * 0x200
def AX_STALLS (a : Nat) : Nat := 0x5610008c + a * 0x200
def AX_LIMIT_TRIPS (a : Nat) : Nat := 0x56100090 + a * 0x200
def AX_GEAR_CHANGES (a : Nat) : Nat := 0x56100094 + a * 0x200
def AX_CHOP_CYCLES (a : Nat) : Nat := 0x56100098 + a * 0x200
def MC_CTL : Nat := 0x48000000
def MC_CMD : Nat := 0x48000004
def MC_STAT : Nat := 0x48000008
def MC_ERR : Nat := 0x4800000c
def MC_DRAM_TOP : Nat := 0x48000010
def MC_EVAC_RESERVE : Nat := 0x48000014
def MC_RES_BASE : Nat := 0x48000018
def MC_MIGRATE_RATE : Nat := 0x4800001c
def MC_PERM (i : Nat) : Nat := 0x48000100 + i * 4
def MC_CH_CTL (n : Nat) : Nat := 0x48001000 + n * 0x400
def MC_CH_CMD (n : Nat) : Nat := 0x48001004 + n * 0x400
def MC_CH_STAT (n : Nat) : Nat := 0x48001008 + n * 0x400
def MC_CH_ERR (n : Nat) : Nat := 0x4800100c + n * 0x400
def MC_DIST_THR (n : Nat) : Nat := 0x48001010 + n * 0x400
def MC_DEV_TEMP (n : Nat) : Nat := 0x48001014 + n * 0x400
def MC_MIG_PTR (n : Nat) : Nat := 0x48001018 + n * 0x400
def MC_ERR_ADDR_LO (n : Nat) : Nat := 0x4800101c + n * 0x400
def MC_ERR_ADDR_HI (n : Nat) : Nat := 0x48001020 + n * 0x400
def MC_TRAIN_STAT (n : Nat) : Nat := 0x48001024 + n * 0x400
def MC_TRAIN_RD (n i : Nat) : Nat := 0x48001040 + n * 0x400 + i * 4
def MC_TRAIN_WR (n i : Nat) : Nat := 0x48001060 + n * 0x400 + i * 4
def MC_READS (n : Nat) : Nat := 0x48001100 + n * 0x400
def MC_WRITES (n : Nat) : Nat := 0x48001104 + n * 0x400
def MC_RMW (n : Nat) : Nat := 0x48001108 + n * 0x400
def MC_ACTS (n : Nat) : Nat := 0x4800110c + n * 0x400
def MC_ROW_HITS (n : Nat) : Nat := 0x48001110 + n * 0x400
def MC_REFRESHES (n : Nat) : Nat := 0x48001114 + n * 0x400
def MC_REF_POSTPONED (n : Nat) : Nat := 0x48001118 + n * 0x400
def MC_NREF (n : Nat) : Nat := 0x4800111c + n * 0x400
def MC_CE (n : Nat) : Nat := 0x48001120 + n * 0x400
def MC_UE (n : Nat) : Nat := 0x48001124 + n * 0x400
def MC_UE_MIGRATED (n : Nat) : Nat := 0x48001128 + n * 0x400
def MC_MIGRATED_BLOCKS (n : Nat) : Nat := 0x4800112c + n * 0x400
def DMA_STAT : Nat := 0x46000000
def DMA_CH_CTL (c : Nat) : Nat := 0x46001000 + c * 0x100
def DMA_CH_CMD (c : Nat) : Nat := 0x46001004 + c * 0x100
def DMA_DOORBELL (c : Nat) : Nat := 0x46001008 + c * 0x100
def DMA_CH_STAT (c : Nat) : Nat := 0x4600100c + c * 0x100
def DMA_CH_ERR (c : Nat) : Nat := 0x46001010 + c * 0x100
def DMA_DESC_LO (c : Nat) : Nat := 0x46001014 + c * 0x100
def DMA_DESC_HI (c : Nat) : Nat := 0x46001018 + c * 0x100
def DMA_CUR_LO (c : Nat) : Nat := 0x4600101c + c * 0x100
def DMA_CUR_HI (c : Nat) : Nat := 0x46001020 + c * 0x100
def DMA_RES_A (c : Nat) : Nat := 0x46001024 + c * 0x100
def DMA_RES_B (c : Nat) : Nat := 0x46001028 + c * 0x100
def DMA_ERR_ADDR_LO (c : Nat) : Nat := 0x4600102c + c * 0x100
def DMA_ERR_ADDR_HI (c : Nat) : Nat := 0x46001030 + c * 0x100
def DMA_DESCS_DONE (c : Nat) : Nat := 0x46001040 + c * 0x100
def DMA_BLOCKS (c : Nat) : Nat := 0x46001044 + c * 0x100
def DMA_DOORBELLS (c : Nat) : Nat := 0x46001048 + c * 0x100
def DMA_DB_EMPTY (c : Nat) : Nat := 0x4600104c + c * 0x100
def DMA_HALTS (c : Nat) : Nat := 0x46001050 + c * 0x100
def DMA_ABORTS (c : Nat) : Nat := 0x46001054 + c * 0x100
def FIRN_ECTL (e : Nat) : Nat := 0x47001000 + e * 0x100
def FIRN_ECMD (e : Nat) : Nat := 0x47001004 + e * 0x100
def FIRN_ESTAT (e : Nat) : Nat := 0x47001008 + e * 0x100
def FIRN_EERR (e : Nat) : Nat := 0x4700100c + e * 0x100
def FIRN_JOB_BASE_LO (e : Nat) : Nat := 0x47001010 + e * 0x100
def FIRN_JOB_BASE_HI (e : Nat) : Nat := 0x47001014 + e * 0x100
def FIRN_JOB_ENTRIES (e : Nat) : Nat := 0x47001018 + e * 0x100
def FIRN_JOB_WR (e : Nat) : Nat := 0x4700101c + e * 0x100
def FIRN_JOB_RD (e : Nat) : Nat := 0x47001020 + e * 0x100
def FIRN_CHUNK_MAX (e : Nat) : Nat := 0x47001024 + e * 0x100
def FIRN_LAST_RES (e : Nat) : Nat := 0x47001028 + e * 0x100
def FIRN_JOBS_DONE (e : Nat) : Nat := 0x47001040 + e * 0x100
def FIRN_JOBS_EXPANDED (e : Nat) : Nat := 0x47001044 + e * 0x100
def FIRN_JOBS_OUT_FULL (e : Nat) : Nat := 0x47001048 + e * 0x100
def FIRN_JOBS_FAILED (e : Nat) : Nat := 0x4700104c + e * 0x100
def FIRN_IN_KIB (e : Nat) : Nat := 0x47001050 + e * 0x100
def FIRN_OUT_KIB (e : Nat) : Nat := 0x47001054 + e * 0x100
def FIRN_STALL_US (e : Nat) : Nat := 0x47001058 + e * 0x100
def FIRN_OUT_DISCARD (e : Nat) : Nat := 0x4700105c + e * 0x100
def ETH_ECTL : Nat := 0x58000000
def ETH_ESTAT : Nat := 0x58000008
def ETH_EERR : Nat := 0x5800000c
def ETH_MAC_LO : Nat := 0x58000010
def ETH_MAC_HI : Nat := 0x58000014
def ETH_MAX_LEN : Nat := 0x58000018
def ETH_TX_BASE_LO : Nat := 0x58000020
def ETH_TX_BASE_HI : Nat := 0x58000024
def ETH_TX_ENTRIES : Nat := 0x58000028
def ETH_TX_WR : Nat := 0x5800002c
def ETH_TX_RD : Nat := 0x58000030
def ETH_RX_BASE_LO : Nat := 0x58000040
def ETH_RX_BASE_HI : Nat := 0x58000044
def ETH_RX_ENTRIES : Nat := 0x58000048
def ETH_RX_WR : Nat := 0x5800004c
def ETH_RX_RD : Nat := 0x58000050
def ETH_MDIO_CTL : Nat := 0x58000060
def ETH_MDIO_CMD : Nat := 0x58000064
def ETH_MDIO_DATA : Nat := 0x58000068
def ETH_MDIO_STAT : Nat := 0x5800006c
def ETH_TX_FRAMES : Nat := 0x58000100
def ETH_TX_OS : Nat := 0x58000104
def ETH_TX_ERR : Nat := 0x58000108
def ETH_RX_FRAMES : Nat := 0x5800010c
def ETH_RX_FCS_ERR : Nat := 0x58000110
def ETH_RX_LONG : Nat := 0x58000114
def ETH_RX_FILTERED : Nat := 0x58000118
def ETH_RX_DROP : Nat := 0x5800011c
def PTP_PCTL : Nat := 0x45000000
def PTP_PCMD : Nat := 0x45000004
def PTP_PSTAT : Nat := 0x45000008
def PTP_PERR : Nat := 0x4500000c
def PTP_INCR_FRAC : Nat := 0x45000010
def PTP_INCR_NS : Nat := 0x45000014
def PTP_STEP_MAX : Nat := 0x45000018
def PTP_ADJ_LO : Nat := 0x45000020
def PTP_ADJ_HI : Nat := 0x45000024
def PTP_SET_LO : Nat := 0x45000028
def PTP_SET_HI : Nat := 0x4500002c
def PTP_SLEW_LEFT : Nat := 0x45000030
def PTP_ALARM_LO : Nat := 0x45000038
def PTP_ALARM_HI : Nat := 0x4500003c
def PTP_LATCH_LO : Nat := 0x45000040
def PTP_LATCH_HI : Nat := 0x45000044
def PTP_LATCH_FRAC : Nat := 0x45000048
def PTP_LATCH_STAT : Nat := 0x4500004c
def PTP_TX_LAT : Nat := 0x45000050
def PTP_RX_LAT : Nat := 0x45000054
def PTP_CAP_LO (i : Nat) : Nat := 0x45000080 + i * 0x10
def PTP_CAP_HI (i : Nat) : Nat := 0x45000084 + i * 0x10
def PTP_CAP_STAT (i : Nat) : Nat := 0x45000088 + i * 0x10
def PTP_STEPS : Nat := 0x45000100
def PTP_STEPS_REFUSED : Nat := 0x45000104
def PTP_SLEWS : Nat := 0x45000108
def PTP_CAPTURES : Nat := 0x4500010c
def TPG_TCTL (k : Nat) : Nat := 0x45100000 + k * 0x80
def TPG_TCMD (k : Nat) : Nat := 0x45100004 + k * 0x80
def TPG_TSTAT (k : Nat) : Nat := 0x45100008 + k * 0x80
def TPG_TERR (k : Nat) : Nat := 0x4510000c + k * 0x80
def TPG_START_LO (k : Nat) : Nat := 0x45100010 + k * 0x80
def TPG_START_HI (k : Nat) : Nat := 0x45100014 + k * 0x80
def TPG_PERIOD (k : Nat) : Nat := 0x45100018 + k * 0x80
def TPG_WIDTH (k : Nat) : Nat := 0x4510001c + k * 0x80
def TPG_FRAC (k : Nat) : Nat := 0x45100020 + k * 0x80
def TPG_COUNT (k : Nat) : Nat := 0x45100024 + k * 0x80
def TPG_NEXT_LO (k : Nat) : Nat := 0x45100028 + k * 0x80
def TPG_NEXT_HI (k : Nat) : Nat := 0x4510002c + k * 0x80
def TPG_PULSES (k : Nat) : Nat := 0x45100040 + k * 0x80
def TPG_SKIPPED (k : Nat) : Nat := 0x45100044 + k * 0x80
def EVF_LOCK : Nat := 0x44000000
def EVF_STAT : Nat := 0x44000004
def EVF_FX_CTL : Nat := 0x44000010
def EVF_SW_FIRE (i : Nat) : Nat := 0x44000040 + i * 4
def EVF_CH_FIRE (i : Nat) : Nat := 0x44000060 + i * 4
def EVF_CH_CTL (n : Nat) : Nat := 0x44001000 + n * 4
def EVF_CONS (m : Nat) : Nat := 0x44002000 + m * 4
def EVF_EVENTS (n : Nat) : Nat := 0x44003000 + n * 4
def EVF_OVERRUN (n : Nat) : Nat := 0x44003400 + n * 4
def EVF_COINCIDE (n : Nat) : Nat := 0x44003800 + n * 4
def SYS_SYS_ID : Nat := 0x40000000
def SYS_SNAP_CTL : Nat := 0x40000004
def SYS_SYS_ERR : Nat := 0x4000000c
def SYS_CORE_CTL : Nat := 0x40000010
def SYS_CORE_STAT : Nat := 0x40000014
def SYS_BOOT_ADDR_LO : Nat := 0x40000018
def SYS_BOOT_ADDR_HI : Nat := 0x4000001c
def SYS_PROT_LOCK : Nat := 0x40000020
def SYS_SRAM_ERR_LO : Nat := 0x40000028
def SYS_SRAM_ERR_HI : Nat := 0x4000002c
def SYS_MTIME_LO : Nat := 0x40000040
def SYS_MTIME_HI : Nat := 0x40000044
def SYS_MTIMECMP_LO (h : Nat) : Nat := 0x40000080 + h * 8
def SYS_MTIMECMP_HI (h : Nat) : Nat := 0x40000084 + h * 8
def SYS_MSIP (h : Nat) : Nat := 0x400000c0 + h * 4
def SYS_PRIV_DENIED : Nat := 0x40000100
def SYS_TV_CORR : Nat := 0x40000104
def SYS_SRAM_CE : Nat := 0x40000108
def SYS_SRAM_UE : Nat := 0x4000010c
def SYS_CACHE_CE : Nat := 0x40000110
def SYS_CACHE_UE : Nat := 0x40000114
def SYS_DECODE_ERR : Nat := 0x40000118
def GUARD_GCTL : Nat := 0x41000000
def GUARD_GSTAT : Nat := 0x41000004
def GUARD_DOORBELL : Nat := 0x41000010
def GUARD_MBOX_IN (i : Nat) : Nat := 0x41000040 + i * 4
def GUARD_MBOX_OUT (i : Nat) : Nat := 0x41000080 + i * 4
def IRQC_PRIO (s : Nat) : Nat := 0x43000000 + s * 4
def IRQC_PEND (i : Nat) : Nat := 0x43002000 + i * 4
def IRQC_MERGED : Nat := 0x43003000
def IRQC_ENABLE (t i : Nat) : Nat := 0x43010000 + t * 0x100 + i * 4
def IRQC_THRESH (t : Nat) : Nat := 0x430100c0 + t * 0x100
def IRQC_TOP (t : Nat) : Nat := 0x430100c4 + t * 0x100
def IRQC_COMPLETE (t : Nat) : Nat := 0x430100c8 + t * 0x100
def TWIN_TCTL : Nat := 0x57000000
def TWIN_TCMD : Nat := 0x57000004
def TWIN_TSTAT : Nat := 0x57000008
def TWIN_TERR : Nat := 0x5700000c
def TWIN_MIRROR_PERIOD : Nat := 0x57000010
def TWIN_SEL_MASK : Nat := 0x57000014
def TWIN_MATCH_WAIT : Nat := 0x57000018
def TWIN_TAKE_QUAD : Nat := 0x5700001c
def TWIN_TAKE_TP : Nat := 0x57000020
def TWIN_MIRROR_SEQ : Nat := 0x57000024
def TWIN_TAKE_TIME_LO : Nat := 0x57000028
def TWIN_TAKE_TIME_HI : Nat := 0x5700002c
def TWIN_USER_TX (i : Nat) : Nat := 0x57000040 + i * 4
def TWIN_USER_RX (i : Nat) : Nat := 0x57000080 + i * 4
def TWIN_USER_CTL : Nat := 0x570000c0
def TWIN_USER_STAT : Nat := 0x570000c4
def TWIN_HB_1_RX : Nat := 0x57000100
def TWIN_HB_2_RX : Nat := 0x57000104
def TWIN_HB_1_MISS : Nat := 0x57000108
def TWIN_HB_2_MISS : Nat := 0x5700010c
def TWIN_CYCLES_SENT : Nat := 0x57000110
def TWIN_CYCLES_APPLIED : Nat := 0x57000114
def TWIN_CYCLES_LOST : Nat := 0x57000118
def TWIN_REC_MATCHED : Nat := 0x5700011c
def TWIN_REC_INSERTED : Nat := 0x57000120
def TWIN_REC_DROPPED : Nat := 0x57000124
def TWIN_SHADOW_ONLY : Nat := 0x57000128
def TWIN_VERDICT_DIFF : Nat := 0x5700012c
def TWIN_SUM_BLOCKS : Nat := 0x57000130
def TWIN_SUM_MISMATCH : Nat := 0x57000134
def TWIN_SUM_LATE : Nat := 0x57000138
def TWIN_EARLY_SEND : Nat := 0x5700013c
def TWIN_TAKEOVERS : Nat := 0x57000140
def TWIN_YIELDS : Nat := 0x57000144
def TWIN_LINK_DROP : Nat := 0x57000148
def TWIN_USER_SENT : Nat := 0x5700014c
def SUP_SCTL : Nat := 0x42000000
def SUP_SSTAT : Nat := 0x42000004
def SUP_SERR : Nat := 0x42000008
def SUP_RESET_CAUSE : Nat := 0x4200000c
def SUP_WARNS : Nat := 0x42000040
def SUP_CORE_RESETS : Nat := 0x42000044
def SUP_FEED_LOSSES : Nat := 0x42000048
def CAL_CCTL : Nat := 0x42100000
def CAL_CCMD : Nat := 0x42100004
def CAL_CERR : Nat := 0x4210000c
def CAL_RES_MEAS : Nat := 0x42100010
def CAL_TEMP_ALARM : Nat := 0x42100014
def CAL_TEMP (i : Nat) : Nat := 0x42100020 + i * 4
def CAL_LAST_TEMP (i : Nat) : Nat := 0x42100040 + i * 4
def CAL_DSTAT (d : Nat) : Nat := 0x42100060 + d * 4
def CAL_RUNS : Nat := 0x42100100
def CAL_FAILS : Nat := 0x42100104
def CAL_APPLIED : Nat := 0x42100108
def ERRLOG_BLOCK_STICKY : Nat := 0x42200000
def ERRLOG_GERR : Nat := 0x42200004
def ERRLOG_ECMD : Nat := 0x42200008
def ERRLOG_LOCK_ADDR_LO : Nat := 0x42200010
def ERRLOG_LOCK_ADDR_HI : Nat := 0x42200014
def ERRLOG_LOCK_MASTER : Nat := 0x42200018
def ERRLOG_AON_US_LO : Nat := 0x42200020
def ERRLOG_AON_US_HI : Nat := 0x42200024
def ERRLOG_FINFO (b : Nat) : Nat := 0x42200400 + b * 0x20
def ERRLOG_FADDR_LO (b : Nat) : Nat := 0x42200404 + b * 0x20
def ERRLOG_FADDR_HI (b : Nat) : Nat := 0x42200408 + b * 0x20
def ERRLOG_FTIME_LO (b : Nat) : Nat := 0x4220040c + b * 0x20
def ERRLOG_FTIME_HI (b : Nat) : Nat := 0x42200410 + b * 0x20
def ERRLOG_FAON_LO (b : Nat) : Nat := 0x42200414 + b * 0x20
def ERRLOG_FAON_HI (b : Nat) : Nat := 0x42200418 + b * 0x20
def QSPI_QCTL : Nat := 0x58200000
def QSPI_QCMD : Nat := 0x58200004
def QSPI_QSTAT : Nat := 0x58200008
def QSPI_QERR : Nat := 0x5820000c
def QSPI_QOP : Nat := 0x58200010
def QSPI_QADDR : Nat := 0x58200014
def QSPI_QLEN : Nat := 0x58200018
def QSPI_BOOT_STAT : Nat := 0x58200020
def QSPI_RST_REQ : Nat := 0x58200024
def QSPI_QDATA (i : Nat) : Nat := 0x58200100 + i * 4
def UART_UCTL (i : Nat) : Nat := 0x58100000 + i * 0x10000
def UART_UCMD (i : Nat) : Nat := 0x58100004 + i * 0x10000
def UART_USTAT (i : Nat) : Nat := 0x58100008 + i * 0x10000
def UART_UERR (i : Nat) : Nat := 0x5810000c + i * 0x10000
def UART_UTX (i : Nat) : Nat := 0x58100010 + i * 0x10000
def IIC_ICTL : Nat := 0x58300000
def IIC_ICMD : Nat := 0x58300004
def IIC_IXFER : Nat := 0x58300008
def IIC_ISTAT : Nat := 0x5830000c
def IIC_IERR : Nat := 0x58300010
def IIC_IWDATA (i : Nat) : Nat := 0x58300040 + i * 4
def IIC_IRDATA (i : Nat) : Nat := 0x58300060 + i * 4

end Sys2Proof.R
end

