-- ==== Sys2Proof/Machine/State.lean ====
section
/-! DEFINITION. The state of the EG9, as plain data: every register of its register map, and the state behind the registers. -/

namespace Sys2Proof.Machine

/-- The network time base (R338, R347): `nt` holds signed 64-bit ns in [95:32] and the fraction in [31:0]; `incr` is the
increment in use in units of 2⁻³² ns; `mtime` is SYS.MTIME (R367); `slewCyc` counts CLK_TIME cycles since SLEW_LEFT last
moved. -/
structure TimeBase where
  nt : BitVec 96 := 0
  incr : BitVec 96 := 0x800000000
  mtime : BitVec 64 := 0
  slewCyc : Nat := 0
  secSeen : Int := 0
deriving DecidableEq, Repr

/-- One event channel (R360, R363): the CLK_PER cycle of its last delivery, the MIN_GAP that held then, and whether an event is held as
pending. -/
structure Chan where
  last : Option Nat := none
  gap : Nat := 16
  pend : Bool := false
deriving DecidableEq, Repr

/-- What keeps the main domain in reset (R423, R434): the RESET_N ball, POR_N, both always-on feeds lost, a core supply
below its release level. -/
structure ResetHold where
  por : Bool := false
  feeds : Bool := false
  pin : Bool := false
  coreUv : Bool := false
  sramUv : Bool := false
deriving DecidableEq, Repr

/-- A lane beyond its registers (R38 to R46): whether its state machine runs or it only listens, its training timer, the
TRAIN blocks it sends (RX_LOCKED and GOING_READY) and has received, its header history, its descrambler, its polarity
hunt, the cycles of its invalid headers of the last 125 µs, newest first (R40), the next TRAIN_SEQ (R41), the scrambler of what it
sends (R39), the pattern generator and the pattern checker: their registers, the error-free run, the errors among the last 256 bits and
the checked bits that do not fill 2²⁰ (R52). -/
structure LaneX where
  up : Bool := false
  listen : Bool := false
  timer : Bool := false
  txLocked : Bool := false
  prevTrain : Option (Nat × Nat) := none
  run : Nat := 0
  peerLocked : Bool := false
  validRun : Nat := 0
  hdrBad : List Bool := []
  slips : Nat := 0
  badAt : List Nat := []
  descr : BitVec 58 := 0
  prevCompl : Option (Nat × Nat) := none
  complRun : Nat := 0
  rxBlock : Option (BitVec 2 × BitVec 64) := none
  align : Nat := 0
  alignLog : Nat := 4
  calStaged : Bool := false
  calApplied : Nat := 0
  prbsRun : Nat := 0
  eyeDwell : Nat := 0
  txSeq : Nat := 0
  txScr : BitVec 58 := 0
  genReg : BitVec 31 := 1
  chkReg : BitVec 31 := 0
  chkErrs : List Bool := []
  chkBits : Nat := 0
deriving DecidableEq, Repr

/-- A quad beyond its registers: QUAD_CTL as last applied (R37), and whether its reference clock runs (R49), and the time since its last
block period began, in units of 10 ps (R36). -/
structure QuadX where
  ctl : Word := 0
  refLost : Bool := false
  txClk : Nat := 0
deriving DecidableEq, Repr

/-- What Aelore hands to a front end, in order of arrival (R77, R89). -/
inductive FeItem where
  | frameStart (frameNo frameLines settingId linePx : Nat) (crcOk : Bool)
  | frameEnd (frameNo linesSent : Nat) (crcOk : Bool)
  | lineStart (frameNo lineNo : Nat) (time : BitVec 64) (crcOk : Bool)
  | lineEnd (frameNo lineNo : Nat) (overrun fault : Bool) (samples : Nat) (crcOk : Bool)
  | pixels (dt aux : Nat) (lastSeg : Bool) (col : Nat) (data : List (BitVec 8)) (crcOk : Bool)
  | short
  | linkLost
deriving DecidableEq, Repr

/-- A packet that waits for its stream-out port: data type, AUX, LAST_SEG, payload (R92). -/
structure OutPkt where
  dt : Nat
  aux : Nat
  flags : Nat
  payload : List (BitVec 8)
deriving DecidableEq, Repr

/-- A block of the port stream as it arrives on a lane (R61, R62): a data unit, an IDLE unit, or the block of a column with the
cycle in which it arrived. -/
inductive RxEnt where
  | data (d : BitVec 64)
  | idle
  | align (seq mask at' : Nat)
  | trigger
  | stripe (mask seq : Nat) (ack atFrame : Bool)
deriving DecidableEq, Repr

/-- A line that a stream-out port is sending (R90): the lines of its frame, whether FRAME_START has just been sent, the units that its
pixel packets may still take, the columns sent, whether the line was cut, and the units that it takes in all. -/
structure OutLine where
  lines : Nat := 0
  fresh : Bool := false
  left : Nat := 0
  cols : Nat := 0
  cut : Bool := false
  used : Nat := 0
deriving DecidableEq, Repr

/-- A camera port beyond its registers (R82 to R95). `req` is the outstanding STRIPE request (mask, AT_FRAME) with its tries;
`descTry` counts the tries of a descriptor read and `descBusy` says that the present try was ended by BUSY; `tsWait` says that a
tagged setting has no answer yet; `acked` holds the acknowledged settings, newest first. `bcRead` is the operation that GO sent (R87). `openNo` is the LINE_NO of the
line open at the port, `caught` says that R89 has already handed it on as SHORT, and `skip` that the line under way began inside the
interval of R89. `shrunk` says that the last STRIPE request took lanes off (R71). `cols` and `txq` hold the columns and the units to be
sent, `colsSince` counts the columns since the last ALIGN (R66); `rxLanes` holds, by logical lane, what has arrived and is not
de-striped yet, `rxSync` says that the lanes are lined up, `rxStripe` holds a STRIPE column whose ALIGN has not come, `rxPart` the packet
under reception (R61 to R66). `camRegs` are FRAME_LINES, LINE_PX and LINE_PERIOD_NS of the camera end (R84); `outLast` is the stream that
sent last, `lines` what each stream's line takes (R90, R92). -/
structure PortX where
  txMask : Nat := 0
  rxMask : Nat := 0
  req : Option (Nat × Bool) := none
  tries : Nat := 0
  stripeSeq : Nat := 0
  alignSeq : Nat := 0
  rxAlign : Nat := 0
  txSeq : Nat := 0
  rxSeq : Nat := 0
  gapFree : Bool := false
  noDeliver : Bool := false
  resumeAtIdle : Bool := false
  hunt : Bool := false
  afFrames : Nat := 0
  descTry : Nat := 0
  descBusy : Bool := false
  descAgain : Bool := false
  hasDesc : Bool := false
  hasMask : Bool := false
  bcTag : Nat := 0
  bcBusy : Bool := false
  stopPend : Bool := false
  deliver : Bool := false
  openLine : Bool := false
  trigRing : List (Nat × Int) := []
  trigQ : List Int := []
  tsTag : Nat := 0
  tsWait : Bool := false
  acked : List (Nat × Nat) := []
  camRun : Bool := false
  pendAck : Option Nat := none
  out : List (Nat × OutPkt) := []
  bcRead : Bool := false
  openNo : Nat := 0
  caught : Bool := false
  skip : Bool := false
  shrunk : Bool := false
  cols : List (BitVec 64 × Bool) := []
  txq : List (Bool × BitVec 64) := []
  colsSince : Nat := 0
  rxLanes : List (List RxEnt) := [[], [], [], []]
  rxSync : Bool := false
  rxStripe : Option (Nat × Nat × Bool × Bool) := none
  rxPart : Option (BitVec 64 × List (BitVec 8)) := none
  camRegs : List Nat := [64, 0, 0]
  outLast : Nat := 3
  lines : List OutLine := [{}, {}, {}, {}]
deriving DecidableEq, Repr

/-- The values of GEOM, FORMAT and the MOSAIC_ROW registers in force (R101). -/
structure FeCfg where
  geom : Word := 0x04004000
  format : Word := 0x00490011
  mos : List Word := [0, 0, 0, 0]
deriving DecidableEq, Repr

/-- The values that a line takes at its LINE_START (R110): DARK_SCALE, BLACK, GAIN, XT, OFFS of the bank in force, PAD_VAL. -/
structure FeBank where
  darkScale : Nat
  black : List Int
  gain : List Nat
  xt : List Int
  offs : List Int
  pad : List Nat
deriving DecidableEq, Repr

/-- A line under assembly (R102 to R104): its identity, flags, next expected column, samples by column, what it took at its
LINE_START, and the columns whose samples were discarded under BACKLOG or DT_MISMATCH (R106). -/
structure FeOpen where
  frameNo : Nat
  lineNo : Nat
  time : BitVec 64
  flags : Nat
  next : Nat
  samples : List (Nat × Nat)
  bypass : Bool
  bank : FeBank
  tab : SMap Word
  gone : List Nat := []
deriving DecidableEq, Repr

/-- A closed line (R106, R108, R112): its frame's ordinal, its place in the continuous stream (epoch and index), its
corrected sites by column, its saturated raw samples, and the place from which on the lines of its window count as missing (R112,
R113). -/
structure FeLine where
  fo : Nat
  ep : Nat
  g : Nat
  frameNo : Nat
  lineNo : Nat
  time : BitVec 64
  flags : Nat
  cfg : FeCfg
  bankNo : Nat
  bank : FeBank
  sites : List (Nat × Nat)
  satRaw : Nat
  cut : Option Nat := none
deriving DecidableEq, Repr

/-- The statistics of one frame (R120, R121); `closed` once its last line is known. -/
structure FeStat where
  fo : Nat
  keep : Bool
  frameNo : Nat
  settingId : Nat
  flags : Nat
  cfg : FeCfg
  closed : Bool := false
  linesOut : Nat := 0
  firstTime : BitVec 64 := 0
  lastTime : BitVec 64 := 0
  padded : Nat := 0
  flagged : Nat := 0
  satRaw : Nat := 0
  counted : Nat := 0
  clipHi : SMap Nat := []
  clipLo : SMap Nat := []
  hist : SMap Nat := []
  colSum : SMap Nat := []
  colCnt : SMap Nat := []
deriving DecidableEq, Repr

/-- A front end beyond its registers (R100 to R120): the quad it takes its stream from, the configuration in force and the one
that waits for FRAME_START, the frame and line under assembly, the reconstruction window, the pending bank switches and the
frames' statistics. `swTagNext` is a tagged switch moved by a late SET_ACK (R88): how many FRAME_STARTs that had reached the port
before the ACK come first. `buf` is what the assembly buffer holds, in fifths of a sample, as of clock cycle `bufAt` (R105). -/
structure FeX where
  quad : Option Nat := none
  cfg : FeCfg := {}
  wait : Option FeCfg := none
  first : Bool := true
  firstLine : Bool := true
  prevFrame : Nat := 0
  prevTime : BitVec 64 := 0
  expect : Nat := 0
  line : Option FeOpen := none
  fo : Nat := 0
  ep : Nat := 0
  base : Nat := 0
  opened : Nat := 0
  waited : Bool := false
  hist : List FeLine := []
  done : List FeLine := []
  stats : List FeStat := []
  swTag : Option Nat := none
  swTagNext : Option Nat := none
  swSoft : Bool := false
  buf : Nat := 0
  bufAt : Nat := 0
  initDone : Bool := false
  tab : SMap Word := []
deriving DecidableEq, Repr

/-- A corrected line as it leaves a front end (R116): `data` holds one list of 12-bit values per plane. -/
structure CLine where
  frameNo : Nat
  lineNo : Nat
  time : BitVec 64
  flags : Nat
  bank : Nat
  px : Nat
  planes : Nat
  data : List (List Nat)
deriving DecidableEq, Repr

/-- A row under assembly (R128, R129): its number, its row time, whether a line has set that time, the contribution of each slot
with whether it failed R136, and RESYNC. -/
structure StRow where
  no : Nat
  tr : Int
  setBy : Option Nat := none
  lines : List (Option (CLine × Bool)) := List.replicate 8 none
  resync : Bool := false
deriving DecidableEq, Repr

/-- A stitch engine beyond its registers: what the last accepted APPLY put in force (R126), the misses of each slot (R129), the
open rows, the number and time of the next row to open (R128), the identity of the last row (R131), a torn table (R140), and
what Drift holds of the view beyond its columns: EN in force and a pending seed (R147). -/
structure ViewX where
  width : Nat := 0
  period : Nat := 10000
  timeout : Nat := 30000
  planes : Nat := 4
  anchor : Nat := 0
  missLimit : Nat := 4
  tabBase : Nat := 0
  dlyBase : Nat := 0
  slots : List (Option (Nat × Nat)) := List.replicate 8 none
  snap : List (Nat × Nat) := List.replicate 8 (0, 0)
  miss : List Nat := List.replicate 8 0
  rows : List StRow := []
  nextNo : Nat := 0
  nextTr : Int := 0
  prevLine : Nat := 0
  prevFrame : Nat := 0
  frameRows : Nat := 0
  torn : Bool := false
  seedPend : Bool := false
deriving DecidableEq, Repr

/-- A row of a view with its sideband (R137): `px` holds one list of planes per column, `pad` the padded columns; Drift adds the
reference of every plane and COVERED (R149). -/
structure VRow where
  rowNo : Nat
  frameNo : Nat
  lineNo : Nat
  time : BitVec 64
  mask : Nat
  flags : Nat
  px : List (List Nat)
  pad : List Bool
  ref : List (List Nat) := []
  cov : List Bool := []
deriving DecidableEq, Repr

/-- Drift's state of one column (R142): M, U and Y of each plane, and HOLD. -/
structure DriftCol where
  m : List Int := [0, 0, 0, 0]
  u : List Int := [0, 0, 0, 0]
  y : List Int := [0, 0, 0, 0]
  hold : Nat := 0
deriving DecidableEq, Repr

/-- A defect tag of a run, a label or a fragment (R169, R193): valid, class, size in pixels. -/
structure Tag where
  v : Bool := false
  cls : Nat := 0
  size : Nat := 0
deriving DecidableEq, Repr

/-- A run of the current row (R193): its slot columns, its two tags, its feature sums and its pad mark. -/
structure HRun where
  s : Nat
  e : Nat
  tags : List Tag := [{}, {}]
  feat : List Nat := [0, 0, 0, 0]
  pad : Bool := false
deriving DecidableEq, Repr

/-- The identity of a row as a label keeps it: ROW_NO, FRAME_NO, LINE_NO, LINE_TIME. -/
structure RowId where
  row : Nat := 0
  frame : Nat := 0
  line : Nat := 0
  time : BitVec 64 := 0
deriving DecidableEq, Repr

/-- A label that is not free (R195, R196). -/
structure HLabel where
  closed : Bool := false
  first : RowId := {}
  last : RowId := {}
  colMin : Nat := 0
  colMax : Nat := 0
  area : Nat := 0
  tags : List Tag := [{}, {}]
  feat : List Nat := [0, 0, 0, 0]
  edgeL : Bool := false
  edgeR : Bool := false
  padTouch : Bool := false
  rowFlagged : Bool := false
  spilled : Bool := false
deriving DecidableEq, Repr

/-- A fragment record (R169). -/
structure HFrag where
  view : Nat := 0
  tile : Nat := 0
  gctx : Nat := 0
  group : Nat := 0
  stripe : Nat := 0
  spilled : Bool := false
  rowFlagged : Bool := false
  edgeL : Bool := false
  edgeR : Bool := false
  cut : Bool := false
  trunc : Bool := false
  padTouch : Bool := false
  first : RowId := {}
  last : RowId := {}
  colMin : Nat := 0
  colMax : Nat := 0
  area : Nat := 0
  span : Nat := 0
  tags : List Tag := [{}, {}]
  feat : List Nat := [0, 0, 0, 0]
deriving DecidableEq, Repr

/-- What travels from a tile to Moraine in the tile's emit order (R170, R205): a fragment, or the row mark of a stripe-row: view,
group, group context, stripe, ROW_NO. -/
inductive HItem where
  | frag (f : HFrag)
  | mark (view group gctx stripe row : Nat)
deriving DecidableEq, Repr

/-- A row that a context holds in its ring and has not finished: its place in the context's stream, ROW_NO, FRAME_FIRST, and the
key of its class row. -/
structure HRow where
  seq : Nat
  no : Nat
  first : Bool
deriving DecidableEq, Repr

/-- What the vector slot of the word in issue writes once both slots have read (R182). -/
inductive VRes where
  | none
  | vec (d : Nat) (x : BitVec 3072)
  | pred (d : Nat) (x : BitVec 768)
  | scal (d : Nat) (x : Word)
  | mem (a : Nat) (x : BitVec 3072) (m : BitVec 3072)
deriving DecidableEq, Repr

/-- What the scalar slot of a word does (R182, R192): the register it writes, the scratch word it stores, where the program goes
on, for how many further cycles the context is held, and the end of the invocation or a break. -/
structure SRes where
  reg : Option (Nat × Word) := none
  mem : Option (Nat × Word) := none
  target : Option Nat := none
  hold : Nat := 0
  fin : Bool := false
  brk : Bool := false
deriving DecidableEq, Repr

/-- A hardware context (R154, R178): its registers; the stripe it is bound to (group, group context, stripe); the program it
runs (base, length, ENTRY_FRAME, ENTRY_ROW); rows on their way to it and rows in its ring; the invocation in progress
(row entry or not, the row) with its cycle count, the cycle from which each register is ready, and the word in issue; since when it waits for a place in the fragment queue (R170); a halt and a watchdog halt that wait for the word in issue
to be complete; the cycles of its last row and when it ended (R165); and its label unit. -/
structure HCtx where
  v : SMap (BitVec 3072) := []
  s : SMap Word := []
  p : SMap (BitVec 768) := []
  pc : Nat := 0
  bind : Option (Nat × Nat × Nat) := none
  prog : Nat × Nat := (0, 0)
  entry : Nat × Nat := (0, 0)
  inq : List VRow := []
  rows : List HRow := []
  seq : Nat := 0
  lastNo : Nat := 0
  gap : Bool := false
  rp : Nat := 0
  frameDone : Bool := false
  inv : Option (Bool × HRow) := none
  cyc : Nat := 0
  rdy : SMap Nat := []
  vres : Option VRes := none
  after : Option SRes := none
  stallAt : Option Nat := none
  haltReq : Bool := false
  dogReq : Bool := false
  wdog : Nat := 0
  cRow : Nat := 0
  cLast : Option (Nat × Nat) := none
  labels : SMap HLabel := []
  cur : List HRun := []
  openRun : Option HRun := none
  runNext : Option Int := none
  prev : List (Nat × Nat × Nat) := []
  lrow : Bool := false
  conn : Bool := false
  returned : List Nat := []
deriving DecidableEq, Repr

/-- A tile (R154): line store, IMEM by 32-bit half word, two CLUT banks, its four contexts, its fragment queue with what waits
for a place in it (by context; a row mark that waits behind it belongs to none), the context it visited last, and the bank in force when it left its group. -/
structure TileX where
  ls : SMap (BitVec 8) := []
  imem : SMap Word := []
  clut : SMap (BitVec 8) := []
  bank : Nat := 0
  ctxs : SMap HCtx := []
  queue : List HItem := []
  backlog : List (Nat × HItem) := []
  lastCtx : Nat := 3
deriving DecidableEq, Repr

/-- A group context in force (R157, R166): view, columns, spill area, FRAME_ROWS. -/
structure GKCfg where
  view : Nat
  lo : Nat
  hi : Nat
  spillFrames : Nat
  spillBase : Nat
  frameRows : Nat
deriving DecidableEq, Repr

/-- A spilled frame (R166, R168): its group context, its place in the spill ring, for each row that was spilled its ROW_NO and whether
memory took it, and whether its last row has come. -/
structure SpillFr where
  k : Nat
  idx : Nat
  rows : List (Nat × Bool)
  done : Bool
deriving DecidableEq, Repr

/-- A tile group beyond its registers: what the last accepted APPLY put in force (R157 to R160), the program
(base, length, ENTRY_FRAME, ENTRY_ROW), the one a pending swap brings and whether a context has taken it (R173), and for BY_FRAME the rows
that arrive, what becomes of each group context's live frame (0 runs, 1 spills, 2 is dropped), the group context its contexts
are bound to, the one they are to be bound to next, the spilled frames and whether the oldest is being replayed. -/
structure GroupX where
  tiles : List Nat := []
  stripeW : Nat := 1024
  apron : Nat := 0
  edge : Nat := 0
  rowSlots : Nat := 2
  lh : Nat := 0
  scratch : Nat := 0
  byFrame : Bool := false
  classEn : Bool := false
  prog : Nat × Nat := (0, 0)
  entry : Nat × Nat := (0, 0)
  next : (Nat × Nat) × (Nat × Nat) := ((0, 0), (0, 0))
  begun : Bool := false
  ks : List (Option GKCfg) := [none, none, none, none]
  gin : List (Nat × VRow) := []
  live : List Nat := [2, 2, 2, 2]
  bound : Option Nat := none
  changing : Option Nat := none
  spills : List SpillFr := []
  spillNext : List Nat := [0, 0, 0, 0]
  replay : Bool := false
deriving DecidableEq, Repr

/-- A CLASS4 row of a view (R171): its triple, the codes by column, and the stripes that have not finished it. -/
structure ClassRow where
  rowNo : Nat
  frameNo : Nat
  lineNo : Nat
  time : BitVec 64
  codes : SMap Nat
  waiting : List (Nat × Nat × Nat)
deriving DecidableEq, Repr

/-- A row that has left Drift and is not yet behind its view's horizon (R205): ROW_NO, when it left, the stripes that have marked
it. -/
structure LeftRow where
  row : Nat
  at' : Int
  marks : List (Nat × Nat × Nat)
deriving DecidableEq, Repr

/-- A tag slot of an object (R203); `time` is the LINE_TIME of the tag's row, from which TIME_DELTA follows. -/
structure OTag where
  v : Bool := false
  cls : Nat := 0
  sideB : Bool := false
  fe : Nat := 0
  size : Nat := 0
  frame : Nat := 0
  line : Nat := 0
  time : BitVec 64 := 0
deriving DecidableEq, Repr

/-- One side of an object (R203): its view, box, area, last line time. -/
structure OSide where
  view : Nat := 0
  colMin : Nat := 0
  colMax : Nat := 0
  area : Nat := 0
  last : BitVec 64 := 0
deriving DecidableEq, Repr

/-- An entry of the object table (R202, R203); beyond its 128 bytes the last ROW_NO of its open side, the fragments kept for
joins (R206), and whether its side is closed and on its way to decision. `dseq` is DSEQ of its first record (R403). -/
structure Obj where
  gen : Nat := 0
  state : Nat := 0
  a : Option OSide := none
  b : Option OSide := none
  fused : Bool := false
  pMissed : Bool := false
  late : Bool := false
  cut : Bool := false
  rowFlagged : Bool := false
  spilled : Bool := false
  padTouch : Bool := false
  verdict : Nat := 0
  tagLost : Bool := false
  dflt : Bool := false
  rule : Nat := 0
  frame : Nat := 0
  line : Nat := 0
  time : BitVec 64 := 0
  frags : Nat := 0
  eject : BitVec 64 := 0
  vFirst : Nat := 0
  vLast : Nat := 0
  clipped : Bool := false
  clamped : Bool := false
  handed : Bool := false
  dseq : Nat := 0xffffffff
  feat : List Nat := [0, 0, 0, 0]
  tags : List OTag := [{}, {}, {}]
  pulse : Nat := 0
  lastRow : Nat := 0
  kept : List HFrag := []
  deciding : Bool := false
deriving DecidableEq, Repr

/-- A check block (R408): its key, its sum and count, the last row it covers, and when it closed. -/
structure CheckBlk where
  view : Nat
  frame : Nat
  blk : Nat
  sum : BitVec 32
  frags : Nat
  lastRow : Nat
  closed : Option Int := none
  sent : Bool := false
deriving DecidableEq, Repr

/-- An action (R234): VALVE, OPEN and CLOSE, OBJ_ID, and the mirror cycle of its object where it is mirrored (R412). -/
structure Act where
  valve : Nat
  opn : Int
  close : Int
  objId : Nat
  cycle : Option Nat := none
deriving DecidableEq, Repr

/-- A queued action (R235, R238, R240): its acceptance number and the clock cycle of its acceptance; `tx` is 0 unsent, 1 in a frame under way,
2 sent, 3 in a frame under way once more; whether its pulse has grown since, whether it was ever acknowledged, whether it missed its last slot, and
whether R412 has counted it. -/
structure QAct where
  act : Act
  ord : Nat
  cyc : Nat := 0
  tx : Nat := 0
  grown : Bool := false
  acked : Bool := false
  missed : Bool := false
  early : Bool := false
deriving DecidableEq, Repr

/-- The frame of a link in a slot (R240 to R244): T_k, its FSEQ, its ARMED bit, the acceptance number and CLOSE of each action it carries, its bytes
from the header to the CRC, and what its upstream frame was. -/
structure EjFrame where
  t : Int
  fseq : Nat
  armed : Bool := false
  acts : List (Nat × Int)
  bytes : List (BitVec 8)
  valid : Bool := false
  acked : Bool := false
  crcBad : Bool := false
deriving DecidableEq, Repr

/-- An ejector link behind its registers (R241, R247): the next FSEQ, the frame assembled for the slot ahead, the frame sent in the slot in progress,
slots without a valid upstream frame in a row, RESYNC in this slot. -/
structure EjLink where
  fseq : Nat := 0
  next : Option EjFrame := none
  frame : Option EjFrame := none
  miss : Nat := 0
  resync : Bool := false
deriving DecidableEq, Repr

/-- What has met in one CLK_PER cycle of a feedback channel (R262): the cycle, POS before it, the Hall counts, POS_SET where SET_POS
stands in it, whether it holds an index event, and INDEX_POS where that event reset POS. -/
structure FbMeet where
  cyc : Nat
  pos : Word
  count : Int := 0
  put : Option Word := none
  idx : Bool := false
  load : Option Word := none
deriving DecidableEq, Repr

/-- A feedback channel behind its registers (R258, R263): the last valid Hall state as the reference, the cycle of the last edge, the
intervals since the last first edge, newest first, and the last cycle in which something reached POS. -/
structure FbX where
  meet : Option FbMeet := none
  ref : Option Nat := none
  edgeAt : Option Nat := none
  ivls : List Nat := []
deriving DecidableEq, Repr

/-- A move in an axis's queue (R273): MOVE, and TRAP_TARGET as copied with it. -/
structure AxMove where
  move : Word
  trap : Int
deriving DecidableEq, Repr

/-- What moves an axis now: a segment from (p0, v0) to (p1, v1) over `d` ticks, `left` segments behind it, the next at `next`
(R272); a trapezoid to `p1` with its latched limits (R274); a stop ramp from (p0, v0) (R277); a homing search (R279). -/
inductive AxRun where
  | seg (p0 v0 p1 v1 : Int) (d next left : Nat) (base : Int)
  | trap (p0 v0 p1 vmax acc dec : Int)
  | ramp (p0 v0 dec : Int)
  | search (p0 : Int) (neg : Bool) (vel acc : Int)
deriving DecidableEq, Repr

/-- A chopper phase (R268, R269): its target and sign (R267); `out` is 0 off, 1 drive, 2 slow decay, 3 fast decay; the sign and the
DAC value of the drive; when the last drive and the decay began; whether the comparator is blanked and the decay has ended; t_on and
t_off in ns; whether the DAC value has stood since the drive began; the comparator delay in ns as calibrated. -/
structure ChopX where
  dac : Nat := 0
  neg : Bool := false
  out : Nat := 0
  driveNeg : Bool := false
  driveDac : Nat := 0
  driveAt : Option Nat := none
  decayAt : Nat := 0
  blank : Bool := false
  done : Bool := false
  tOn : Nat := 0
  tOff : Nat := 0
  steady : Bool := false
  dly : BitVec 10 := 0
deriving DecidableEq, Repr

/-- An axis behind its registers: the queue, the move that runs with its MOVE word, ticks since its start, whether a stop request
started the stop ramp, the homing step (0 search, 1 ramp to the event, 2 ramp to reverse, 3 ramp to fail), P_e, the direction of
the search, the stall reference, the gear bases, the fraction carried, the armed ratio change, ticks since POS last changed, the
cycles of the last PUSH and of the last AX_GO, and the two choppers. -/
structure AxX where
  q : List AxMove := []
  run : Option AxRun := none
  move : Word := 0
  t : Nat := 0
  stopReq : Bool := false
  hStep : Nat := 0
  pe : Int := 0
  hNeg : Bool := false
  a0 : Nat := 0
  f0 : Nat := 0
  stallNow : Bool := false
  base : Int := 0
  mBase : Nat := 0
  frac : Nat := 0
  arm : Option (Bool × Nat × Word) := none
  still : Nat := 0
  pushAt : Option Nat := none
  goAt : Option Nat := none
  chopA : ChopX := {}
  chopB : ChopX := {}
deriving DecidableEq, Repr

/-- A request in a channel's queue (R296): tag, bus address, write and its data, length within one 64-byte block, whether it is a
read-modify-write (R290), how often it was bypassed, whether it has become urgent,
whether a row was opened for it. -/
structure McReq where
  tag : Nat
  addr : Nat
  len : Nat
  wr : Bool
  data : List (BitVec 8)
  rmw : Bool
  bypass : Nat := 0
  urgent : Bool := false
  acted : Bool := false
deriving DecidableEq, Repr

/-- An entry of a bank's disturbance table (R299). -/
structure DistRow where
  row : Nat
  count : Nat
deriving DecidableEq, Repr

/-- A bank (R288, R299): the open row, the clock cycle of its last access, its disturbance table by index. -/
structure McBank where
  row : Option Nat := none
  at' : Nat := 0
  table : List DistRow := []
deriving DecidableEq, Repr

/-- A memory channel behind its registers (R296 to R299, R304): waiting requests oldest first, requests whose data is on its way, the
banks, neighbour refreshes owed (bank and aggressor row), STARVE, refresh intervals in this window, a TRAIN that waits for a refresh,
since when the temperature has been at or below 85 °C, when DEV_TEMP was last written and whether it is stale. -/
structure McCh where
  q : List McReq := []
  flight : List McReq := []
  banks : SMap McBank := []
  owed : List (Nat × Nat) := []
  starve : Nat := 0
  intervals : Nat := 0
  trainPend : Bool := false
  coolAt : Option Nat := none
  devAt : Nat := 0
  stale : Bool := false
deriving DecidableEq, Repr

/-- A descriptor as fetched (R310): its first word as read (CTL and the three residues) and bytes 32 to 39, its address fields,
counts and signed strides. -/
structure DmaDesc where
  ctl : Nat := 0
  src : Nat := 0
  dst : Nat := 0
  c0 : Nat := 0
  c1 : Nat := 0
  c2 : Nat := 0
  ss : List Int := [0, 0, 0]
  ds : List Int := [0, 0, 0]
deriving DecidableEq, Repr

/-- What a DMA channel waits for (R313, R315, R317): nothing, the fetch of the descriptor at CUR, its elements, the acknowledgement of
the write-back, the NEXT word of CUR, the NEXT word of CUR read again by a doorbell. -/
inductive DmaWait where
  | none | fetch | move | writeBack | next | again
deriving DecidableEq, Repr

/-- A DMA channel behind its registers (R309 to R319): the descriptor, the next element to issue, the elements whose reads and whose writes
are outstanding, oldest first (of a merged access its first element), those of the writes that have met an error response, the element that
RESUME starts from, whether the write-back is that of an abort, whether the read of NEXT was made by a doorbell, and bytes moved that do not fill a
64-byte block; the cycles of the last START, of a RING that set DB_PEND, of a halt and of an ABORT in RUNNING, with what the channel then
waited for (R320). -/
structure DmaX where
  d : DmaDesc := {}
  wait : DmaWait := .none
  idx : Nat := 0
  reads : List Nat := []
  writes : List Nat := []
  back : Nat := 0
  wbAbort : Bool := false
  dbRead : Bool := false
  moved : Nat := 0
  lost : List Nat := []
  startAt : Option Nat := none
  ringAt : Option Nat := none
  haltAt : Option Nat := none
  abortAt : Option Nat := none
  abWait : DmaWait := .none
deriving DecidableEq, Repr

/-- The state of a Firn stream (R323, R329): the dictionary (prefix code and byte of entry 258 + i), next, pend; the compressor's current
match, the input bytes of that match that a resumed job gives again (R331), a CLEAR not yet written, whether the flush of R323 is done and
the header written; the decompressor's last code and the rest of its string; pending bits; held bytes; header bytes still to check; bytes of
the stream received; the running length and CRC register; CHUNK_NO. -/
structure FirnCtx where
  dict : List (Nat × BitVec 8) := []
  next : Nat := 258
  pend : Bool := false
  cur : Option Nat := none
  skip : Nat := 0
  clr : Bool := false
  flushed : Bool := false
  hdrOut : Bool := false
  prev : Nat := 0
  str : List (BitVec 8) := []
  bits : Nat := 0
  nbits : Nat := 0
  held : List (BitVec 8) := []
  hdrIn : Nat := 4
  aligned : Bool := false
  total : Nat := 0
  len : Nat := 0
  crc : BitVec 32 := 0xffffffff
  chunk : Nat := 0
deriving DecidableEq, Repr

/-- A job descriptor as the engine read it (R325). -/
structure FirnJob where
  flags : Nat := 0
  tag : Nat := 0
  inLen : Nat := 0
  inAddr : Nat := 0
  outAddr : Nat := 0
  outLen : Nat := 0
  ctxAddr : Nat := 0
  frame : Nat := 0
  line : Nat := 0
  time : Nat := 0
  resOk : Bool := true
  addr : Nat := 0
deriving DecidableEq, Repr

/-- A FIRN packet that is to be sent (R333): its first 20 bytes, and where its stream bytes stand. -/
structure FirnPkt where
  hdr : List (BitVec 8)
  addr : Nat
  n : Nat
deriving DecidableEq, Repr

/-- A Firn engine behind its registers (R324 to R334): the resident context, the running job with the status that its start
already gave it, an ABORT that waits for a code boundary, JOB_SEQ, the packets of the last job still to be sent, and input and output bytes
that do not fill a KiB. -/
structure FirnX where
  ctx : FirnCtx := {}
  job : Option FirnJob := none
  early : Nat := 0
  abort : Bool := false
  seq : Nat := 0
  out : List FirnPkt := []
  inB : Nat := 0
  outB : Nat := 0
deriving DecidableEq, Repr

/-- A pulse generator behind its registers (R353 to R355): S, P and W in quarters of a ns, COUNT, START_MODE, OUT_EN and POL as ARM latched them, START
as latched, the next pulse to compute, the computed leading edges that have not fallen, the trailing edge of the active pulse with its
number, and a STOP that waits for a trailing edge. -/
structure TpX where
  s0 : Int := 0
  per : Nat := 0
  wid : Nat := 0
  count : Nat := 0
  mode1 : Bool := false
  outEn : Bool := false
  pol : Bool := false
  start : Int := 0
  j : Nat := 0
  edges : List (Nat × Int) := []
  active : Option (Nat × Int) := none
  stop : Bool := false
deriving DecidableEq, Repr

/-- The frame that the MAC is sending, or has refused (R343): its descriptor's address, FLAGS, TX_TIME with its fraction, the error bits of its
STATUS, and whether it left. -/
structure EthTx where
  addr : Nat
  flags : Nat
  time : Int
  frac : Nat
  status : Nat
  sent : Bool
deriving DecidableEq, Repr

/-- A line of the cores' data caches and L2, which are coherent with each other (R366): its 64 bytes, whether it is dirty, and the hart whose
data cache holds the dirty copy. -/
structure CacheLine where
  data : List (BitVec 8)
  dirty : Bool := false
  owner : Option Nat := none
deriving DecidableEq, Repr
/-- An entry of a core's write buffer (R374): a store, or a clean (`some true`) or flush (`some false`) of the block at `addr` that waits for the
stores before it. -/
structure WbEnt where
  hart : Nat
  addr : Nat
  data : List (BitVec 8)
  cbo : Option Bool := none
deriving DecidableEq, Repr

/-- A write to a block window on its way (R373): hart, whether the access is privileged, address, length, value. -/
structure IoEnt where
  hart : Nat
  priv : Bool
  addr : Nat
  len : Nat
  val : Nat
deriving DecidableEq, Repr

/-- What an access of an application core depends on (R365, R366): its mode (0 U, 1 S, 3 M), mstatus, satp, the bytes of pmpcfg, pmpaddr, and
the lines of its instruction cache. Their layout is the RISC-V privileged specification's. -/
structure HartX where
  mode : Nat := 3
  mstatus : BitVec 64 := 0
  satp : BitVec 64 := 0
  pmpcfg : SMap (BitVec 8) := []
  pmpaddr : SMap (BitVec 64) := []
  icache : SMap (List (BitVec 8)) := []
deriving DecidableEq, Repr

/-- A DECIDE record (R403). -/
structure DecRec where
  objId : Nat
  view : Nat
  verdict : Nat
  fused : Bool
  handed : Bool
  dflt : Bool
  pMissed : Bool
  rule : Nat
  pulse : Nat
  frame : Nat
  line : Nat
  colMin : Nat
  colMax : Nat
  eject : BitVec 64
  vFirst : Nat
  vLast : Nat
  dseq : Nat
  ntags : Nat
  clipped : Bool
  clamped : Bool
  time : BitVec 64
deriving DecidableEq, Repr

/-- An applied record that the standby holds (R406): since when, and the OPEN or WAIT entry that matched it. -/
structure HeldRec where
  r : DecRec
  since : Int
  entry : Option Nat
deriving DecidableEq, Repr

/-- A check block of the partner (R408), and when it came. -/
structure PeerBlk where
  view : Nat
  blk : Nat
  frame : Nat
  sum : BitVec 32
  frags : Nat
  since : Int
deriving DecidableEq, Repr

/-- A UART's FIFOs (R447), oldest byte first. -/
structure UartX where
  tx : List (BitVec 8) := []
  rx : List (BitVec 8) := []
deriving DecidableEq, Repr

/-- What the block sends out of itself. -/
inductive Output where
  /-- 66 bits leave SD_TX[n], bit 0 first: a block, sync header in bits [1:0] and scrambled payload, or bits of a pattern (R39, R52). A pair
  that sends nothing is at electrical idle. -/
  | block (n : Nat) (bits : BitVec 66)
  /-- The next `k` bits of lane `n` are sent flipped (R53). -/
  | flippedBits (n k : Nat)
  /-- A STRIPE column is given to the lanes of quad `q` (R63). -/
  | stripe (q mask seq : Nat) (ack atFrame : Bool)
  /-- An ALIGN column is given to the lanes of quad `q` (R63, R66). -/
  | align (q seq mask : Nat)
  /-- A TRIGGER column whose first bit leaves at `edge` quarter-ns + 40 ns − OFFSET (R63, R78). -/
  | trigger (q kind seq offset : Nat) (edge : Int)
  /-- A packet is given to the lanes of quad `q`: header with ECC, then payload, CRC-32C and pad (R68 to R70). -/
  | packet (q : Nat) (hdr : BitVec 64) (body : List (BitVec 8))
  /-- The downstream frame of link `l`, in code groups whose bit 9 leaves first; the first bit of SYNC leaves at network time `sync` (R242, R243, R245). -/
  | ejFrame (l : Nat) (sync : Int) (groups : List (BitVec 10))
  /-- A neighbour refresh: rows of bank `b` of channel `n` are activated and precharged without data (R299). -/
  | rowRefresh (n b : Nat) (rows : List Nat)
  /-- The answer to memory request `tag` (R289, R296): an error response or not, and the data of a read. -/
  | memResp (tag : Nat) (err : Bool) (data : List (BitVec 8))
  /-- TP_OUT[k] takes a level; the edge's time in quarters of a ns, where it has one (R353). -/
  | tpOut (k : Nat) (high : Bool) (edge : Option Int)
  /-- A frame on the management port, with its FCS (R343, R345). -/
  | ethTx (frame : List (BitVec 8))
  /-- An MDIO frame: MDIO_CMD, MDIO_DATA, PRE_SUP and DIV (R346). -/
  | mdio (cmd data ctl : Word)
  /-- The machine software interrupt of hart h becomes pending (R365). -/
  | softIrq (h : Nat)
  /-- The response to a bus access of a core or the debug module: the master, an error response or not, the data of a read (R26, R372). -/
  | busResp (m : Master) (err : Bool) (data : Nat)
  /-- A synchronous exception of hart h: cause 1 fetch access fault, 2 illegal instruction, 5 load access fault, 7 store access fault, 12, 13
  and 15 page faults of a fetch, a load, a store (R365, R366, R371). -/
  | coreTrap (h cause : Nat)
  /-- Hart h starts at an address in M mode (R368, R434). -/
  | hartStart (h addr : Nat)
  /-- The machine timer interrupt of hart h becomes pending (R367). -/
  | timerIrq (h : Nat)
  /-- The code groups of a heartbeat frame on HB_TX; K28.5 fills the line between two frames (R398). -/
  | heartbeat (groups : List (BitVec 10))
  /-- A byte leaves UART[i] with its UCTL (R447). -/
  | uartTx (i : Nat) (b : BitVec 8) (ctl : Word)
  /-- A flash transaction: QOP, QADDR, QCTL and the bytes it writes or the number it reads (R446). -/
  | flash (op addr ctl : Word) (data : List (BitVec 8)) (n : Nat)
  /-- An I²C transaction: IXFER, ICTL and the bytes it writes (R448). -/
  | iic (xfer ctl : Word) (data : List (BitVec 8))
  /-- The text that the boot ROM sends on UART[0] (R439). -/
  | bootText (b : List (BitVec 8))
  /-- The value that a JTAG data register captures (R473). -/
  | jtagOut (v : Nat)
deriving DecidableEq, Repr

/-- Why the block stops. Each is raised only where the spec gives no behaviour at all. -/
inductive Fault where
  /-- An obligation of R12 is broken (a reserved code, a forbidden setting): the manual gives the EG9 no behaviour there.
  Raised by the commands that check `onMust`; safe. -/
  | outsideManual
deriving DecidableEq, Repr

/-- Why a command has no meaning. -/
inductive Refusal where
  /-- The command is not in the model; raised by an arm of the dispatch only; safe. -/
  | notModelled (mnemonic : String)
  /-- The command names a unit that does not exist (R15); raised by `onMain`, `onIsland`, `onGuard` and `onAlways`; safe. -/
  | noSuchUnit
deriving DecidableEq, Repr

/-- The state of the EG9. -/
structure State where
  /-- The commands that wait, first in, first out. -/
  pending : List Instr := []
  /-- Every register of the map (R378): those whose value differs from the reset value, by address. -/
  regs : SMap Word := []
  /-- The bytes of system SRAM and DRAM that are not 0, by address (R24). -/
  mem : List Host.Cell := []
  /-- What the block has sent, newest first. -/
  outbox : List Output := []
  /-- CLK_TIME cycles since power-on: the model's clock (R20, R23) -/
  cyc : Nat := 0
  /-- the cycle of the island's last power-on release, from which AON_US counts (R432) -/
  porCyc : Nat := 0
  /-- the main domain is in reset (R433, R434) -/
  mainReset : Bool := false
  /-- the reset sources that are still active (R434) -/
  hold : ResetHold := {}
  /-- the network time base and MTIME (R338, R367) -/
  time : TimeBase := {}
  /-- the 256 event channels (R360) -/
  chans : SMap Chan := []
  /-- pulses on their way to a channel: channel, CLK_PER cycle, fired by CH_FIRE (R358, R361) -/
  chanIn : List (Nat × Nat × Bool) := []
  /-- delivered events on their way to a consumer input m (R358, R359) -/
  consIn : List Nat := []
  /-- events of fixed input i on their way, with their CLK_PER cycle (R362) -/
  fixedIn : List (Nat × Nat) := []
  /-- a snapshot is requested and not yet taken (R380) -/
  snapReq : Bool := false
  /-- copies of TV registers that differ from the value written: address, copy, the bits in which it differs (R381)
  -/
  tvBad : List (Nat × Nat × Word) := []
  /-- the model's own counter of free values taken: no state of the spec -/
  freeIx : Nat := 0
  /-- the 128 lanes (R34, R46) -/
  lanes : SMap LaneX := []
  /-- the 32 quads (R35 to R38) -/
  quads : SMap QuadX := []
  /-- the 32 Aelore ports (R82) -/
  ports : SMap PortX := []
  /-- what waits at the input of each front end, oldest first (R77) -/
  feIn : SMap (List FeItem) := []
  /-- the 24 front ends (R99) -/
  fes : SMap FeX := []
  /-- corrected lines of each front end that wait at the stitch input, oldest first (R116) -/
  stIn : SMap (List CLine) := []
  /-- the four stitch engines (R125 to R141) -/
  views : SMap ViewX := []
  /-- the pool of 524,288 stitch entries; an entry that nothing has written holds 0 (R133) -/
  stTab : SMap (BitVec 40) := []
  /-- the staged bits [31:0] of an entry (R140) -/
  stStage : Word := 0
  /-- rows of each view that wait at Drift, oldest first (R138) -/
  driftIn : SMap (List VRow) := []
  /-- Drift's columns of each view (R142) -/
  drift : SMap (SMap DriftCol) := []
  /-- the 64 tiles (R154) -/
  tiles : SMap TileX := []
  /-- the 16 tile groups (R157) -/
  groups : SMap GroupX := []
  /-- the CLASS4 rows of each view, oldest first (R171) -/
  classRows : SMap (List ClassRow) := []
  /-- frame and rows of the CLASS4 frame that each view sends (R171) -/
  classPrev : SMap (Nat × Nat) := []
  /-- fragments and row marks on their way to Moraine, oldest first (R205) -/
  mvIn : List HItem := []
  /-- rows of each view that left Drift and are not yet behind the horizon (R205) -/
  leftDrift : SMap (List LeftRow) := []
  /-- the horizon H_v of each view, once it has advanced (R205) -/
  horizon : SMap (Option Nat) := []
  /-- the object table, by ENTRY (R202) -/
  objs : SMap Obj := []
  /-- the MVIEW registers and MCTL as the last accepted APPLY put them in force (R229) -/
  mvCfg : SMap Word := []
  /-- the rule table: word j of rule i in bank b at 1024 b + 4 i + j (R214, R228) -/
  rules : SMap Word := []
  /-- the flight tables: FT[v][i] in bank b at 256 b + 64 v + i (R217, R228) -/
  flights : SMap Word := []
  /-- entries on their way to decision, in order (R226) -/
  decideQ : List Nat := []
  /-- the records of the open DEFECT_REC packet (R223) -/
  recPart : List (List (BitVec 8)) := []
  /-- the check blocks, oldest first (R408) -/
  checkBlks : List CheckBlk := []
  /-- actions of handed-over objects that Bellows has not yet taken, in hand-over order (R234) -/
  belIn : List Act := []
  /-- a test action not yet taken (R252) -/
  testIn : List Act := []
  /-- the action queue, in acceptance order (R238) -/
  belQ : List QAct := []
  /-- the acceptance number of the next action -/
  belOrd : Nat := 0
  /-- RUN_OPEN and RUN_CLOSE of each valve (R237) -/
  runs : SMap (Option (Int × Int)) := []
  /-- when the slot before the last assembled one began, in ns of elapsed time (R239) -/
  slotAt : Option Nat := none
  /-- when the last assembled slot begins, in ns of elapsed time, and its T_k (R239) -/
  slotNext : Option (Nat × Int) := none
  /-- the 64 ejector links (R241, R247) -/
  ejl : SMap EjLink := []
  /-- the clock cycle at which the Bellows watchdog was last restarted (R251) -/
  wdogAt : Option Nat := none
  /-- the 24 feedback channels (R257) -/
  fbs : SMap FbX := []
  /-- the 16 axes (R266) -/
  axes : SMap AxX := []
  /-- the segment pool: word j of segment i at 4 i + j (R271) -/
  segs : SMap Word := []
  /-- the errors that stand in words of memory, by the place of the 8-byte word: 1 single-bit, 2 double-bit (R289,
  R390) -/
  memErr : SMap Nat := []
  /-- the six memory channels (R296) -/
  mcs : SMap McCh := []
  /-- the permutation table in force: the channel of each entry (R291) -/
  mcTable : List Nat := []
  /-- DENSITY as the last INIT took it (R286) -/
  mcDensity : Nat := 2
  /-- CLASS as the last INIT took it (R287) -/
  mcClass : Nat := 0
  /-- the displaced channel (R305) -/
  migCh : Option Nat := none
  /-- the displaced channel is REFILLING (R303) -/
  migBack : Bool := false
  /-- how many of its blocks have been moved out (R303, R305) -/
  migTop : Nat := 0
  /-- the 32 DMA channels (R309) -/
  dmas : SMap DmaX := []
  /-- the DMA channel that issued last (R309) -/
  dmaLast : Nat := 31
  /-- the eight Firn engines (R324) -/
  firns : SMap FirnX := []
  /-- context images in memory: the free bytes that stand for one, from `freeIx` on, and what it holds (R329) -/
  firnImgs : List (Nat × FirnCtx) := []
  /-- the 16 pulse generators (R353) -/
  tps : SMap TpX := []
  /-- the frame that the MAC is sending (R343) -/
  ethTx : Option EthTx := none
  /-- MDIO_CMD as the running MDIO frame took it (R346) -/
  mdioCmd : Option Word := none
  /-- the lines of the cores' data caches and L2, by line address (R366) -/
  cache : SMap CacheLine := []
  /-- the cores' write buffers, oldest first (R374) -/
  wbuf : List WbEnt := []
  /-- writes to block windows that a core has issued and that have not taken effect, oldest first (R373) -/
  ioBuf : List IoEnt := []
  /-- the eight application cores (R365) -/
  harts : SMap HartX := []
  /-- the private memory of guardian core g: its byte o at 65536 g + o (R369) -/
  guardMem : SMap (BitVec 8) := []
  /-- active: the records of the mirror cycle in progress (R402) -/
  twOpen : List DecRec := []
  /-- the mirror cycle last closed (active) or applied (standby) (R402, R405) -/
  twCycle : Option Nat := none
  /-- active: closed cycles without MIRROR_ACK, with the time of their CYCLE_END (R402) -/
  twUnacked : List (Nat × Int) := []
  /-- active: the last acknowledged cycle (R402, R412) -/
  twAcked : Option Nat := none
  /-- standby: records received since the last CYCLE_END (R405) -/
  twIn : List DecRec := []
  /-- standby: applied records that wait for a match (R406) -/
  twHeld : List HeldRec := []
  /-- standby: own decisions that no record has matched, OBJ_ID and time (R406) -/
  twShadow : List (Nat × Int) := []
  /-- standby: a dump has been applied and no CYCLE_END after it yet (R395, R406) -/
  twDump : Bool := false
  /-- standby: quads whose trigger numbering is not aligned (R407) -/
  twAlign : List Nat := []
  /-- check blocks received and not yet closed here (R408) -/
  peerBlks : List PeerBlk := []
  /-- the next HB_SEQ of each path (R398) -/
  hbSeq : List Nat := [0, 0]
  /-- the running disparity of HB_TX after its last frame (true: positive), and the clock cycle in which that frame
  began (R398) -/
  hbLine : Option (Bool × Nat) := none
  /-- the link and the header of the last USER packet: it is pending until that header leaves the port (R401) -/
  userHdr : Option (Nat × BitVec 64) := none
  /-- the clock cycle of the last valid heartbeat (R395) -/
  hbAt : Option Nat := none
  /-- R397 has stopped the heartbeats until the main domain is out of reset -/
  hbStop : Bool := false
  /-- the clock cycle of the last valid heartbeat of each path (R399) -/
  hbPath : List (Option Nat) := [none, none]
  /-- the clock cycle at which the claim window opened (R395) -/
  claimAt : Option Nat := none
  /-- the clock cycle at which ACT_OUT was asserted by a takeover that waits for MUX_SETTLE_US (R410) -/
  settleAt : Option Nat := none
  /-- a handover waits for its MIRROR_ACK (R413) -/
  handover : Bool := false
  /-- SYNCED of the partner's last heartbeat (R395, R398) -/
  peerSynced : Bool := false
  /-- DSEQ of the last applied CYCLE_END, and the standby's own DSEQ at that time (R407) -/
  twDseq : Nat × Nat := (0, 0)
  /-- calibration domains that a trigger waits for, ascending (R417) -/
  calWant : List Nat := []
  /-- the domain that the calibration engine measures (R420, steps 1 to 4) -/
  calRun : Option Nat := none
  /-- staged corrections that wait for their safe points: domain and unit (R420) -/
  calStaged : List (Nat × Nat) := []
  /-- the clock cycle in which FIRST[b] captured its error (R426) -/
  errAt : SMap (Option Nat) := []
  /-- which of VDD_SD, VDD_SDH, VDD_MIO is low now (R423) -/
  railLow : List Bool := [false, false, false]
  /-- the two UARTs (R447) -/
  uarts : SMap UartX := []
  /-- QOP and QLEN as the running flash transaction took them (R446) -/
  qspiRun : Option (Word × Nat) := none
  /-- IXFER as the running I²C transaction took it (R448) -/
  iicRun : Option Word := none
  /-- hart 0 has run the boot ROM since the last main-domain reset (R439) -/
  booted : Bool := false
  /-- the CLK_PER cycle in which each bit of GUARD.DOORBELL last fired its source (R392) -/
  doorPer : List (Option Nat) := [none, none, none]
  /-- a doorbell that wakes the island ROM of each guardian core (R441) -/
  gBell : List Bool := [false, false]
  /-- the fuse words by address (R436, R474) -/
  fuses : SMap Word := []
  /-- JTAG_DIS as the last power-on reset found it (R436, R474) -/
  jtagDis : Bool := false
  /-- the TAP's instruction register (R473) -/
  jtagIr : Nat := 2
  /-- the fuse word that FUSE_SEL chose (R474) -/
  fuseSel : Nat := 0
  /-- the fuse data register (R474) -/
  fuseData : Word := 0
  /-- the boundary register (R473) -/
  bscan : List Bool := []
deriving DecidableEq, Repr

/-- Is an address in the always-on island: GUARD, SUP, ERRLOG and TWIN.TCTL (R369, R433)? -/
def isIsland (a : Nat) : Bool :=
  decide (0x41000000 ≤ a) && decide (a < 0x42000000) || decide (0x42000000 ≤ a) && decide (a < 0x42100000)
    || decide (0x42200000 ≤ a) && decide (a < 0x42300000) || a == 0x57000000

/-- The bits of TWIN.TSTAT that the island holds (R394, R433): ROLE, CLAIMING, ACT_OUT, ACT_IN and TWIN_ID. -/
def islandTstat : Word := 0x267

/-- What a register holds through a main-domain reset: those of the island stay, TSTAT keeps the island's bits, the others are gone. -/
def keepReg (e : Nat × Word) : Option (Nat × Word) :=
  if isIsland e.1 then some e
  else if e.1 == 0x57000008 && e.2 &&& islandTstat != 0 then some (e.1, e.2 &&& islandTstat)
  else none

/-- Bytes that a main-domain reset preserves (R434): system SRAM below the boot region. -/
def keepByte (a : Nat) : Bool := decide (0x08000000 ≤ a) && decide (a < 0x087d0000)

/-- The calibration domains, each of which every release of main-domain reset triggers (R417). -/
def calAll : List Nat := [0, 1, 2, 3, 4, 5, 6, 7]

/-- The machine right after POR_RELEASE and MAIN_RESET_RELEASE: every register at its reset value but those that
R392 and R434 make read otherwise. -/
def State.reset : State := { regs := [(0x41000004, 0x6f), (0x4200000c, 0x80)], calWant := calAll }

/-- The main domain at its reset values (R433, R434): the island and what memory preserves stay. -/
def State.mainCleared (s : State) : State :=
  { pending := s.pending,
    regs := s.regs.filterMap keepReg,
    mem := s.mem.filter (fun e => keepByte e.1),
    memErr := s.memErr.filter (fun e => keepByte (8 * e.1)),
    outbox := s.outbox,
    tvBad := s.tvBad.filter (fun e => isIsland e.1),
    cyc := s.cyc,
    porCyc := s.porCyc,
    mainReset := s.mainReset,
    hold := s.hold,
    freeIx := s.freeIx,
    guardMem := s.guardMem,
    hbSeq := s.hbSeq,
    hbLine := s.hbLine,
    hbAt := s.hbAt,
    hbStop := s.hbStop,
    hbPath := s.hbPath,
    claimAt := s.claimAt,
    settleAt := s.settleAt,
    errAt := s.errAt,
    railLow := s.railLow,
    doorPer := s.doorPer,
    gBell := s.gBell,
    fuses := s.fuses,
    jtagDis := s.jtagDis,
    jtagIr := s.jtagIr,
    fuseSel := s.fuseSel,
    fuseData := s.fuseData,
    bscan := s.bscan }


end Sys2Proof.Machine
end

