-- ==== Sys2Proof/Machine/Ops.lean ====
section
/-! DEFINITION. The operations that the commands share: reading and writing registers and their fields, counters, the
time base, free values, what leaves the block, and the outcomes of a command. -/

namespace Sys2Proof.Machine

/-- The outcome of a command. -/
abbrev Out := Host.Outcome State Fault Refusal

/-- Is the always-on island held in power-on reset (R434)? -/
def State.inPor (s : State) : Bool := s.hold.por || s.hold.feeds

/-- No command reaches the queue or the model's clock: they stay as in `s`. -/
def State.keepQueue (t s : State) : State := { t with pending := s.pending, cyc := s.cyc }

/-- Nor does a command other than those of the resets, the supplies and the JTAG port reach the fuse array (R436), the TAP (R473), the
reset sources (R434) and the cycle of the power-on release. -/
def State.keepTap (t s : State) : State :=
  { t with pending := s.pending, cyc := s.cyc, porCyc := s.porCyc, fuses := s.fuses, jtagDis := s.jtagDis, jtagIr := s.jtagIr,
           fuseSel := s.fuseSel, fuseData := s.fuseData, bscan := s.bscan, hold := s.hold }

/-- No master but a guardian core itself reaches its private memory (R369). -/
def State.keepGuard (t s : State) : State := { t.keepTap s with guardMem := s.guardMem }

/-- A command of the main domain does not reach the rails' state either (R423). -/
def State.keepIsland (t s : State) : State := { t.keepGuard s with railLow := s.railLow }

/-- A command of the main domain on a unit that exists (`ok`): while the domain is in reset it changes nothing (R433,
R387). -/
def onMain (ok : Bool) (s : State) (f : State → State) : Out :=
  if ok then .next (if s.mainReset then s else (f s).keepIsland s) else .refused .noSuchUnit

/-- A command of the always-on island, which runs during a main-domain reset but not in its own power-on reset (R433, R434). -/
def onIsland (ok : Bool) (s : State) (f : State → State) : Out :=
  if ok then .next (if s.inPor then s else (f s).keepGuard s) else .refused .noSuchUnit

/-- A command of a guardian core itself, in the island. -/
def onGuard (ok : Bool) (s : State) (f : State → State) : Out :=
  if ok then .next (if s.inPor then s else (f s).keepTap s) else .refused .noSuchUnit

/-- A command that acts in every state of the resets: a reset source, a supply, a JTAG instruction. -/
def onAlways (ok : Bool) (s : State) (f : State → State) : Out :=
  if ok then .next ((f s).keepQueue s) else .refused .noSuchUnit

/-- A command under an obligation of R12: where `must` is broken the spec gives the EG9 no behaviour. -/
def onMust (must : Bool) (o : Out) : Out :=
  if must then o else .fault .outsideManual

/-! Registers. -/

/-- The value a register stores. -/
def State.rd (s : State) (a : Nat) : Word := s.regs.get resetWord a

/-- The state with a register's stored value replaced. -/
def State.wr (s : State) (a : Nat) (v : Word) : State := { s with regs := s.regs.set resetWord a v }

/-- A register's value as a number. -/
def State.rdN (s : State) (a : Nat) : Nat := (s.rd a).toNat

/-- A register's value as a signed number. -/
def State.rdI (s : State) (a : Nat) : Int := (s.rd a).toInt

/-- Stores the low 32 bits of a number (R10). -/
def State.wrN (s : State) (a n : Nat) : State := s.wr a (BitVec.ofNat 32 n)

/-- Stores the low 32 bits of an integer (R10). -/
def State.wrI (s : State) (a : Nat) (n : Int) : State := s.wr a (BitVec.ofInt 32 n)

/-- A field of a register. -/
def State.gf (s : State) (a : Nat) (f : Fld) : Nat := f.get (s.rd a)

/-- Is a one-bit field 1? -/
def State.on (s : State) (a : Nat) (f : Fld) : Bool := s.gf a f == 1

/-- Stores a field of a register. -/
def State.sf (s : State) (a : Nat) (f : Fld) (n : Nat) : State := s.wr a (f.put (s.rd a) n)

/-- Adds to a saturating counter (R380). -/
def State.cntN (s : State) (a n : Nat) : State := s.wrN a (min 0xffffffff (s.rdN a + n))

/-- Counts 1. -/
def State.cnt (s : State) (a : Nat) : State := s.cntN a 1

/-- A LO/HI register pair as 64 bits. -/
def State.rd64 (s : State) (lo hi : Nat) : BitVec 64 := s.rd hi ++ s.rd lo

/-- Stores 64 bits into a LO/HI register pair. -/
def State.wr64 (s : State) (lo hi : Nat) (v : BitVec 64) : State :=
  (s.wr lo (v.extractLsb' 0 32)).wr hi (v.extractLsb' 32 32)

/-- A LO/HI pair as an address or an unsigned number. -/
def State.rd64N (s : State) (lo hi : Nat) : Nat := (s.rd64 lo hi).toNat

/-- A result register with SEQ in [15:0] and VALID in [31] takes a new result (R379). -/
def seqBump (x : Word) : Word := (bit 31).put ((⟨0, 16⟩ : Fld).put x ((⟨0, 16⟩ : Fld).get x + 1)) 1

/-- A repeated change, for index 0 to n - 1 in order. -/
def times (n : Nat) (f : Nat → State → State) (s : State) : State :=
  (List.range n).foldl (fun s i => f i s) s

/-- A change that happens only under a condition. -/
def State.when (s : State) (c : Bool) (f : State → State) : State := if c then f s else s

/-! Time (R338, R339, R367). -/

/-- Network time in ns. -/
def State.ns (s : State) : Int := (s.time.nt.extractLsb' 32 64).toInt

/-- Network time as 64 bits. -/
def State.nsBits (s : State) : BitVec 64 := s.time.nt.extractLsb' 32 64

/-- The 32-bit fraction of network time. -/
def State.nsFrac (s : State) : BitVec 32 := s.time.nt.extractLsb' 0 32

/-- The number of the CLK_PER cycle that the model's clock stands in: 200 MHz against CLK_TIME's 125 MHz (R20). -/
def State.per (s : State) : Nat := s.cyc * 8 / 5

/-- Microseconds since the island's power-on reset (R432). -/
def State.aonUs (s : State) : Nat := (s.cyc - s.porCyc) * 8 / 1000

/-! Free values and what leaves the block. -/

/-- The next free value, which the spec leaves open. -/
def State.free (s : State) : BitVec 64 := Config.freeValue s.freeIx

/-- The state after taking a free value. -/
def State.freeNext (s : State) : State := { s with freeIx := s.freeIx + 1 }

/-- `n` free bytes: data that the spec leaves open. -/
def State.freeBytes (s : State) (n : Nat) : List (BitVec 8) :=
  (List.range n).map (fun i => (Config.freeValue (s.freeIx + i)).setWidth 8)

/-- Records what the block sends, newest first. -/
def State.emit (s : State) (o : Output) : State := { s with outbox := o :: s.outbox }

/-! Memory: bytes of the 40-bit address space (R24), and the granules of DRAM (R286, R291, R292, R305). -/

/-- Is the address in system SRAM (R24)? -/
def inSram (a : Nat) : Bool := decide (0x08000000 ≤ a) && decide (a < 0x08800000)

/-- Is the address in the DRAM window (R24)? -/
def inDram (a : Nat) : Bool := decide (0x100000000 ≤ a) && decide (a < 0x280000000)

/-- The block windows (R24). -/
def inWindow (a : Nat) : Bool :=
  (decide (0x40000000 ≤ a) && decide (a < 0x49200000)) || (decide (0x4a000000 ≤ a) && decide (a < 0x4b600000))
    || (decide (0x4c000000 ≤ a) && decide (a < 0x4e000000)) || (decide (0x50000000 ≤ a) && decide (a < 0x59000000))

/-- The granule of a DRAM address (R291). -/
def granuleOf (a : Nat) : Nat := (a - 0x100000000) / 4096

/-- How many entries of the table name channel `c`. -/
def chanCount (t : List Nat) (c : Nat) : Nat := (t.filter (· == c)).length

/-- The place of granule G (R291): its channel and its granule within the channel. -/
def place (t : List Nat) (g : Nat) : Nat × Nat :=
  let k := g % t.length
  let c := t.getD k 0
  (c, g / t.length * chanCount t c + chanCount (t.take k) c)

/-- The indices of the entries that satisfy a test. -/
def idxWhere (p : Nat → Bool) (t : List Nat) : List Nat := (t.zipIdx.filter (fun e => p e.1)).map (·.2)

/-- The granule that channel `c` holds as its granule `g` (R291, inverted). -/
def granuleAt (t : List Nat) (c g : Nat) : Nat :=
  let n := chanCount t c
  g / n * t.length + (idxWhere (· == c) t).getD (g % n) 0

/-- The reserve granule paired with granule `j` of channel `n` (R305). -/
def targetOf (t : List Nat) (resBase n j : Nat) : Nat :=
  let per := t.length - chanCount t n
  (resBase / t.length + j / per) * t.length + (idxWhere (· != n) t).getD (j % per) 0

/-- Where the bytes of an address stand: a block of the displaced channel that lies in the reserve is found there (R305). -/
def State.loc (s : State) (a : Nat) : Nat :=
  match s.migCh with
  | none => a
  | some n =>
    let g := granuleOf a
    let p := place s.mcTable g
    if !inDram a || decide (s.rdN R.MC_RES_BASE ≤ g) || p.1 != n then a else
    let b := p.2 * 64 + a % 4096 / 64
    let ptr := s.rdN (R.MC_MIG_PTR n)
    let moved := if s.migBack then decide (ptr ≤ b) && decide (b < s.migTop) else decide (b < ptr)
    if moved then 0x100000000 + targetOf s.mcTable (s.rdN R.MC_RES_BASE) n p.2 * 4096 + a % 4096 else a

/-- The byte stored at a place; one that nothing has written reads 0. -/
def State.rawByte (s : State) (a : Nat) : BitVec 8 := SMap.get (fun _ => 0) s.mem a

/-- The state with the byte stored at a place replaced. -/
def State.setRaw (s : State) (a : Nat) (b : BitVec 8) : State := { s with mem := SMap.set (fun _ => 0) s.mem a b }

/-- One byte of memory. -/
def State.rdByte (s : State) (a : Nat) : BitVec 8 := s.rawByte (s.loc a)

/-- The state with one byte of memory replaced. -/
def State.wrByte (s : State) (a : Nat) (b : BitVec 8) : State := s.setRaw (s.loc a) b

/-- `n` bytes of memory as a little-endian number (R4). -/
def State.rdMem (s : State) (a : Nat) : Nat → Nat
  | 0 => 0
  | n + 1 => (s.rdByte a).toNat + 256 * s.rdMem (a + 1) n

/-- The low `8 n` bits of a number into `n` bytes of memory, little-endian (R4). -/
def State.wrMem (s : State) (a : Nat) : Nat → Nat → State
  | 0, _ => s
  | n + 1, v => (s.wrByte a (BitVec.ofNat 8 v)).wrMem (a + 1) n (v / 256)

/-- A list of bytes into memory. -/
def State.wrBytes (s : State) (a : Nat) : List (BitVec 8) → State
  | [] => s
  | b :: bs => (s.wrByte a b).wrBytes (a + 1) bs

/-- `n` bytes of memory as a list. -/
def State.rdBytes (s : State) (a n : Nat) : List (BitVec 8) := (List.range n).map (fun i => s.rdByte (a + i))

/-- An address in the reserve while it holds displaced data (R305). -/
def State.resHit (s : State) (a : Nat) : Bool :=
  inDram a && s.on R.MC_STAT F.MC_STAT_RES_USED && decide (s.rdN R.MC_RES_BASE ≤ granuleOf a)

/-- DRAM answers below DRAM_TOP while MC.CTL.EN = 1, the reserve only while it is free (R292, R305). -/
def State.dramOk (s : State) (a : Nat) : Bool :=
  inDram a && s.on R.MC_CTL F.MC_CTL_EN && decide (granuleOf a < s.rdN R.MC_DRAM_TOP) && !s.resHit a

/-- A byte range of memory that answers without an error response. -/
def State.memOk (s : State) (a n : Nat) : Bool :=
  (inSram a && inSram (a + n - 1)) || (s.dramOk a && s.dramOk (a + n - 1))

/-! Units of the sparse tables. -/

def State.lane (s : State) (n : Nat) : LaneX := s.lanes.get (fun _ => {}) n
def State.setLane (s : State) (n : Nat) (x : LaneX) : State := { s with lanes := s.lanes.set (fun _ => {}) n x }
def State.quad (s : State) (q : Nat) : QuadX := s.quads.get (fun _ => {}) q
def State.setQuad (s : State) (q : Nat) (x : QuadX) : State := { s with quads := s.quads.set (fun _ => {}) q x }
def State.chan (s : State) (n : Nat) : Chan := s.chans.get (fun _ => {}) n
def State.setChan (s : State) (n : Nat) (x : Chan) : State := { s with chans := s.chans.set (fun _ => {}) n x }

end Sys2Proof.Machine
end

