-- ==== Sys2Proof/Machine/Flags.lean ====
section
/-! DEFINITION. Event sources, interrupt pending bits, sticky error bits and the error record (R358, R385 to R387, R425
to R428). -/

namespace Sys2Proof.Machine

/-- The channels that follow source `src` (R358), read from the listed CH_CTL registers: an unlisted one has EN = 0. -/
def State.channelsOf (s : State) (src : Nat) : List Nat :=
  s.regs.filterMap (fun e =>
    if decide (R.EVF_CH_CTL 0 ≤ e.1) && decide (e.1 < R.EVF_CH_CTL 256)
        && F.EVF_CH_CTL_EN.get e.2 == 1 && F.EVF_CH_CTL_SRC.get e.2 == src
    then some ((e.1 - R.EVF_CH_CTL 0) / 4) else none)

/-- A pulse on its way to channel `n`; a source pulse and a CH_FIRE in one CLK_PER cycle merge (R361). -/
def State.pulse (s : State) (n : Nat) (soft : Bool) : State :=
  if s.chanIn.contains (n, s.per, !soft) then s.cnt (R.EVF_COINCIDE n)
  else { s with chanIn := s.chanIn ++ [(n, s.per, soft)] }

/-- An event of fixed input `i` on its way (R362); two in one cycle merge. -/
def State.fixed (s : State) (i : Nat) : State :=
  if s.fixedIn.contains (i, s.per) then s.cnt (R.EVF_COINCIDE (256 + i))
  else { s with fixedIn := s.fixedIn ++ [(i, s.per)] }

/-- Event source `src` fires: its PEND bit is set or the pulse merges (R387), every channel that follows it gets the
pulse (R358), and so do the fixed inputs that join it (R362). While the main domain is in reset the pulse is lost. -/
def State.fire (s : State) (src : Nat) : State :=
  if s.mainReset then s else
  let a := R.IRQC_PEND (src / 32)
  let s := if s.on a (bit (src % 32)) then s.cnt R.IRQC_MERGED else s.sf a (bit (src % 32)) 1
  let s := (s.channelsOf src).foldl (fun s n => s.pulse n false) s
  let s := s.when (src == 8 && s.on R.EVF_FX_CTL F.EVF_FX_CTL_WB_EN) (·.fixed 0)
  let s := s.when ((src == 8 && s.on R.EVF_FX_CTL F.EVF_FX_CTL_TH_WARN_EN)
    || (src == 35 && s.on R.EVF_FX_CTL F.EVF_FX_CTL_TH_YIELD_EN)) (·.fixed 1)
  s.when (src == 8 && s.on R.EVF_FX_CTL F.EVF_FX_CTL_WA_EN) (·.fixed 2)

/-- Where an error register stands in the error record (R426): block code, register class, instance, and the event source
that its rising bits fire. -/
structure Site where
  blk : Nat
  cls : Nat
  inst : Nat
  src : Nat
deriving DecidableEq, Repr

/-- Does an error come before the one captured in FINFO (R426): the lowest REG, then the lowest CODE, then the lowest INST? -/
def Site.before (e : Site) (code : Nat) (info : Word) : Bool :=
  let key (cls code inst : Nat) : Nat := (cls * 32 + code) * 256 + inst
  decide (key (e.cls % 4) (code % 32) (e.inst % 256)
    < key (F.ERRLOG_FINFO_REG.get info) (F.ERRLOG_FINFO_CODE.get info) (F.ERRLOG_FINFO_INST.get info))

/-- The error record takes an error of a block (R425, R426): the block's sticky bit, ERR_NEW when it rises, and the
capture of the first error; of several in one cycle, of the one that comes first. -/
def State.record (s : State) (e : Site) (code addr : Nat) : State :=
  let s := if s.on R.ERRLOG_BLOCK_STICKY (bit e.blk) then s
    else (s.sf R.ERRLOG_BLOCK_STICKY (bit e.blk) 1).fire 15
  if s.on (R.ERRLOG_FINFO e.blk) F.ERRLOG_FINFO_VALID
      && !(s.errAt.get (fun _ => none) e.blk == some s.cyc && e.before code (s.rd (R.ERRLOG_FINFO e.blk))) then s else
  let s := { s with errAt := s.errAt.set (fun _ => none) e.blk (some s.cyc) }
  let info := code % 32 + 32 * (e.cls % 4) + 256 * (e.inst % 256)
    + 0x10000 * s.gf R.PTP_PSTAT F.PTP_PSTAT_TIME_VALID + 0x80000000
  let s := s.wrN (R.ERRLOG_FINFO e.blk) info
  let s := s.wr64 (R.ERRLOG_FADDR_LO e.blk) (R.ERRLOG_FADDR_HI e.blk) (BitVec.ofNat 64 addr)
  let s := s.wr64 (R.ERRLOG_FTIME_LO e.blk) (R.ERRLOG_FTIME_HI e.blk) s.nsBits
  s.wr64 (R.ERRLOG_FAON_LO e.blk) (R.ERRLOG_FAON_HI e.blk) (BitVec.ofNat 64 s.aonUs)

/-- A sticky W1C bit is set by the hardware: when it goes from 0 to 1 the error is recorded and the fault source fires. -/
def State.raiseAt (s : State) (a n : Nat) (e : Site) (addr : Nat) : State :=
  if s.on a (bit n) then s else ((s.sf a (bit n) 1).record e n addr).fire e.src

/-- `raiseAt` for a cause that captures no address. -/
def State.raise (s : State) (a n : Nat) (e : Site) : State := s.raiseAt a n e 0

end Sys2Proof.Machine
end

