-- ==== Sys2Proof/Machine/Cal.lean ====
section
/-! DEFINITION. Calibration (R416 to R421): triggers, runs of a domain, and the staging and applying of corrections. -/

namespace Sys2Proof.Machine

/-- Calibration's error register in the error record; it fires CAL_FAULT (R429). -/
def siteCal : Site := ⟨3, 0, 0, 14⟩
def State.calErr (s : State) (b : Nat) : State := s.raise R.CAL_CERR b siteCal

/-- A domain number into an ascending list without repeats. -/
def insertNat (d : Nat) : List Nat → List Nat
  | [] => [d]
  | x :: xs => if d < x then d :: x :: xs else if d == x then x :: xs else x :: insertNat d xs

/-- A trigger of domain `d` (R417): while it runs PENDING takes it, else the domain waits for the engine. -/
def State.calTrigger (s : State) (d : Nat) : State :=
  if s.on (R.CAL_DSTAT d) F.CAL_DSTAT_BUSY then s.sf (R.CAL_DSTAT d) F.CAL_DSTAT_PENDING 1
  else { s with calWant := insertNat d s.calWant }

/-! The axes behind their registers, which a comparator's correction reaches. -/

def State.ax (s : State) (a : Nat) : AxX := s.axes.get (fun _ => {}) a
def State.setAx (s : State) (a : Nat) (x : AxX) : State := { s with axes := s.axes.set (fun _ => {}) a x }
/-- Phase A is `b` = false, phase B `b` = true. -/
def AxX.chop (x : AxX) (b : Bool) : ChopX := if b then x.chopB else x.chopA
def State.setChop (s : State) (a : Nat) (b : Bool) (c : ChopX) : State :=
  s.setAx a (if b then { s.ax a with chopB := c } else { s.ax a with chopA := c })

/-- A chopper comparator takes its correction (R270); the spec gives the delay it then has no value. -/
def State.chopCorrect (s : State) (u : Nat) : State :=
  let b := u % 2 == 1
  (s.setChop (u / 2) b { (s.ax (u / 2)).chop b with dly := s.free.setWidth 10 }).freeNext

/-- How many units a domain has (R416): lanes, memory PHYs, generators, chopper comparators. -/
def calUnits (d : Nat) : Nat := if d < 4 then 32 else if d < 6 then 3 else if d == 6 then 16 else 32

/-- What a unit does at step 5 (R418, R420): applies at once, waits for its safe point, or is skipped. -/
inductive CalWait where
  | now | wait | skip
deriving DecidableEq, Repr

/-- A DISABLED lane, a generator without an active pulse, an axis in OFF and a channel in OFF apply at once; a lane that is neither READY nor DISABLED is
skipped. -/
def State.calWait (s : State) (d u : Nat) : CalWait :=
  if d < 4 then
    let st := s.gf (R.LANE_LANE_STAT (32 * d + u)) F.LANE_LANE_STAT_STATE
    if st == 0 then .now else if st == 5 then .wait else .skip
  else if d < 6 then (if s.gf (R.MC_CH_STAT (3 * (d - 4) + u)) F.MC_CH_STAT_CSTATE == 0 then .now else .wait)
  else if d == 6 then (if (s.tps.get (fun _ => {}) u).active.isNone then .now else .wait)
  else if s.gf (R.AX_STAT (u / 2)) F.AX_STAT_STATE == 0 then .now else .wait

/-- A domain whose last correction has been applied or discarded ends its run (R420, R417). -/
def State.calEnd (s : State) (d : Nat) : State :=
  if s.calRun == some d || s.calStaged.any (fun e => e.1 == d) || !s.on (R.CAL_DSTAT d) F.CAL_DSTAT_BUSY then s else
  let a := R.CAL_DSTAT d
  let s := s.sf a F.CAL_DSTAT_SEQ (s.gf a F.CAL_DSTAT_SEQ + 1)
  let s := (s.sf a F.CAL_DSTAT_VALID 1).sf a F.CAL_DSTAT_BUSY 0
  let s := (s.cnt R.CAL_RUNS).fire 13
  if s.on a F.CAL_DSTAT_PENDING then (s.sf a F.CAL_DSTAT_PENDING 0).calTrigger d else s

/-- Unit `u` of domain `d` comes to its safe point: a staged correction is applied in one step (R420). -/
def State.calApply (s : State) (d u : Nat) : State :=
  if s.calStaged.contains (d, u) then
    let s := s.when (d == 7) (·.chopCorrect u)
    ({ s with calStaged := s.calStaged.filter (fun e => e != (d, u)) }.cnt R.CAL_APPLIED).calEnd d
  else s

/-- A unit that leaves service discards its staged correction (R421). -/
def State.calDiscard (s : State) (d u : Nat) : State :=
  if s.calStaged.contains (d, u) then ({ s with calStaged := s.calStaged.filter (fun e => e != (d, u)) }).calEnd d else s

/-- CCMD.RUN of domain `d` (R417). -/
def calRunCmd (d : Nat) (s : State) : State := s.calTrigger d

/-- CAL_RUN_START (R420): the engine takes the lowest domain that waits; `temp` is the reading of its sensor. -/
def calRunStart (temp : BitVec 16) (s : State) : State :=
  match s.calRun, s.calWant with
  | none, d :: rest =>
    let s := { s with calRun := some d, calWant := rest }
    let w := 0x80000000#32 ||| temp.setWidth 32
    let s := (s.wr (R.CAL_LAST_TEMP d) w).wr (R.CAL_TEMP d) w
    let a := R.CAL_DSTAT d
    ((s.sf a F.CAL_DSTAT_BUSY 1).sf a F.CAL_DSTAT_VALID 0).sf a F.CAL_DSTAT_FAIL 0
  | _, _ => s

/-- One unit of the domain at steps 3 to 5: a failed measurement keeps the old values, an idle unit applies at once. -/
def State.calUnit (s : State) (d u : Nat) (failed : Bool) : State :=
  match s.calWait d u with
  | .skip => s
  | w =>
    if failed then ((s.cnt R.CAL_FAILS).sf (R.CAL_DSTAT d) F.CAL_DSTAT_FAIL 1).calErr 1
    else if w == .now then (s.when (d == 7) (·.chopCorrect u)).cnt R.CAL_APPLIED
    else { s with calStaged := s.calStaged.filter (fun e => e != (d, u)) ++ [(d, u)] }

/-- CAL_STAGED (R419 to R421): the result of EXT_RES in 0.1 Ω, and the units whose measurement was outside its limits. -/
def calStagedCmd (res : BitVec 16) (failed : List Nat) (s : State) : State :=
  match s.calRun with
  | some d =>
    let s := s.wr R.CAL_RES_MEAS (res.setWidth 32)
    let s := s.when (decide (res.toNat < 19000) || decide (21000 < res.toNat)) (·.calErr 0)
    let s := times (calUnits d) (fun u s => s.calUnit d u (failed.contains u)) s
    ({ s with calRun := none }).calEnd d
  | none => s

/-- LANE_CAL_APPLY (R51): the correction of lane `n` at a block boundary; an eye point under way starts again. -/
def laneCalApply (n : Nat) (s : State) : State :=
  if s.calStaged.contains (n / 32, n % 32) then s.calApply (n / 32) (n % 32) else s

end Sys2Proof.Machine
end

