-- ==== Sys2Proof/Machine/Feedback.lean ====
section
/-! DEFINITION. Belt feedback: Hall scoring and position (R258 to R260), the index (R261, R262), speed (R263, R264), and rejoining
service (R265). -/

namespace Sys2Proof.Machine

/-- A channel's error register in the error record; it fires FAULT (R283). -/
def siteFb (n : Nat) : Site := ⟨21, 0, n, 865 + 2 * n⟩
def State.fbErr (s : State) (n b : Nat) : State := s.raise (R.FB_ERR n) b (siteFb n)
def State.fb (s : State) (n : Nat) : FbX := s.fbs.get (fun _ => {}) n
def State.setFb (s : State) (n : Nat) (x : FbX) : State := { s with fbs := s.fbs.set (fun _ => {}) n x }
def State.fbF (s : State) (n : Nat) (f : Fld) (v : Nat) : State := s.sf (R.FB_STAT n) f v
def State.fbEn (s : State) (n : Nat) : Bool := s.on (R.FB_CTL n) F.FB_CTL_EN
def State.fbEst (s : State) (n : Nat) : Nat := s.gf (R.FB_STAT n) F.FB_STAT_EST

/-- The place of a valid Hall state in the forward sequence (R258). -/
def hallPlace (h : Nat) : Nat :=
  match h with | 1 => 0 | 3 => 1 | 2 => 2 | 6 => 3 | 4 => 4 | _ => 5

/-- States 0 and 7 are invalid (R259). -/
def hallBad (h : Nat) : Bool := h == 0 || h == 7

/-- CLK_PER cycles per second in Q16.16 (R263). -/
def fbScale : Nat := 200000000 * 65536

/-- The magnitude of the speed before it is clamped, `e` cycles after the last edge (R263). -/
def fbMag (ivls : List Nat) (avg e : Nat) : Nat :=
  let l := ivls.take avg
  let sum := l.sum
  let mag := (l.length * fbScale + sum / 2) / sum
  if ivls.headD 0 < e then min mag ((fbScale + e / 2) / e) else mag

/-- SPEED is refreshed (R263, R264); a magnitude that is clamped sets SPEED_SAT. -/
def State.fbRefresh (s : State) (n : Nat) : State :=
  let x := s.fb n
  if !s.fbEn n || s.fbEst n != 2 then s.wr (R.FB_SPEED n) 0 else
  let mag := fbMag x.ivls (s.gf (R.FB_CTL n) F.FB_CTL_AVG_N) (s.per - x.edgeAt.getD s.per)
  let v : Int := ((min mag 0x7fffffff : Nat) : Int)
  let s := s.wrI (R.FB_SPEED n) (if s.on (R.FB_STAT n) F.FB_STAT_DIR then -v else v)
  s.when (decide (0x7fffffff < mag)) (·.fbErr n 3)

/-- One count enters the estimator (R263): `rev` is its direction, `ivl` its interval. -/
def State.fbCount (s : State) (n : Nat) (rev : Bool) (ivl : Nat) : State :=
  let x := s.fb n
  if s.fbEst n == 0 || s.on (R.FB_STAT n) F.FB_STAT_DIR != rev then
    ((s.fbF n F.FB_STAT_DIR (b2n rev)).fbF n F.FB_STAT_EST 1).setFb n { x with ivls := [] }
  else
    let i := max 1 ivl
    ((s.setFb n { x with ivls := (i :: x.ivls).take 6 }).fbF n F.FB_STAT_EST 2).wrN (R.FB_LAST_IVL n) i

/-- An edge of one or two counts, qualified in CLK_PER cycle `c`, enters the estimator (R257, R258, R263); the interval of a skip is
shared. -/
def State.fbEdge (s : State) (n c : Nat) (rev : Bool) (two : Bool) : State :=
  let i := match (s.fb n).edgeAt with | some c0 => c - c0 | none => 0
  let s := if two then (s.fbCount n rev (i / 2)).fbCount n rev (i - i / 2) else s.fbCount n rev i
  (s.setFb n { s.fb n with edgeAt := some c }).fbRefresh n

/-- The estimator goes to STILL, and SPEED reads 0. -/
def State.fbStill (s : State) (n : Nat) : State := (s.fbF n F.FB_STAT_EST 0).wr (R.FB_SPEED n) 0

/-- CLK_PER cycle number `sub` of the cycle of CLK_SYS that runs; it has one or two. -/
def State.perAt (s : State) (sub : Nat) : Nat := min (s.per + sub) ((s.cyc + 1) * 8 / 5 - 1)

/-- POS after a cycle (R260, R262): an index reset wins, else the counts are added to the value loaded or held. -/
def FbMeet.out (m : FbMeet) : Word :=
  match m.load with
  | some w => w
  | none => m.put.getD m.pos + BitVec.ofInt 32 m.count

/-- What has met in cycle `c` so far. -/
def State.fbMeet (s : State) (n c : Nat) : FbMeet :=
  match (s.fb n).meet with
  | some m => if m.cyc == c then m else { cyc := c, pos := s.rd (R.FB_POS n) }
  | none => { cyc := c, pos := s.rd (R.FB_POS n) }

/-- The cycle of software's commands: the last of this cycle of CLK_SYS in which something reached POS. -/
def State.fbNow (s : State) (n : Nat) : Nat :=
  match (s.fb n).meet with
  | some m => max s.per m.cyc
  | none => s.per

/-- The axes that follow a channel and have a ratio change armed are looked at after every update of its position (R282). -/
def gearDelta (rev : Bool) (m at' : Nat) : Int :=
  let d := (BitVec.ofNat 32 m - BitVec.ofNat 32 at').toInt
  if rev then -d else d

/-- The target of a geared axis at master position `m` (R281). -/
def gearTarget (base : Int) (m mBase : Nat) (gear : Word) : Int :=
  base + ((BitVec.ofNat 32 m - BitVec.ofNat 32 mBase).toInt * signed 16 (gear.toNat % 65536)).tdiv ((gear.toNat / 65536 : Nat) : Int)

def State.axSt (s : State) (a : Nat) : Nat := s.gf (R.AX_STAT a) F.AX_STAT_STATE

/-- The armed ratio change of an axis applies (R282): the base moves to the target under the old ratio. -/
def State.gearChange (s : State) (a : Nat) (next : Word) : State :=
  let x := s.ax a
  let m := s.rdN (R.FB_POS (s.gf (R.AX_GEAR_SRC a) ⟨0, 5⟩))
  let s := s.setAx a { x with base := gearTarget x.base m x.mBase (s.rd (R.AX_GEAR a)), mBase := m, arm := none }
  let s := (s.wr (R.AX_GEAR a) next).sf (R.AX_STAT a) F.AX_STAT_GEAR_ARMED 0
  (s.cnt (R.AX_GEAR_CHANGES a)).fire (914 + 4 * a)

/-- The master position of the geared axes on channel `n` has been updated (R282). -/
def State.gearUpdate (s : State) (n : Nat) : State :=
  times 16 (fun a s =>
    match (s.ax a).arm with
    | some (rev, at', next) =>
      if s.axSt a == 5 && s.gf (R.AX_GEAR_SRC a) ⟨0, 5⟩ == n && decide (0 ≤ gearDelta rev (s.rdN (R.FB_POS n)) at') then
        s.gearChange a next
      else s
    | none => s) s

/-- One more thing meets in a cycle: POS follows (R262). -/
def State.fbPut (s : State) (n : Nat) (m : FbMeet) : State :=
  ((s.setFb n { s.fb n with meet := some m }).wr (R.FB_POS n) m.out).gearUpdate n

/-- An edge between valid states, `d` places apart, is scored in cycle `c` (R258). -/
def State.hallScore (s : State) (n c d : Nat) : State :=
  if d == 0 then s
  else if d == 3 then (((s.cnt (R.FB_HALL_SKIP n)).fbErr n 2).fbF n F.FB_STAT_HOMED 0).fbStill n
  else
    let two := d == 2 || d == 4
    let rev := (d == 4 || d == 5) != s.on (R.FB_CTL n) F.FB_CTL_DIR_INV
    let s := s.when two (fun s => (s.cnt (R.FB_HALL_SKIP n)).fbErr n 1)
    let k : Int := if two then 2 else 1
    let m := s.fbMeet n c
    (s.fbPut n { m with count := m.count + (if rev then -k else k) }).fbEdge n c rev two

/-- HALL_EDGE (R257 to R259): `run` equal samples up to cycle `sub` make `h` the qualified Hall state, where FILT asks no more. A valid
state after an invalid one rejoins service (R265). -/
def hallEdge (n h run sub : Nat) (s : State) : State :=
  let x := s.fb n
  let old := s.gf (R.FB_STAT n) F.FB_STAT_HALL
  if decide (run < s.gf (R.FB_CTL n) F.FB_CTL_FILT) || old == h then s else
  let s := (s.fbF n F.FB_STAT_HALL h).fbF n F.FB_STAT_INVALID_NOW (b2n (hallBad h))
  if !s.fbEn n then s else
  let s := s.cnt (R.FB_EDGES n)
  if hallBad h then (s.cnt (R.FB_HALL_INVALID n)).fbErr n 0 else
  let s := s.when (hallBad old) (fun s => (s.fbStill n).fbF n F.FB_STAT_HOMED 0)
  let s := s.setFb n { x with ref := some h }
  match x.ref with
  | none => s
  | some r => s.hallScore n (s.perAt sub) ((hallPlace h + 6 - hallPlace r) % 6)

/-- The index event of cycle `m.cyc` loads POS from INDEX_POS and sets HOMED (R261). -/
def State.indexLoad (s : State) (n : Nat) (m : FbMeet) : State :=
  (s.fbF n F.FB_STAT_HOMED 1).fbPut n { m with idx := true, load := some (s.rd (R.FB_INDEX_POS n)) }

/-- The index event of a channel in cycle `c` (R261): POS as it stood before the cycle is captured, and POS may be loaded from
INDEX_POS. -/
def State.indexEvent (s : State) (n c : Nat) : State :=
  let m := s.fbMeet n c
  let s := (s.wr (R.FB_IDX_CAPT n) m.pos).cnt (R.FB_INDEXES n)
  let once := s.on (R.FB_CTL n) F.FB_CTL_IDX_MODE
  let s :=
    if !once then s.indexLoad n m
    else if s.on (R.FB_STAT n) F.FB_STAT_IDX_ARMED then (s.fbF n F.FB_STAT_IDX_ARMED 0).indexLoad n m
    else s.setFb n { s.fb n with meet := some { m with idx := true } }
  s.fire (864 + 2 * n)

/-- FB_SPEED_REFRESH (R264): a 1 µs tick. -/
def fbSpeedRefresh (n : Nat) (s : State) : State := s.fbRefresh n

/-- SPEED_TIMEOUT (R264): SPEED_TIMEOUT µs since the last edge. -/
def speedTimeout (n : Nat) (s : State) : State :=
  match (s.fb n).edgeAt with
  | some c =>
    if decide (200 * s.rdN (R.FB_SPEED_TIMEOUT n) ≤ s.per - c) then s.fbStill n else s
  | none => s

/-- CMD.SET_POS (R260 to R262): an index reset in the same cycle wins, with its HOMED. -/
def fbSetPos (n : Nat) (s : State) : State :=
  let m := s.fbMeet n (s.fbNow n)
  let s := s.when (m.load.isNone && s.on (R.FB_CTL n) F.FB_CTL_SET_CLR_HOMED) (·.fbF n F.FB_STAT_HOMED 0)
  s.fbPut n { m with put := some (s.rd (R.FB_POS_SET n)) }

/-- CMD.ARM_INDEX (R261, R262): an index event in the same cycle is taken as armed, which uses the arming up. -/
def armIndex (n : Nat) (s : State) : State :=
  let m := s.fbMeet n (s.fbNow n)
  if m.idx && s.on (R.FB_CTL n) F.FB_CTL_IDX_MODE then s.when m.load.isNone (·.indexLoad n m) else s.fbF n F.FB_STAT_IDX_ARMED 1

/-- CMD.DISARM_INDEX (R261). -/
def disarmIndex (n : Nat) (s : State) : State := s.fbF n F.FB_STAT_IDX_ARMED 0

/-- A write of CTL (R265, R284): AVG_N and FILT out of range refuse it. -/
def fbCtlWrite (n : Nat) (v : Word) (s : State) : State :=
  let avg := F.FB_CTL_AVG_N.get v
  if avg == 0 || avg == 7 || F.FB_CTL_FILT.get v == 0 then s.fbErr n 4 else
  let was := s.fbEn n
  let s := s.wr (R.FB_CTL n) (v &&& 0xffff)
  let en := F.FB_CTL_EN.get v == 1
  let s := s.fbF n F.FB_STAT_RUNNING (b2n en)
  if en && !was then
    let h := s.gf (R.FB_STAT n) F.FB_STAT_HALL
    let s := s.setFb n { ref := if hallBad h then none else some h }
    (s.fbF n F.FB_STAT_HOMED 0).fbStill n
  else if en then s else s.wr (R.FB_SPEED n) 0

end Sys2Proof.Machine
end

