-- ==== Sys2Proof/Machine/Axis.lean ====
section
/-! DEFINITION. Service axes: the electrical angle and the choppers (R266 to R270), segments, trapezoids and stop ramps (R271 to
R277), limits and homing (R278, R279), stalls (R280) and gearing (R281, R282). -/

namespace Sys2Proof.Machine

/-- An axis's error register in the error record; it fires FAULT (R283). -/
def siteAx (a : Nat) : Site := ⟨22, 0, a, 915 + 4 * a⟩
def State.axErr (s : State) (a b : Nat) : State := s.raise (R.AX_ERR a) b (siteAx a)
def State.axF (s : State) (a : Nat) (f : Fld) (v : Nat) : State := s.sf (R.AX_STAT a) f v
def State.axPos (s : State) (a : Nat) : Int := s.rdI (R.AX_POS a)
def State.axVel (s : State) (a : Nat) : Int := s.rdI (R.AX_VEL a)

/-- The states of an axis (R275). -/
def axOff : Nat := 0
def axIdle : Nat := 1
def axMoving : Nat := 2
def axStopping : Nat := 3
def axHoming : Nat := 4
def axGeared : Nat := 5

/-! The electrical angle (R266, R267). -/

/-- Entries 0 on of the quarter wave (R267). -/
def sineQuarter0 : List Nat :=
  [0, 2, 3, 5, 6, 8, 9, 11, 13, 14, 16, 17, 19, 20, 22, 24, 25, 27, 28, 30, 31, 33, 34, 36, 38, 39, 41, 42, 44, 45,
    47, 48, 50, 51, 53, 55, 56, 58, 59, 61, 62, 64, 65, 67, 68, 70, 71, 73, 74, 76, 77, 79, 80, 82, 83, 85, 86, 88,
    89, 91, 92, 94, 95, 97]

/-- Entries 64 on of the quarter wave (R267). -/
def sineQuarter1 : List Nat :=
  [98, 99, 101, 102, 104, 105, 107, 108, 109, 111, 112, 114, 115, 117, 118, 119, 121, 122, 123, 125, 126, 128, 129,
    130, 132, 133, 134, 136, 137, 138, 140, 141, 142, 144, 145, 146, 147, 149, 150, 151, 152, 154, 155, 156, 157,
    159, 160, 161, 162, 164, 165, 166, 167, 168, 170, 171, 172, 173, 174, 175, 177, 178, 179, 180]

/-- Entries 128 on of the quarter wave (R267). -/
def sineQuarter2 : List Nat :=
  [181, 182, 183, 184, 185, 186, 188, 189, 190, 191, 192, 193, 194, 195, 196, 197, 198, 199, 200, 201, 202, 203, 204,
    205, 206, 207, 207, 208, 209, 210, 211, 212, 213, 214, 215, 215, 216, 217, 218, 219, 220, 220, 221, 222, 223,
    224, 224, 225, 226, 227, 227, 228, 229, 229, 230, 231, 231, 232, 233, 233, 234, 235, 235, 236]

/-- Entries 192 on of the quarter wave (R267). -/
def sineQuarter3 : List Nat :=
  [237, 237, 238, 238, 239, 239, 240, 241, 241, 242, 242, 243, 243, 244, 244, 245, 245, 245, 246, 246, 247, 247, 248,
    248, 248, 249, 249, 249, 250, 250, 250, 251, 251, 251, 252, 252, 252, 252, 253, 253, 253, 253, 254, 254, 254,
    254, 254, 255, 255, 255, 255, 255, 255, 255, 256, 256, 256, 256, 256, 256, 256, 256, 256, 256]

/-- Entries 256 on of the quarter wave (R267). -/
def sineQuarter4 : List Nat :=
  [256]
/-- round(256 × sin(2π i / 1,024)) for i = 0 to 256. -/
def sineQuarter (i : Nat) : Nat :=
  (sineQuarter0 ++ sineQuarter1 ++ sineQuarter2 ++ sineQuarter3 ++ sineQuarter4).getD i 0

/-- S(i) of R267 for i below 1,024. -/
def sine (i : Nat) : Int :=
  if i ≤ 256 then sineQuarter i
  else if i ≤ 512 then sineQuarter (512 - i)
  else if i ≤ 768 then -(sineQuarter (i - 512) : Int)
  else -(sineQuarter (1024 - i) : Int)

/-- The DAC value of a phase for a current and a sine value. -/
def dacOf (cur : Nat) (x : Int) : Nat := min 255 ((cur * x.natAbs + 128) / 256)

/-- A chopper takes its target; at 0 its phase is off (R267, R268). The start of its last drive stands: the next one waits for 1/FMAX
from it. -/
def ChopX.target (c : ChopX) (dac : Nat) (neg : Bool) : ChopX :=
  if dac == 0 then { c with dac := 0, neg := neg, out := 0, done := false, steady := false }
  else { c with dac := dac, neg := neg, steady := c.steady && c.dac == dac }

/-- Both choppers take their targets, and CHOP_STAT shows the DAC values (R285). -/
def State.setTargets (s : State) (a : Nat) (ca cb : ChopX) : State :=
  ((s.setAx a { s.ax a with chopA := ca, chopB := cb }).sf (R.AX_CHOP_STAT a) ⟨16, 8⟩ ca.dac).sf (R.AX_CHOP_STAT a) ⟨24, 8⟩ cb.dac

/-- The targets of a tick (R267). -/
def State.axTargets (s : State) (a : Nat) : State :=
  let th := (s.rdN (R.AX_POS a)) % 1024
  let cur := if s.on (R.AX_STAT a) F.AX_STAT_HOLD_CUR then s.gf (R.AX_CUR a) ⟨8, 8⟩ else s.gf (R.AX_CUR a) ⟨0, 8⟩
  let sa := sine ((th + 256) % 1024)
  let sb := sine th
  let x := s.ax a
  s.setTargets a (x.chopA.target (dacOf cur sa) (decide (sa < 0)))
    (x.chopB.target (dacOf cur sb) (decide (sb < 0) != s.on (R.AX_CTL a) F.AX_CTL_DIR_INV))

/-- The levels of PH_x_1 and PH_x_2 (R268). -/
def ChopX.levels (c : ChopX) : Bool × Bool :=
  if c.out == 0 then (false, false) else if c.out == 1 then (!c.driveNeg, c.driveNeg)
  else if c.out == 2 then (true, true) else (c.driveNeg, !c.driveNeg)

/-! Rounding (R272, R274). -/

/-- The greatest r with r² ≤ n, bit by bit from bit `k` down. -/
def isqrt (n : Nat) : Nat → Nat → Nat
  | 0, r => r
  | k + 1, r => let t := r + 2 ^ k; isqrt n k (if t * t ≤ n then t else r)

/-- ⌊√n⌋ for any n. -/
def natSqrt (n : Nat) : Nat := isqrt n (Nat.log2 n / 2 + 1) 0

/-- n / d to the nearest integer, halves upward, for d above 0 (R272). -/
def roundDiv (n d : Int) : Int := (2 * n + d) / (2 * d)

/-- x + y √z to the nearest integer, halves upward (R274): exact, for z ≥ 0. -/
def roundSurd (x y z : Rat) : Int :=
  let h : Rat := x + 1 / 2
  let w : Rat := y * y * z
  let m := h.den * h.den * w.num.toNat * w.den
  let r := natSqrt m
  let root : Int := if 0 ≤ y then (r : Int) else if r * r == m then -(r : Int) else -((r : Int) + 1)
  (h.num * (w.den : Int) + root) / ((h.den * w.den : Nat) : Int)

/-! Motion: POS and VEL of a run at tick t, and whether it has ended. -/

/-- A segment (R272). -/
def segAt (p0 v0 p1 v1 d t : Int) : Int × Int × Bool :=
  if d ≤ t then (p1, v1, true) else
  let pn := (p1 - p0) * (3 * t * t * d - 2 * t * t * t) * 1000000
    + (v0 * (t * t * t - 2 * t * t * d + t * d * d) + v1 * (t * t * t - t * t * d)) * d
  let vn := (p1 - p0) * (6 * t * d - 6 * t * t) * 1000000 + (v0 * (3 * t * t - 4 * t * d + d * d) + v1 * (3 * t * t - 2 * t * d)) * d
  (p0 + roundDiv pn (1000000 * d * d * d), roundDiv vn (d * d * d), false)

/-- A tick count in seconds. -/
def secs (t : Nat) : Rat := (t : Rat) / 1000000

/-- The sign of a direction. -/
def sgn (neg : Bool) : Rat := if neg then -1 else 1

/-- A profile towards its target from distance `d` at speed `v` towards it, τ seconds after it began: the distance travelled and the
speed as x + y √z, and whether it has ended (R274). -/
def profile (d v vmax acc dec τ : Rat) : (Rat × Rat × Rat) × (Rat × Rat × Rat) × Bool :=
  let still : Rat × Rat × Rat := (0, 0, 0)
  if vmax < v then
    let t1 := (v - vmax) / dec
    let s1 := (v * v - vmax * vmax) / (2 * dec)
    let s3 := vmax * vmax / (2 * dec)
    let t2 := (d - s1 - s3) / vmax
    let t3 := vmax / dec
    if τ < t1 then ((v * τ - dec * τ * τ / 2, 0, 0), (v - dec * τ, 0, 0), false)
    else if τ < t1 + t2 then ((s1 + vmax * (τ - t1), 0, 0), (vmax, 0, 0), false)
    else
      let r := t1 + t2 + t3 - τ
      if r ≤ 0 then ((d, 0, 0), still, true) else ((d - dec * r * r / 2, 0, 0), (dec * r, 0, 0), false)
  else
    let vp2 := (2 * acc * dec * d + dec * v * v) / (acc + dec)
    if vmax * vmax ≤ vp2 then
      let t1 := (vmax - v) / acc
      let s1 := (vmax * vmax - v * v) / (2 * acc)
      let s3 := vmax * vmax / (2 * dec)
      let t2 := (d - s1 - s3) / vmax
      let t3 := vmax / dec
      if τ < t1 then ((v * τ + acc * τ * τ / 2, 0, 0), (v + acc * τ, 0, 0), false)
      else if τ < t1 + t2 then ((s1 + vmax * (τ - t1), 0, 0), (vmax, 0, 0), false)
      else
        let r := t1 + t2 + t3 - τ
        if r ≤ 0 then ((d, 0, 0), still, true) else ((d - dec * r * r / 2, 0, 0), (dec * r, 0, 0), false)
    else
      let u := v + acc * τ
      if u * u < vp2 then ((v * τ + acc * τ * τ / 2, 0, 0), (u, 0, 0), false)
      else
        let k := 1 / acc + 1 / dec
        let b := v / acc + τ
        if k * k * vp2 ≤ b * b then ((d, 0, 0), still, true)
        else ((d - dec * (k * k * vp2 + b * b) / 2, dec * k * b, vp2), (-(dec * b), dec * k, vp2), false)

/-- A trapezoid (R274): a move that starts away from its target, or too fast to stop before it, first decelerates to rest. -/
def trapAt (p0 v0 p1 vmax acc dec : Int) (t : Nat) : Int × Int × Bool :=
  if p0 == p1 && v0 == 0 then (p1, 0, true) else
  let neg := decide (p1 < p0) || (p0 == p1 && decide (v0 < 0))
  let τ := secs t
  let dist : Rat := ((p1 - p0).natAbs : Rat)
  let v : Rat := sgn neg * (v0 : Rat)
  let give (start : Rat) (neg : Bool) (r : (Rat × Rat × Rat) × (Rat × Rat × Rat) × Bool) : Int × Int × Bool :=
    if r.2.2 then (p1, 0, true)
    else (roundSurd (start + sgn neg * r.1.1) (sgn neg * r.1.2.1) r.1.2.2,
      roundSurd (sgn neg * r.2.1.1) (sgn neg * r.2.1.2.1) r.2.1.2.2, false)
  if v < 0 || decide (2 * (dec : Rat) * dist < v * v) then
    let away := decide (v0 < 0)
    let u : Rat := (v0.natAbs : Rat)
    let tb := u / (dec : Rat)
    if τ < tb then
      give (p0 : Rat) away ((u * τ - (dec : Rat) * τ * τ / 2, 0, 0), (u - (dec : Rat) * τ, 0, 0), false)
    else
      let pb : Rat := (p0 : Rat) + sgn away * (u * u / (2 * (dec : Rat)))
      let back := decide ((p1 : Rat) < pb)
      let d : Rat := if back then pb - (p1 : Rat) else (p1 : Rat) - pb
      if d == 0 then (p1, 0, true) else give pb back (profile d 0 (vmax : Rat) (acc : Rat) (dec : Rat) (τ - tb))
  else give (p0 : Rat) neg (profile dist v (vmax : Rat) (acc : Rat) (dec : Rat) τ)

/-- A stop ramp (R277). -/
def rampAt (p0 v0 dec : Int) (t : Nat) : Int × Int × Bool :=
  let neg := decide (v0 < 0)
  let u : Rat := (v0.natAbs : Rat)
  let τ := secs t
  if u ≤ (dec : Rat) * τ then (roundSurd ((p0 : Rat) + sgn neg * (u * u / (2 * (dec : Rat)))) 0 0, 0, true)
  else (roundSurd ((p0 : Rat) + sgn neg * (u * τ - (dec : Rat) * τ * τ / 2)) 0 0, roundSurd (sgn neg * (u - (dec : Rat) * τ)) 0 0, false)

/-- A homing search (R279). -/
def searchAt (p0 : Int) (neg : Bool) (vel acc : Int) (t : Nat) : Int × Int × Bool :=
  let τ := secs t
  let hv : Rat := (vel : Rat)
  let a : Rat := (acc : Rat)
  if a * τ < hv then (roundSurd ((p0 : Rat) + sgn neg * (a * τ * τ / 2)) 0 0, roundSurd (sgn neg * (a * τ)) 0 0, false)
  else
    let x := if acc == 0 then 0 else hv * τ - hv * hv / (2 * a)
    (roundSurd ((p0 : Rat) + sgn neg * x) 0 0, if neg then -vel else vel, false)

/-- POS, VEL and the end of a run at tick `t`. -/
def AxRun.at' (r : AxRun) (t : Nat) : Int × Int × Bool :=
  match r with
  | .seg p0 v0 p1 v1 d _ _ _ => segAt p0 v0 p1 v1 (d : Int) (t : Int)
  | .trap p0 v0 p1 vmax acc dec => trapAt p0 v0 p1 vmax acc dec t
  | .ramp p0 v0 dec => rampAt p0 v0 dec t
  | .search p0 neg vel acc => searchAt p0 neg vel acc t

/-! The state machine (R275). -/

/-- QDEPTH follows the queue. -/
def State.setQ (s : State) (a : Nat) (q : List AxMove) : State :=
  (s.setAx a { s.ax a with q := q }).axF a F.AX_STAT_QDEPTH q.length

/-- The queue is flushed, counting in MOVES_FLUSHED. -/
def State.flush (s : State) (a : Nat) : State := (s.cntN (R.AX_MOVES_FLUSHED a) (s.ax a).q.length).setQ a []

/-- The stall reference is latched (R280). -/
def State.stallRef (s : State) (a : Nat) : State :=
  s.setAx a { s.ax a with a0 := s.rdN (R.AX_POS a), f0 := s.rdN (R.FB_POS (s.gf (R.AX_STALL a) ⟨0, 5⟩)), stallNow := false }

/-- GEAR_VMAX holds POS back no more (R281). -/
def State.unheld (s : State) (a : Nat) : State := s.axF a F.AX_STAT_GEAR_LIMITED 0

/-- The axis comes to rest in IDLE. -/
def State.axRest (s : State) (a : Nat) : State :=
  (((s.unheld a).setAx a { s.ax a with run := none, t := 0, stopReq := false }).axF a F.AX_STAT_STATE axIdle).wr (R.AX_VEL a) 0

/-- A stop ramp starts from the commanded position and velocity (R277); one from rest ends at once. `req` says whether a stop
request started it. -/
def State.axRamp (s : State) (a : Nat) (req : Bool) : State :=
  if s.axVel a == 0 then s.axRest a else
  ((s.unheld a).setAx a
    { s.ax a with run := some (.ramp (s.axPos a) (s.axVel a) (s.rdN (R.AX_STOP_DEC a) : Int)), t := 0, stopReq := req }).axF a
    F.AX_STAT_STATE axStopping

/-- Homing ends with a result (R279). -/
def State.homeEnd (s : State) (a r : Nat) : State := (s.axF a F.AX_STAT_HOME_RES r).fire (913 + 4 * a)

/-- A stop request (R275). -/
def State.stopRequest (s : State) (a : Nat) : State :=
  let st := s.axSt a
  if st == axMoving || st == axHoming || st == axGeared then
    let s := s.when (st == axHoming) (·.homeEnd a 3)
    (s.flush a).axRamp a true
  else s

/-- CMD.ESTOP, or a stall with ACT = 2 (R275). -/
def State.axEstop (s : State) (a : Nat) : State :=
  if s.axSt a == axOff then s else
  let s := s.when (s.axSt a == axHoming) (·.homeEnd a 3)
  ((s.flush a).axRest a).axF a F.AX_STAT_HOLD_CUR 1

/-- The axis goes OFF (R275): outputs 00, HOMED clear; staged comparator corrections are discarded (R421). -/
def State.axGoOff (s : State) (a : Nat) : State :=
  let s := s.when (s.axSt a == axHoming) (·.homeEnd a 3)
  let s := ((s.flush a).axRest a).axF a F.AX_STAT_STATE axOff
  let s := (s.axF a F.AX_STAT_HOMED 0).axF a F.AX_STAT_HOLD_CUR 0
  let x := s.ax a
  let s := s.setTargets a (x.chopA.target 0 false) (x.chopB.target 0 false)
  (s.calDiscard 7 (2 * a)).calDiscard 7 (2 * a + 1)

/-! Moves (R271, R273, R274). -/

def segWord (s : State) (i j : Nat) : Word := s.segs.get (fun _ => 0) (4 * (i % 8192) + j)

/-- The next segment of a move from (p, v); none when DUR_US = 0 (R271). `rel` is what a relative END_POS is added to. -/
def State.segRun (s : State) (i left : Nat) (rel p v : Int) : Option AxRun :=
  let d := (segWord s i 0).toNat % 0x1000000
  if d == 0 then none
  else some (.seg p v (rel + (segWord s i 1).toInt) (segWord s i 2).toInt d (i + 1) left rel)

/-- A bit of a MOVE word. -/
def mvBit (w : Word) (n : Nat) : Bool := (bit n).get w == 1

/-- The move at the head of the queue starts from the present position and velocity (R275, R276); one that is refused, or whose first
segment has DUR_US = 0, leaves the axis without a run. -/
def State.startMove (s : State) (a : Nat) : State :=
  match (s.ax a).q with
  | [] => s
  | m :: rest =>
    let s := s.setQ a rest
    let p := s.axPos a
    let v := s.axVel a
    let vmax : Int := s.rdN (R.AX_PROF_VMAX a)
    let acc : Int := s.rdN (R.AX_PROF_ACC a)
    let dec : Int := s.rdN (R.AX_PROF_DEC a)
    if mvBit m.move 30 && (vmax == 0 || acc == 0 || dec == 0) then (s.setAx a { s.ax a with run := none }).axErr a 11 else
    let run := if mvBit m.move 30 then some (AxRun.trap p v m.trap vmax acc dec)
      else s.segRun ((⟨0, 13⟩ : Fld).get m.move) ((⟨13, 13⟩ : Fld).get m.move) (if mvBit m.move 26 then p else 0) p v
    let s := (s.setAx a { s.ax a with run := run, move := m.move, t := 0, stopReq := false }).stallRef a
    let s := (s.axF a F.AX_STAT_STATE axMoving).axF a F.AX_STAT_STALLED 0
    let s := s.when (mvBit m.move 28) (·.fire (912 + 4 * a))
    s.when run.isNone (·.axErr a 8)

/-- A finished move counts, and fires MOVE with EVT_END (R275). -/
def State.moveDone (s : State) (a : Nat) : State :=
  (s.cnt (R.AX_MOVES_DONE a)).when (mvBit (s.ax a).move 29) (·.fire (912 + 4 * a))

/-- What follows the end of a move (R275): a blended move starts in the same tick; else the axis rests or ramps down. The number
bounds the moves that may end in one tick. -/
def State.afterEnd (s : State) (a : Nat) : Nat → State
  | 0 => s.axRest a
  | n + 1 =>
    match (s.ax a).q with
    | m :: _ =>
      if mvBit m.move 27 then
        let s := s.startMove a
        if (s.ax a).run.isSome then s
        else if mvBit m.move 30 then s.afterEnd a n
        else (s.moveDone a).afterEnd a n
      else s.axRamp a false
    | [] => if s.axVel a == 0 then s.axRest a else (s.axErr a 6).axRamp a false

/-- The move that runs has ended (R275). -/
def State.moveEnd (s : State) (a : Nat) : State := (s.moveDone a).afterEnd a 9

/-! Homing (R279). -/

/-- The search starts from rest in a direction. -/
def State.homeSearch (s : State) (a : Nat) (neg : Bool) : State :=
  s.setAx a { s.ax a with
    run := some (.search (s.axPos a) neg (s.rdN (R.AX_HOME_VEL a) : Int) (s.rdN (R.AX_PROF_ACC a) : Int)), t := 0, hStep := 0, hNeg := neg }

/-- A homing ramp has come to rest. -/
def State.homeRampEnd (s : State) (a : Nat) : State :=
  let x := s.ax a
  let s := s.wr (R.AX_VEL a) 0
  if x.hStep == 1 then
    let s := s.wrI (R.AX_POS a) (s.axPos a - x.pe + s.rdI (R.AX_HOME_POS a))
    ((s.axF a F.AX_STAT_HOMED 1).homeEnd a 1).axRest a
  else if x.hStep == 2 then s.homeSearch a (!x.hNeg)
  else ((s.axErr a 5).homeEnd a 2).axRest a

/-- A homing ramp starts towards step `k`; one from rest ends at once. -/
def State.homeRamp (s : State) (a k : Nat) : State :=
  let x := s.ax a
  let s := s.setAx a { x with run := some (.ramp (s.axPos a) (s.axVel a) (s.rdN (R.AX_STOP_DEC a) : Int)), t := 0, hStep := k
                              pe := if k == 1 then s.axPos a else x.pe }
  if s.axVel a == 0 then s.homeRampEnd a else s

/-- Is the axis searching for home? -/
def State.searching (s : State) (a : Nat) : Bool := s.axSt a == axHoming && (s.ax a).hStep == 0

/-- The home event of an axis. -/
def State.homeEvent (s : State) (a : Nat) : State := if s.searching a then s.homeRamp a 1 else s

/-- A limit other than the home source is met in the search direction. -/
def State.homeLimit (s : State) (a : Nat) : State :=
  if mvBit (s.rd (R.AX_HOME a)) 3 && !s.on (R.AX_STAT a) F.AX_STAT_REVERSED then (s.axF a F.AX_STAT_REVERSED 1).homeRamp a 2
  else s.homeRamp a 3

def State.homeSrc (s : State) (a : Nat) : Nat := s.gf (R.AX_HOME a) ⟨0, 2⟩

/-- INDEX_EVENT (R257, R261, R279): `run` equal samples up to cycle `sub` make `level` the qualified level of HZ, where FILT asks no
more. -/
def indexEventCmd (n : Nat) (level : Bool) (run sub : Nat) (s : State) : State :=
  if decide (run < s.gf (R.FB_CTL n) F.FB_CTL_FILT) || s.on (R.FB_STAT n) F.FB_STAT_HZ == level then s else
  let s := s.fbF n F.FB_STAT_HZ (b2n level)
  if !s.fbEn n || level == s.on (R.FB_CTL n) F.FB_CTL_IDX_POL then s else
  let s := s.indexEvent n (s.perAt sub)
  times 16 (fun a s => if s.homeSrc a == 0 && s.gf (R.AX_STALL a) ⟨0, 5⟩ == n then s.homeEvent a else s) s

/-- Whether `run` equal samples of LIM_NEG or LIM_POS (`hi`) at `level` make it active (R278): none while LIM_FILT asks for more. -/
def State.limQual (s : State) (a : Nat) (hi level : Bool) (run : Nat) : Option Bool :=
  if run < s.gf (R.AX_LIMIT a) ⟨0, 8⟩ then none else some (level != s.on (R.AX_LIMIT a) (bit (if hi then 9 else 8)))

/-- LIMIT_ASSERT (R278, R279): the qualified level of LIM_NEG or LIM_POS (`hi`) becomes active. -/
def limitAssert (a : Nat) (hi level : Bool) (run : Nat) (s : State) : State :=
  let inF := if hi then F.AX_STAT_LIM_POS_IN else F.AX_STAT_LIM_NEG_IN
  if s.on (R.AX_STAT a) inF || s.limQual a hi level run != some true then s else
  let s := s.axF a inF 1
  let src := s.homeSrc a == (if hi then 2 else 1)
  let s := s.when src (·.homeEvent a)
  if !s.on (R.AX_LIMIT a) (bit (if hi then 11 else 10)) then s else
  let s := (s.axF a (if hi then F.AX_STAT_LIM_POS_LATCH else F.AX_STAT_LIM_NEG_LATCH) 1).cnt (R.AX_LIMIT_TRIPS a)
  let s := s.axErr a (b2n hi)
  s.when (!src && s.searching a && (s.ax a).hNeg != hi) (·.homeLimit a)

/-- LIMIT_DEASSERT (R278): the qualified level becomes inactive. -/
def limitDeassert (a : Nat) (hi level : Bool) (run : Nat) (s : State) : State :=
  s.when (s.limQual a hi level run == some false) (·.axF a (if hi then F.AX_STAT_LIM_POS_IN else F.AX_STAT_LIM_NEG_IN) 0)

/-- CMD.CLR_LIM (R278). -/
def clrLim (a : Nat) (s : State) : State :=
  let one (l i : Fld) (s : State) : State :=
    if !s.on (R.AX_STAT a) l then s else if s.on (R.AX_STAT a) i then s.axErr a 10 else s.axF a l 0
  one F.AX_STAT_LIM_POS_LATCH F.AX_STAT_LIM_POS_IN (one F.AX_STAT_LIM_NEG_LATCH F.AX_STAT_LIM_NEG_IN s)

/-- CMD.HOME (R279), in IDLE. -/
def home (a : Nat) (s : State) : State :=
  if s.axSt a != axIdle then s.axErr a 11 else
  let neg := mvBit (s.rd (R.AX_HOME a)) 2
  let s := ((s.axF a F.AX_STAT_HOMED 0).axF a F.AX_STAT_HOME_RES 0).axF a F.AX_STAT_REVERSED 0
  let s := ((s.axF a F.AX_STAT_STATE axHoming).stallRef a).homeSearch a neg
  let latched := s.on (R.AX_STAT a) (if neg then F.AX_STAT_LIM_NEG_LATCH else F.AX_STAT_LIM_POS_LATCH)
  s.when (latched && s.homeSrc a != (if neg then 1 else 2)) (·.homeLimit a)

/-! Stalls (R280). -/

/-- Does the feedback position depart from the expected one? -/
def State.axStalled (s : State) (a : Nat) : Bool :=
  let x := s.ax a
  let n := s.gf (R.AX_STALL a) ⟨0, 5⟩
  let moved := (s.rd (R.AX_POS a) - BitVec.ofNat 32 x.a0).toInt
  let fed := (s.rd (R.FB_POS n) - BitVec.ofNat 32 x.f0).toInt
  decide (s.gf (R.AX_STALL a) ⟨8, 16⟩ < (fed - moved * s.rdI (R.AX_STALL_K a) / 16777216).natAbs)

/-- The stall check of a tick; true when its response takes the tick. -/
def State.stallCheck (s : State) (a : Nat) : State × Bool :=
  let n := s.gf (R.AX_STALL a) ⟨0, 5⟩
  let st := s.axSt a
  if !s.on (R.AX_STALL a) (bit 5) || !(st == axMoving || st == axHoming || st == axGeared) then (s, false)
  else if decide (24 ≤ n) || !s.fbEn n || s.on (R.FB_STAT n) F.FB_STAT_INVALID_NOW then (s.axErr a 4, false)
  else
    let now := s.axStalled a
    let was := (s.ax a).stallNow
    let s := s.setAx a { s.ax a with stallNow := now }
    if !now || was then (s, false) else
    let s := ((s.axF a F.AX_STAT_STALLED 1).cnt (R.AX_STALLS a)).axErr a 3
    let act := s.gf (R.AX_STALL a) ⟨6, 2⟩
    if act == 1 then (s.stopRequest a, true) else if act == 2 then (s.axEstop a, true)
    else if act == 3 then (s.axGoOff a, true) else (s, false)

/-! The 1 µs tick. -/

/-- Does a change of position point towards a latched limit (R278)? -/
def State.towardLatch (s : State) (a : Nat) (p : Int) : Bool :=
  let d := (BitVec.ofInt 32 p - s.rd (R.AX_POS a)).toInt
  (s.on (R.AX_STAT a) F.AX_STAT_LIM_NEG_LATCH && decide (d < 0)) || (s.on (R.AX_STAT a) F.AX_STAT_LIM_POS_LATCH && decide (0 < d))

/-- The next tick of the run: POS and VEL, and whether it ended. -/
def State.axAdvance (s : State) (a : Nat) (r : AxRun) (p : Int × Int × Bool) : State × Bool :=
  let x := s.ax a
  (((s.setAx a { x with run := some r, t := x.t + 1 }).wrI (R.AX_POS a) p.1).wrI (R.AX_VEL a) p.2.1, p.2.2)

/-- A tick in MOVING. -/
def State.tickMoving (s : State) (a : Nat) : State :=
  let x := s.ax a
  match x.run with
  | none => s.axRest a
  | some r =>
    let p := r.at' (x.t + 1)
    if s.towardLatch a p.1 then (s.axErr a 2).stopRequest a else
    let e := s.axAdvance a r p
    let s := e.1
    if !e.2 then s else
    match r with
    | .seg _ _ p1 v1 _ next left base =>
      if left == 0 then s.moveEnd a else
      match s.segRun next (left - 1) base p1 v1 with
      | some r' => s.setAx a { s.ax a with run := some r', t := 0 }
      | none => (s.axErr a 8).moveEnd a
    | _ => s.moveEnd a

/-- A tick in STOPPING. -/
def State.tickStopping (s : State) (a : Nat) : State :=
  let x := s.ax a
  match x.run with
  | none => s.axRest a
  | some r => let e := s.axAdvance a r (r.at' (x.t + 1)); if e.2 then e.1.axRest a else e.1

/-- A tick in HOMING. -/
def State.tickHoming (s : State) (a : Nat) : State :=
  let x := s.ax a
  match x.run with
  | none => s.axRest a
  | some r => let e := s.axAdvance a r (r.at' (x.t + 1)); if e.2 then e.1.homeRampEnd a else e.1

/-- A tick in GEARED (R281). -/
def State.tickGeared (s : State) (a : Nat) : State :=
  let x := s.ax a
  let n := s.gf (R.AX_GEAR_SRC a) ⟨0, 5⟩
  let g := s.rd (R.AX_GEAR a)
  let vmax := s.rdN (R.AX_GEAR_VMAX a)
  let target := gearTarget x.base (s.rdN (R.FB_POS n)) x.mBase g
  let d := (BitVec.ofInt 32 target - s.rd (R.AX_POS a)).toInt
  let room := (x.frac + vmax) / 1000000
  let held := vmax != 0 && decide (room < d.natAbs)
  let p := if held then s.axPos a + (if d < 0 then -(room : Int) else (room : Int)) else target
  if s.towardLatch a p then (s.axErr a 2).stopRequest a else
  let s := s.setAx a { x with frac := (x.frac + vmax) % 1000000 }
  let s := (s.wrI (R.AX_POS a) p).axF a F.AX_STAT_GEAR_LIMITED (b2n held)
  let s := s.when held (·.axErr a 9)
  let v := (s.rdI (R.FB_SPEED n) * signed 16 (g.toNat % 65536)).tdiv ((g.toNat / 65536 : Nat) : Int) / 65536
  s.wrI (R.AX_VEL a) (if vmax == 0 then v else sat v (-(vmax : Int)) vmax)

/-- The motion of a tick. -/
def State.axMotion (s : State) (a : Nat) : State :=
  let st := s.axSt a
  if st == axIdle then
    (match (s.ax a).q with
    | m :: _ =>
      let s := s.startMove a
      if (s.ax a).run.isSome || mvBit m.move 30 then s else s.moveEnd a
    | [] => s)
  else if st == axMoving then s.tickMoving a
  else if st == axStopping then s.tickStopping a
  else if st == axHoming then s.tickHoming a
  else s.tickGeared a

/-- AXIS_TICK (R266, R267, R272, R280). -/
def axisTick (a : Nat) (s : State) : State :=
  if s.axSt a == axOff then s else
  let p := s.rd (R.AX_POS a)
  let r := s.stallCheck a
  let s := if r.2 then r.1 else r.1.axMotion a
  if s.axSt a == axOff then s else
  let s := if s.rd (R.AX_POS a) != p then
      (s.setAx a { s.ax a with still := 0 }).axF a F.AX_STAT_HOLD_CUR 0
    else s.setAx a { s.ax a with still := (s.ax a).still + 1 }
  s.axTargets a

/-- HOLD_DELAY_EXPIRY (R267): POS unchanged for HOLD_DELAY ms. -/
def holdDelayExpiry (a : Nat) (s : State) : State :=
  if s.axSt a != axOff && decide (s.gf (R.AX_CUR a) ⟨16, 8⟩ * 1000 ≤ (s.ax a).still) then
    (s.axF a F.AX_STAT_HOLD_CUR 1).axTargets a
  else s

/-! The choppers (R268 to R270). -/

def offsetFld (b : Bool) : Fld := if b then ⟨8, 8⟩ else ⟨0, 8⟩
/-- The adaptive offset O of a phase. -/
def State.chopO (s : State) (a : Nat) (b : Bool) : Int := signed 8 (s.gf (R.AX_CHOP_STAT a) (offsetFld b))
def State.hyst (s : State) (a : Nat) : Int := s.gf (R.AX_CHOP a) ⟨8, 8⟩
/-- The upper threshold, in 1/16 of a DAC unit. -/
def State.chopHi (s : State) (a : Nat) (b : Bool) : Int := 16 * (((s.ax a).chop b).dac + s.hyst a) - s.chopO a b
/-- The lower threshold. -/
def State.chopLo (s : State) (a : Nat) (b : Bool) : Int := 16 * (((s.ax a).chop b).dac - s.hyst a) - s.chopO a b
/-- Elapsed time in ns, to 8 ns. -/
def State.nsNow (s : State) : Nat := s.cyc * 8

/-- CHOP_UPPER_REACHED (R268): CS_x, in 1/16 of a DAC unit, has reached the upper threshold in the drive. -/
def chopUpperReached (a : Nat) (b : Bool) (cs : Int) (s : State) : State :=
  let c := (s.ax a).chop b
  if c.out != 1 || c.blank || decide (cs < s.chopHi a b) then s else
  let mode := s.gf (R.AX_CTL a) F.AX_CTL_DECAY
  let fast := mode == 1 || (mode == 2 && decide (c.dac < c.driveDac))
  s.setChop a b { c with out := if fast then 3 else 2, tOn := s.nsNow - c.driveAt.getD s.nsNow, decayAt := s.nsNow, blank := true
                         done := false }

/-- The adaptive offset after a cycle with an unchanged DAC value (R269); a time of 0 leaves the quotient open. -/
def State.adapt (s : State) (a : Nat) (b : Bool) (c : ChopX) : State :=
  let d : Int := s.gf (R.AX_CHOP_DLY a) ⟨0, 10⟩ + c.dly.toNat
  let o := s.chopO a b
  let put (s : State) (v : Int) : State := s.sf (R.AX_CHOP_STAT a) (offsetFld b) ((sat v (-128) 127) % 256).toNat
  if c.tOn * c.tOff == 0 then put s.freeNext (signed 8 (s.free.toNat % 256)) else
  let e := (16 * d * s.hyst a * ((c.tOff : Int) - c.tOn)).tdiv ((c.tOn * c.tOff : Nat) : Int)
  put s (o + (e - o) / 4)

/-- CHOP_LOWER_REACHED (R268, R269): CS_x has fallen to the lower threshold in the decay; the cycle is complete, and the offset adapts
where the DAC value stood throughout it. -/
def chopLowerReached (a : Nat) (b : Bool) (cs : Int) (s : State) : State :=
  let c := (s.ax a).chop b
  if !(c.out == 2 || c.out == 3) || c.blank || c.done || decide (s.chopLo a b < cs) then s else
  let c := { c with tOff := s.nsNow - c.decayAt, done := true }
  ((s.setChop a b c).cnt (R.AX_CHOP_CYCLES a)).when (c.steady && s.on (R.AX_CTL a) F.AX_CTL_ADAPT) (·.adapt a b c)

/-- CHOP_DRIVE_START (R268, R270): no sooner than 1/FMAX after the last; a staged comparator correction applies here. -/
def chopDriveStart (a : Nat) (b : Bool) (s : State) : State :=
  let c := (s.ax a).chop b
  let soon := match c.driveAt with
    | some t => decide ((s.nsNow - t) * s.gf (R.AX_CHOP a) ⟨16, 8⟩ < 1000000)
    | none => false
  if s.axSt a == axOff || c.dac == 0 || !(c.out == 0 || c.done) || soon then s else
  let s := s.calApply 7 (2 * a + b2n b)
  s.setChop a b { (s.ax a).chop b with out := 1, driveNeg := c.neg, driveDac := c.dac, driveAt := some s.nsNow, blank := true
                                       done := false, steady := true }

/-- CHOP_BLANK_END (R268): BLANK × 20 ns after a change of the output. -/
def chopBlankEnd (a : Nat) (b : Bool) (s : State) : State :=
  let c := (s.ax a).chop b
  let since := if c.out == 1 then c.driveAt.getD 0 else c.decayAt
  if decide (s.gf (R.AX_CHOP a) ⟨0, 8⟩ * 20 ≤ s.nsNow - since) then s.setChop a b { c with blank := false } else s

/-! Commands and writes. -/

/-- A push of MOVE and TRAP_TARGET (R273). -/
def State.axPush (s : State) (a : Nat) : State :=
  let x := s.ax a
  let st := s.axSt a
  if 8 ≤ x.q.length || st == axOff || st == axHoming || st == axGeared || (st == axStopping && x.stopReq) then
    (s.cnt (R.AX_MOVES_REFUSED a)).axErr a 7
  else s.setQ a (x.q ++ [⟨s.rd (R.AX_MOVE a), s.rdI (R.AX_TRAP_TARGET a)⟩])

/-- CMD.PUSH (R273): one in the cycle of an AX_GO pushes nothing more. -/
def push (a : Nat) (s : State) : State :=
  let x := s.ax a
  let t := s.setAx a { x with pushAt := some s.per }
  if x.goAt == some s.per then t else t.axPush a

/-- AX_GO (R273): acts as PUSH; one in the cycle of a PUSH pushes nothing more. -/
def axGo (a : Nat) (s : State) : State :=
  if !s.consIn.contains (64 + a) then s else
  let x := s.ax a
  let t := { s with consIn := erase1 (64 + a) s.consIn }.setAx a { x with goAt := some s.per }
  if x.pushAt == some s.per then t else t.axPush a

/-- CMD.STOP (R275). -/
def axStopCmd (a : Nat) (s : State) : State := s.stopRequest a

/-- AX_STOP (R275). -/
def axStop (a : Nat) (s : State) : State :=
  if !s.consIn.contains (80 + a) then s else { s with consIn := erase1 (80 + a) s.consIn }.stopRequest a

/-- CMD.ESTOP (R275). -/
def estop (a : Nat) (s : State) : State := s.axEstop a

/-- CMD.SET_POS (R285): only in IDLE or OFF. -/
def axSetPos (a : Nat) (s : State) : State :=
  if s.axSt a == axIdle || s.axSt a == axOff then s.wr (R.AX_POS a) (s.rd (R.AX_POS_SET a)) else s.axErr a 11

/-- CMD.GEAR_ON (R281), in IDLE, with its master channel enabled. -/
def gearOn (a : Nat) (s : State) : State :=
  let n := s.gf (R.AX_GEAR_SRC a) ⟨0, 5⟩
  if s.axSt a != axIdle || decide (24 ≤ n) || !s.fbEn n then s.axErr a 11 else
  let s := s.setAx a { s.ax a with base := s.axPos a, mBase := s.rdN (R.FB_POS n), frac := 0 }
  (s.axF a F.AX_STAT_STATE axGeared).stallRef a

/-- CMD.GEAR_ARM (R282): only in GEARED. -/
def gearArm (a : Nat) (s : State) : State :=
  if s.axSt a != axGeared then s.axErr a 11 else
  let n := s.gf (R.AX_GEAR_SRC a) ⟨0, 5⟩
  let rev := s.on (R.FB_STAT n) F.FB_STAT_DIR
  let at' := s.rdN (R.AX_GEAR_AT a)
  let d := gearDelta rev (s.rdN (R.FB_POS n)) at'
  let s := s.axF a F.AX_STAT_LATE_APPLY 0
  if 0 ≤ d then (s.gearChange a (s.rd (R.AX_GEAR_NEXT a))).axF a F.AX_STAT_LATE_APPLY (b2n (decide (0 < d)))
  else (s.setAx a { s.ax a with arm := some (rev, at', s.rd (R.AX_GEAR_NEXT a)) }).axF a F.AX_STAT_GEAR_ARMED 1

/-- CMD.GEAR_CANCEL (R282). -/
def gearCancel (a : Nat) (s : State) : State := (s.setAx a { s.ax a with arm := none }).axF a F.AX_STAT_GEAR_ARMED 0

/-- CMD.STALL_REARM (R280). -/
def stallRearm (a : Nat) (s : State) : State := s.stallRef a

/-- A write of CTL (R275, R285): DECAY = 3 is reserved and refuses it. -/
def axCtlWrite (a : Nat) (v : Word) (s : State) : State :=
  if F.AX_CTL_DECAY.get v == 3 then s.axErr a 11 else
  let was := s.on (R.AX_CTL a) F.AX_CTL_EN
  let s := s.wr (R.AX_CTL a) (v &&& 0x1f)
  if F.AX_CTL_EN.get v == 0 then (if s.axSt a == axOff then s else s.axGoOff a) else
  let s := s.when (!was) (fun s => s.sf (R.AX_CHOP_STAT a) ⟨0, 16⟩ 0)
  if s.axSt a == axOff then
    (((s.axF a F.AX_STAT_STATE axIdle).axF a F.AX_STAT_HOLD_CUR 1).setAx a { s.ax a with still := 0 }).axTargets a
  else s

end Sys2Proof.Machine
end

