-- ==== Sys2Proof/Machine/ExecAxis.lean ====
section
/-! DEFINITION. The meanings of the commands of this family: the domain each belongs to, the units it names, and its effect. -/

namespace Sys2Proof.Machine

/-- INDEX_EVENT (R261). -/
def execIndexEvent (n : Nat) (level : Bool) (run sub : Nat) (s : State) : Out :=
  onMain (n < 24) s (indexEventCmd n level run sub)

/-- AXIS_TICK (R272). -/
def execAxisTick (a : Nat) (s : State) : Out := onMain (a < 16) s (axisTick a)

/-- CHOP_UPPER_REACHED (R268). -/
def execChopUpperReached (a : Nat) (b : Bool) (cs : Int) (s : State) : Out :=
  onMain (a < 16) s (chopUpperReached a b cs)

/-- CHOP_LOWER_REACHED (R268). -/
def execChopLowerReached (a : Nat) (b : Bool) (cs : Int) (s : State) : Out :=
  onMain (a < 16) s (chopLowerReached a b cs)

/-- CHOP_DRIVE_START (R268). -/
def execChopDriveStart (a : Nat) (b : Bool) (s : State) : Out := onMain (a < 16) s (chopDriveStart a b)

/-- CHOP_BLANK_END (R268). -/
def execChopBlankEnd (a : Nat) (b : Bool) (s : State) : Out := onMain (a < 16) s (chopBlankEnd a b)

/-- HOLD_DELAY_EXPIRY (R267). -/
def execHoldDelayExpiry (a : Nat) (s : State) : Out := onMain (a < 16) s (holdDelayExpiry a)

/-- LIMIT_ASSERT (R278). -/
def execLimitAssert (a : Nat) (hi level : Bool) (run : Nat) (s : State) : Out :=
  onMain (a < 16) s (limitAssert a hi level run)

/-- LIMIT_DEASSERT (R278). -/
def execLimitDeassert (a : Nat) (hi level : Bool) (run : Nat) (s : State) : Out :=
  onMain (a < 16) s (limitDeassert a hi level run)

/-- PUSH (R273). -/
def execPush (a : Nat) (s : State) : Out := onMain (a < 16) s (push a)

/-- AX_STOP_CMD (R275). -/
def execAxStopCmd (a : Nat) (s : State) : Out := onMain (a < 16) s (axStopCmd a)

/-- ESTOP (R275). -/
def execEstop (a : Nat) (s : State) : Out := onMain (a < 16) s (estop a)

/-- HOME (R279). -/
def execHome (a : Nat) (s : State) : Out := onMain (a < 16) s (home a)

/-- CLR_LIM (R278). -/
def execClrLim (a : Nat) (s : State) : Out := onMain (a < 16) s (clrLim a)

/-- AX_SET_POS (R285). -/
def execAxSetPos (a : Nat) (s : State) : Out := onMain (a < 16) s (axSetPos a)

/-- GEAR_ON (R281). -/
def execGearOn (a : Nat) (s : State) : Out := onMain (a < 16) s (gearOn a)

/-- GEAR_ARM (R282). -/
def execGearArm (a : Nat) (s : State) : Out := onMain (a < 16) s (gearArm a)

/-- GEAR_CANCEL (R282). -/
def execGearCancel (a : Nat) (s : State) : Out := onMain (a < 16) s (gearCancel a)

/-- STALL_REARM (R280). -/
def execStallRearm (a : Nat) (s : State) : Out := onMain (a < 16) s (stallRearm a)

/-- AX_GO (R273). -/
def execAxGo (a : Nat) (s : State) : Out := onMain (a < 16) s (axGo a)

/-- AX_STOP (R275). -/
def execAxStop (a : Nat) (s : State) : Out := onMain (a < 16) s (axStop a)

/-- AX_CTL_WRITE (R275). -/
def execAxCtlWrite (a : Nat) (v : Word) (s : State) : Out := onMain (a < 16) s (axCtlWrite a v)

end Sys2Proof.Machine
end

