-- ==== Sys2Proof/Machine/Operands.lean ====
section
/-! DEFINITION. The formats of what the commands carry: little-endian fields, CRC-32C (R70), the SECDED check byte of a
header (R69), packet headers (R68, R73, R75). -/

namespace Sys2Proof.Machine

/-- `n` bytes of a number, little-endian (R4). -/
def leBytes : Nat → Nat → List (BitVec 8)
  | 0, _ => []
  | n + 1, v => BitVec.ofNat 8 v :: leBytes n (v / 256)

/-- A byte list as a little-endian number (R4). -/
def leNat : List (BitVec 8) → Nat
  | [] => 0
  | b :: bs => b.toNat + 256 * leNat bs

/-- `n` bytes of a list at an offset, little-endian; bytes past the end read 0. -/
def leAt (bs : List (BitVec 8)) (off n : Nat) : Nat := leNat ((bs.drop off).take n)

/-- Zero bytes up to a multiple of `k`. -/
def padTo (k : Nat) (bs : List (BitVec 8)) : List (BitVec 8) :=
  bs ++ List.replicate ((k - bs.length % k) % k) 0

/-- One bit of CRC-32C, reflected (R70): the polynomial 0x1EDC_6F41 reversed. -/
def crcBit (c : BitVec 32) : BitVec 32 := if c.getLsbD 0 then (c >>> 1) ^^^ 0x82f63b78 else c >>> 1

/-- One byte of CRC-32C. -/
def crcByte (c : BitVec 32) (b : BitVec 8) : BitVec 32 :=
  crcBit (crcBit (crcBit (crcBit (crcBit (crcBit (crcBit (crcBit (c ^^^ b.zeroExtend 32))))))))

/-- CRC-32C of a byte string (R70). -/
def crc32c (bs : List (BitVec 8)) : BitVec 32 := ~~~ (bs.foldl crcByte 0xffffffff)

/-- The bits set in a byte value. -/
def ones8 (n : Nat) : Nat := ((List.range 8).filter (fun i => n / 2 ^ i % 2 == 1)).length

/-- The check columns h(0) to h(55): the byte values with exactly three bits set, ascending (R69). -/
def eccCols : List Nat := (List.range 256).filter (fun n => ones8 n == 3)

/-- The check byte over 56 data bits (R69). -/
def ecc56 (d : BitVec 56) : BitVec 8 :=
  (eccCols.zipIdx).foldl (fun e c => if d.getLsbD c.2 then e ^^^ BitVec.ofNat 8 c.1 else e) 0

/-- A header whose bits [55:0] are `d`, with its check byte (R68). -/
def withEcc (d : BitVec 56) : BitVec 64 := ecc56 d ++ d

/-- The receiver's check (R69): the header to use and whether it was corrected; none when uncorrectable. -/
def hdrCheck (h : BitVec 64) : Option (BitVec 64 × Bool) :=
  let d := h.extractLsb' 0 56
  let syn := (ecc56 d ^^^ h.extractLsb' 56 8).toNat
  if syn == 0 then some (h, false)
  else if ones8 syn == 1 then some (h, true)
  else if ones8 syn == 3 then
    match eccCols.findIdx? (· == syn) with
    | some j => some (h ^^^ (1#64 <<< j), true)
    | none => none
  else none

/-! Header fields (R68). -/
def hDt (h : BitVec 64) : Nat := (h.extractLsb' 0 6).toNat
def hVc (h : BitVec 64) : Nat := (h.extractLsb' 6 4).toNat
def hFlags (h : BitVec 64) : Nat := (h.extractLsb' 10 6).toNat
def hLen (h : BitVec 64) : Nat := (h.extractLsb' 16 16).toNat
def hSeq (h : BitVec 64) : Nat := (h.extractLsb' 32 16).toNat
def hAux (h : BitVec 64) : Nat := (h.extractLsb' 48 8).toNat

/-- A header from its fields (R68). -/
def mkHdr (dt vc flags len seq aux : Nat) : BitVec 64 :=
  withEcc (BitVec.ofNat 8 aux ++ BitVec.ofNat 16 seq ++ BitVec.ofNat 16 len ++ BitVec.ofNat 6 flags
    ++ BitVec.ofNat 4 vc ++ BitVec.ofNat 6 dt)

/-- What a received packet is to the port that receives it. -/
inductive PktClass where
  | frameStart | frameEnd | lineStart | lineEnd | pixel | ring | ctrlResp | setAck | null
  | hostReq | ctrlWrite | ctrlRead | setTagged | bad
deriving DecidableEq, Repr

/-- Is a data type one of the frame, line and pixel types of a stream (R73)? -/
def isStreamDt (dt : Nat) : Bool := decide (dt ≤ 3) || (decide (0x10 ≤ dt) && decide (dt ≤ 0x14)) || dt == 0x18 || dt == 0x19

/-- The length rule of R73: payload words, by data type, AUX and the counts inside the payload. -/
def lenOk (dt len aux : Nat) (pl : List (BitVec 8)) : Bool :=
  if dt == 0 || dt == 1 || dt == 3 then len == 3
  else if dt == 2 then len == 5
  else if isStreamDt dt || dt == 0x20 then decide (2 ≤ len)
  else if dt == 0x24 then decide (5 ≤ len)
  else if dt == 0x25 then len == 16 * aux && decide (1 ≤ aux)
  else if dt == 0x30 then len == 2 + leAt pl 2 1
  else if dt == 0x31 then len == 2
  else if dt == 0x32 then len == 1 + leAt pl 2 1
  else if dt == 0x33 then len == 2 + 2 * (leAt pl 2 1 % 16)
  else if dt == 0x34 then len == 2
  else dt == 0x3f

/-- The length rule on a header alone, for a packet that an IDLE unit cut short before the counts inside its payload (R65, R96). -/
def lenOkCut (dt len aux : Nat) : Bool :=
  if dt == 0x30 then decide (2 ≤ len)
  else if dt == 0x32 then decide (1 ≤ len)
  else if dt == 0x33 then decide (2 ≤ len)
  else lenOk dt len aux []

/-- The class of a packet at a quad in role `role` (1 CAMERA_IN, 2 CAMERA_OUT) whose stream is on `vc` (R72, R73, R85, R95). -/
def pktClass (role vc : Nat) (h : BitVec 64) (pl : List (BitVec 8)) (cut : Bool) : PktClass :=
  let dt := hDt h
  if dt == 0x3f then .null
  else if !(if cut then lenOkCut dt (hLen h) (hAux h) else lenOk dt (hLen h) (hAux h) pl) then .bad
  else if decide (0x30 ≤ dt) && hVc h != 0 then .bad
  else if role == 2 then
    if dt == 0x30 then .ctrlWrite else if dt == 0x31 then .ctrlRead else if dt == 0x33 then .setTagged else .bad
  else if dt == 0x30 || dt == 0x31 || dt == 0x33 then .hostReq
  else if dt == 0x32 then .ctrlResp
  else if dt == 0x34 then .setAck
  else if dt == 0x19 || dt == 0x20 || dt == 0x24 || dt == 0x25 then .ring
  else if isStreamDt dt then
    if hVc h != vc then .ring
    else if dt == 0 then .frameStart else if dt == 1 then .frameEnd
    else if dt == 2 then .lineStart else if dt == 3 then .lineEnd else .pixel
  else .bad

/-- Element `k` of `b` bits in a little-endian bit string (R75). -/
def bitElem (b : Nat) (n k : Nat) : Nat := n / 2 ^ (k * b) % 2 ^ b

/-- The bits of a raw sample, by data type (R75); 0 for a type that is no raw type. -/
def dtBits (dt : Nat) : Nat :=
  if dt == 0x10 then 8 else if dt == 0x11 then 10 else if dt == 0x12 then 12 else if dt == 0x13 then 14
  else if dt == 0x14 then 16 else if dt == 0x18 then 12 else if dt == 0x19 then 4 else 0

/-- Elements of `b` bits packed into whole bytes of a number of bytes (R75). -/
def packElems (b : Nat) (xs : List Nat) : Nat := xs.foldr (fun x acc => x % 2 ^ b + 2 ^ b * acc) 0

/-- A pixel payload: COL_START, then the elements, padded to whole words (R75). -/
def pixelPayload (b col : Nat) (xs : List Nat) : List (BitVec 8) :=
  leBytes 4 (col % 0x1000000) ++ leBytes (4 * ((xs.length * b + 31) / 32)) (packElems b xs)

end Sys2Proof.Machine
end

