-- ==== Sys2Proof/Machine/PortBase.lean ====
section
/-! DEFINITION. What the front ends and the ports share: port and front-end state, frame distance, rings in memory, and the
hand-over of packets to the stream-out ports (R92). -/

namespace Sys2Proof.Machine

/-! The states of PORT_STAT.PSTATE (R82). -/
def psOff : Nat := 0
def psDown : Nat := 1
def psStriping : Nat := 2
def psDiscover : Nat := 3
def psLinked : Nat := 4
def psRun : Nat := 5
def psFault : Nat := 6

def State.port (s : State) (q : Nat) : PortX := s.ports.get (fun _ => {}) q
def State.setPort (s : State) (q : Nat) (x : PortX) : State := { s with ports := s.ports.set (fun _ => {}) q x }
def State.pst (s : State) (q : Nat) : Nat := s.gf (R.ACT_PORT_STAT q) F.ACT_PORT_STAT_PSTATE
def State.setPst (s : State) (q st : Nat) : State := s.sf (R.ACT_PORT_STAT q) F.ACT_PORT_STAT_PSTATE st
def State.role (s : State) (q : Nat) : Nat := s.gf (R.LANE_QUAD_STAT q) F.LANE_QUAD_STAT_ROLE_NOW
def State.listening (s : State) (q : Nat) : Bool := s.on (R.ACT_PORT_CTL q) F.ACT_PORT_CTL_LISTEN

/-- The signed distance from frame `b` to frame `a`, both 32-bit numbers. -/
def fdiff (a b : Nat) : Int := (BitVec.ofNat 32 a - BitVec.ofNat 32 b).toInt

/-- A tagged setting has ended with a result (R88, R379). -/
def State.tsDone (s : State) (q : Nat) : State :=
  (s.sf (R.ACT_TS_STAT q) F.ACT_TS_STAT_BUSY 0).sf (R.ACT_TS_STAT q) F.ACT_TS_STAT_VALID 1

def State.fe (s : State) (n : Nat) : FeX := s.fes.get (fun _ => {}) n
def State.setFe (s : State) (n : Nat) (x : FeX) : State := { s with fes := s.fes.set (fun _ => {}) n x }

/-- The memory controller's error register in the error record; it fires MFAULT (R307). -/
def siteMc : Site := ⟨10, 0, 0, 1001⟩

/-- An access outside every window, or to memory that does not answer: the error record and DECODE_ERR take it (R26, R391); one
of the reserve sets RES_HIT (R305). -/
def State.decodeErr (s : State) (addr : Nat) : State :=
  let s := s.when (s.resHit addr) (·.raise R.MC_ERR 2 siteMc)
  (s.cnt R.SYS_DECODE_ERR).record ⟨0, 3, 0, 0⟩ 1 addr

/-- What an access of a master that meets no answer leaves (R26, R292): a decode error where its address lies outside every window. -/
def State.missErr (s : State) (addr : Nat) : State :=
  if addr < 0x40000 || inWindow addr || inSram addr then s else s.decodeErr addr

/-- Is an OUT_VC word in range (R93, R98)? -/
def outVcOk (w : Word) : Bool :=
  let k := F.ACT_OUT_VC_KIND.get w
  let i := F.ACT_OUT_VC_INDEX.get w
  if k == 0 || k == 1 || k == 4 then decide (i < 24)
  else if k == 2 || k == 3 then decide (i < 4)
  else if k == 5 then decide (i < 8)
  else k == 6 && i == 0

/-- A source's packet reaches every stream-out port that has its KIND and INDEX enabled and runs (R92). -/
def State.streamOut (s : State) (kind idx : Nat) (p : OutPkt) : State :=
  times 32 (fun q s =>
    if s.role q == 2 && (s.port q).camRun then
      times 4 (fun v s =>
        let w := s.rd (R.ACT_OUT_VC q v)
        if F.ACT_OUT_VC_EN.get w == 1 && outVcOk w && F.ACT_OUT_VC_KIND.get w == kind && F.ACT_OUT_VC_INDEX.get w == idx then
          s.setPort q { s.port q with out := (s.port q).out ++ [(v, p)] }
        else s) s
    else s) s

end Sys2Proof.Machine
end

