-- ==== Sys2Proof/Machine/MemBase.lean ====
section
/-! DEFINITION. One access to memory (R288 to R290, R296, R299, R390): the banks of a DRAM channel, its refreshes, the errors that stand in
words, and reads and writes as the units of the EG9 make them. -/

namespace Sys2Proof.Machine

/-- Error registers in the error record (R307, R426). -/
def siteSys : Site := ⟨0, 0, 0, 1⟩
def siteMch (n : Nat) : Site := ⟨10, 1, n, 979 + 4 * n⟩
def siteMcStat : Site := ⟨10, 2, 0, 1001⟩
def State.mcErr (s : State) (b : Nat) : State := s.raise R.MC_ERR b siteMc
def State.mcChErr (s : State) (n b : Nat) : State := s.raise (R.MC_CH_ERR n) b (siteMch n)
def State.mc (s : State) (n : Nat) : McCh := s.mcs.get (fun _ => {}) n
def State.setMc (s : State) (n : Nat) (x : McCh) : State := { s with mcs := s.mcs.set (fun _ => {}) n x }

/-- The channel states (R303). -/
def csOff : Nat := 0
def csTraining : Nat := 1
def csActive : Nat := 2
def csEvacuating : Nat := 3
def csEvacuated : Nat := 4
def csRefilling : Nat := 5
def csDead : Nat := 6
def csRetired : Nat := 7
def State.cst (s : State) (n : Nat) : Nat := s.gf (R.MC_CH_STAT n) F.MC_CH_STAT_CSTATE
def State.setCst (s : State) (n st : Nat) : State := s.sf (R.MC_CH_STAT n) F.MC_CH_STAT_CSTATE st
def State.debt (s : State) (n : Nat) : Nat := s.gf (R.MC_CH_STAT n) F.MC_CH_STAT_DEBT
def State.setDebt (s : State) (n d : Nat) : State := s.sf (R.MC_CH_STAT n) F.MC_CH_STAT_DEBT d
def State.hot (s : State) (n : Nat) : Bool := s.on (R.MC_CH_STAT n) F.MC_CH_STAT_HOT

/-- A channel's banks close and its disturbance tables are emptied. -/
def State.emptyBanks (s : State) (n : Nat) : State := s.setMc n { s.mc n with banks := [], owed := [] }

/-- A channel enters TRAINING; a staged correction of its PHY is discarded (R421). -/
def State.startTraining (s : State) (n : Nat) (insvc : Bool) : State :=
  let s := (s.setCst n csTraining).sf (R.MC_CH_STAT n) F.MC_CH_STAT_INSVC (b2n insvc)
  let s := (s.sf (R.MC_TRAIN_STAT n) F.MC_TRAIN_STAT_BUSY 1).sf (R.MC_TRAIN_STAT n) F.MC_TRAIN_STAT_VALID 0
  ((s.setDebt n 0).emptyBanks n).calDiscard (4 + n / 3) (n % 3)

/-! Banks, activates and the disturbance tables (R288, R299). -/

def State.bank (s : State) (n b : Nat) : McBank := (s.mc n).banks.get (fun _ => {}) b
def State.setBank (s : State) (n b : Nat) (x : McBank) : State :=
  s.setMc n { s.mc n with banks := SMap.set (fun _ => {}) (s.mc n).banks b x }

/-- The least count of a table. -/
def leastCount (t : List DistRow) : Nat := (t.map (·.count)).foldl min ((t.headD ⟨0, 0⟩).count)

/-- An activate of row `x` is counted (R299). -/
def distCount (t : List DistRow) (x : Nat) : List DistRow :=
  match t.findIdx? (fun e => e.row == x) with
  | some i => t.modify i (fun e => { e with count := e.count + 1 })
  | none =>
    if t.length < 64 then t ++ [⟨x, 1⟩] else
    let m := leastCount t
    match t.findIdx? (fun e => e.count == m) with
    | some i => t.set i ⟨x, m + 1⟩
    | none => t

/-- A row is activated: ACTS, the open row, and a neighbour refresh owed when its count reaches DIST_THR. -/
def State.activate (s : State) (n b x : Nat) : State :=
  let k := s.bank n b
  let t := distCount k.table x
  let over' := match t.find? (fun e => e.row == x) with | some e => decide (s.rdN (R.MC_DIST_THR n) ≤ e.count) | none => false
  let t := if over' then t.map (fun e => if e.row == x then { e with count := leastCount t } else e) else t
  let s := (s.setBank n b { row := some x, at' := s.cyc, table := t }).cnt (R.MC_ACTS n)
  if over' then s.setMc n { s.mc n with owed := (s.mc n).owed ++ [(b, x)] } else s

/-- Bank and row of a channel byte offset (R288). -/
def bankOf (a : Nat) : Nat := a / 1024 % 16
def rowOf (a : Nat) : Nat := a / 16384

/-- Channel and byte offset of the place where an address stands (R291, R305). -/
def State.chanAddr (s : State) (a : Nat) : Nat × Nat :=
  let l := s.loc a
  let p := place s.mcTable (granuleOf l)
  (p.1, p.2 * 4096 + l % 4096)

/-- The neighbours of row `x` that exist in a bank (R286, R299). -/
def State.neighbours (s : State) (x : Nat) : List Nat :=
  ([x + 1, x + 2].filter (fun r => decide (r < 16384 * 2 ^ s.mcDensity))) ++ (if 1 ≤ x then [x - 1] else []) ++ (if 2 ≤ x then [x - 2] else [])

/-- One neighbour refresh that is owed (R299): each neighbour is activated and precharged, so the bank is closed. -/
def State.nref (s : State) (n : Nat) (w : Nat × Nat) : State :=
  let s := s.setMc n { s.mc n with owed := (s.mc n).owed.erase w }
  ((s.setBank n w.1 { s.bank n w.1 with row := none }).emit (.rowRefresh n w.1 (s.neighbours w.2))).cnt (R.MC_NREF n)

/-! Refresh (R297). -/

/-- Does the channel refresh in its state? -/
def State.refreshes (s : State) (n : Nat) : Bool := decide (csActive ≤ s.cst n) && decide (s.cst n ≤ csRefilling)

/-- The postponement limit. -/
def State.debtLimit (s : State) (n : Nat) : Nat := if s.hot n then 4 else 8

/-- One all-bank refresh of a channel that owes one (R297, R302, R304). -/
def State.refreshOne (s : State) (n : Nat) : State :=
  if s.debt n == 0 || !s.refreshes n then s else
  let s := (s.setDebt n (s.debt n - 1)).cnt (R.MC_REFRESHES n)
  let x := s.mc n
  let s := s.setMc n { x with banks := x.banks.map (fun e => (e.1, { e.2 with row := none })) |>.filter (fun e => e.2 != {}) }
  let s := s.calApply (4 + n / 3) (n % 3)
  if x.trainPend && s.debt n == 0 then (s.setMc n { s.mc n with trainPend := false }).startTraining n true else s

/-- The command of class 1 that a channel must issue before any request (R296): a forced refresh, or a neighbour refresh. -/
def State.slotOne (s : State) (n : Nat) : Option State :=
  if decide (s.debtLimit n ≤ s.debt n) && s.refreshes n then some (s.refreshOne n)
  else (s.mc n).owed.head?.map (s.nref n)

/-- An access that is served at once finds its row open or opens it, after every command of class 1 (R288, R296, R299). Answers whether
the row was open. -/
def State.touchRow (s : State) (n off : Nat) : State × Bool :=
  let s := times ((s.mc n).owed.length + 1) (fun _ s => (s.slotOne n).getD s) s
  let b := bankOf off
  if (s.bank n b).row == some (rowOf off) then (s.setBank n b { s.bank n b with at' := s.cyc }, true)
  else (s.activate n b (rowOf off), false)

/-! Errors that stand in words of memory (R289, R390): by the place of an 8-byte word, 1 for a single-bit error, 2 for a double-bit
error. -/

def State.wordErr (s : State) (p : Nat) : Nat := s.memErr.get (fun _ => 0) p
def State.setWordErr (s : State) (p e : Nat) : State := { s with memErr := SMap.set (fun _ => 0) s.memErr p e }

/-- The word at a place holds 64 free bits. -/
def State.freeWord (s : State) (p : Nat) : State :=
  { (times 8 (fun i t => t.setRaw (8 * p + i) ((s.freeBytes 8).getD i 0)) s) with freeIx := s.freeIx + 8 }

/-- The word that holds the byte at `a` gets an error; a double-bit error leaves 64 bits that the spec does not give. -/
def State.upset (s : State) (a e : Nat) : State :=
  let p := s.loc a / 8
  if e == 0 || decide (e ≤ s.wordErr p) then s else (s.when (e != 1) (·.freeWord p)).setWordErr p (min e 2)

/-- The places of the words that `n` bytes from `a` on touch. -/
def State.wordsAt (s : State) (a n : Nat) : List Nat := (List.range ((a % 8 + n + 7) / 8)).map (fun i => s.loc (a / 8 * 8 + 8 * i) / 8)

/-- The words that are written anew hold no error. -/
def State.clearErrs (s : State) (ps : List Nat) : State := ps.foldl (fun s p => s.setWordErr p 0) s

/-- The spans of `n` bytes from `a` on that are cut at the multiples of `u`: address and length. -/
def spans (u a n : Nat) : List (Nat × Nat) :=
  if n == 0 then [] else
  (List.range ((a % u + n + u - 1) / u)).map (fun i =>
    let lo := max a ((a / u + i) * u)
    (lo, min (a + n) ((a / u + i + 1) * u) - lo))

/-- Does a write of these bytes cover part of an 8-byte word (R290)? -/
def partialWord (a n : Nat) : Bool := a % 8 != 0 || n % 8 != 0

/-- The words of a read in which ECC corrects an error (R289): they are written back where CE_WB says so. -/
def State.dramCe (s : State) (n : Nat) (ws : List Nat) : State :=
  if ws.isEmpty then s else
  let s := ((s.cntN (R.MC_CE n) ws.length).mcChErr n 0).fire (978 + 4 * n)
  if s.on R.MC_CTL F.MC_CTL_CE_WB then (s.cnt (R.MC_WRITES n)).clearErrs ws else s

/-- What ECC makes of a read of the block at `a` by channel `n` (R289): the state, and whether the read ends in an error response. -/
def State.dramEcc (s : State) (n a : Nat) : State × Bool :=
  let ps := s.wordsAt (a / 64 * 64) 64
  let two := ps.findIdx? (fun p => s.wordErr p == 2)
  let s := s.dramCe n (ps.filter (fun p => s.wordErr p == 1))
  match two with
  | some i =>
    let at' := a / 64 * 64 + 8 * i
    let s := (s.cnt (R.MC_UE n)).wr64 (R.MC_ERR_ADDR_LO n) (R.MC_ERR_ADDR_HI n) (BitVec.ofNat 64 at')
    ((s.raiseAt (R.MC_CH_ERR n) 1 (siteMch n) at').fire (978 + 4 * n), true)
  | none => (s, false)

/-- The data of a request's read has come (R289, R290): a read is answered with the data as read; a read-modify-write writes its block, or is abandoned. -/
def State.finishReq (s : State) (n : Nat) (r : McReq) : State :=
  let x := s.dramEcc n r.addr
  if !r.rmw then x.1.emit (.memResp r.tag x.2 (x.1.rdBytes r.addr r.len))
  else if x.2 then x.1.emit (.memResp r.tag true [])
  else ((x.1.wrBytes r.addr r.data).clearErrs (x.1.wordsAt (r.addr / 64 * 64) 64)).emit (.memResp r.tag false [])

/-- A write of whole words (R290). -/
def State.writeReq (s : State) (n : Nat) (r : McReq) : State :=
  (((s.cnt (R.MC_WRITES n)).wrBytes r.addr r.data).clearErrs (s.wordsAt r.addr r.len)).emit (.memResp r.tag false [])

/-- A request is served whole. -/
def State.serveReq (s : State) (n : Nat) (r : McReq) : State :=
  let x := s.touchRow n (s.chanAddr r.addr).2
  let s := x.1.when (x.2 && !r.acted) (·.cnt (R.MC_ROW_HITS n))
  if r.wr && !r.rmw then s.writeReq n r else (s.cnt (if r.rmw then R.MC_RMW n else R.MC_READS n)).finishReq n r

/-- Requests to the block of `a` that came earlier are served first, in their order (R290, R296). -/
def State.settle (s : State) (n a : Nat) : State :=
  let same (r : McReq) : Bool := r.addr / 64 == a / 64
  let x := s.mc n
  let s := s.setMc n { x with flight := x.flight.filter (fun r => !same r), q := x.q.filter (fun r => !same r) }
  (x.q.filter same).foldl (fun s r => s.serveReq n r) ((x.flight.filter same).foldl (fun s r => s.finishReq n r) s)

/-- The channel serves an access of a unit to the block at `a`. -/
def State.openBlock (s : State) (a : Nat) : State :=
  let n := (s.chanAddr a).1
  let x := (s.settle n a).touchRow n (s.chanAddr a).2
  x.1.when x.2 (·.cnt (R.MC_ROW_HITS n))

/-! System SRAM (R390). -/

/-- A corrected error: the word is written back corrected. -/
def State.sramCe (s : State) : State := (s.cnt R.SYS_SRAM_CE).fire 2

/-- A double-bit error at an address. -/
def State.sramUe (s : State) (a : Nat) : State :=
  let s := (s.cnt R.SYS_SRAM_UE).wr64 R.SYS_SRAM_ERR_LO R.SYS_SRAM_ERR_HI (BitVec.ofNat 64 a)
  (s.raiseAt R.SYS_SYS_ERR 0 siteSys a).fire 2

/-- What SECDED makes of a read of the word at `a`: the state, and an error response or not. -/
def State.sramEcc (s : State) (a : Nat) : State × Bool :=
  let e := s.wordErr (a / 8)
  if e == 1 then (s.sramCe.setWordErr (a / 8) 0, false) else if e == 2 then (s.sramUe (a / 8 * 8), true) else (s, false)

/-! Accesses of the units. -/

/-- A read of one piece: of a DRAM block or of an SRAM word. -/
def State.readPiece (s : State) (a : Nat) : State × Bool :=
  if inSram a then s.sramEcc a else
  let s := s.openBlock a
  let n := (s.chanAddr a).1
  (s.cnt (R.MC_READS n)).dramEcc n a

/-- A write of one piece. -/
def State.putPiece (s : State) (a : Nat) (bs : List (BitVec 8)) : State × Bool :=
  if inSram a then
    let x := if partialWord a bs.length then s.sramEcc a else (s, false)
    if x.2 then x else ((x.1.wrBytes a bs).setWordErr (a / 8) 0, false)
  else
  let s := s.openBlock a
  let n := (s.chanAddr a).1
  if partialWord a bs.length then
    let x := (s.cnt (R.MC_RMW n)).dramEcc n a
    if x.2 then x else ((x.1.wrBytes a bs).clearErrs (x.1.wordsAt (a / 64 * 64) 64), false)
  else (((s.cnt (R.MC_WRITES n)).wrBytes a bs).clearErrs (s.wordsAt a bs.length), false)

/-- The piece size of the memory that holds an address. -/
def pieceSize (a : Nat) : Nat := if inSram a then 8 else 64

/-- A unit reads `n` bytes of memory from `a` on: what the read leaves behind, and whether it ends in an error response. The data are
`rdBytes`. -/
def State.memRead (s : State) (a n : Nat) : State × Bool :=
  (spans (pieceSize a) a n).foldl (fun x p => let y := x.1.readPiece p.1; (y.1, x.2 || y.2)) (s, false)

/-- A unit writes bytes to memory. -/
def State.memPut (s : State) (a : Nat) (bs : List (BitVec 8)) : State × Bool :=
  (spans (pieceSize a) a bs.length).foldl (fun x p =>
    let y := x.1.putPiece p.1 ((bs.drop (p.1 - a)).take p.2)
    (y.1, x.2 || y.2)) (s, false)

/-- Does a read meet a double-bit error? -/
def State.badRead (s : State) (a n : Nat) : Bool :=
  (spans (pieceSize a) a n).any (fun p =>
    (if inSram a then s.wordsAt p.1 1 else s.wordsAt (p.1 / 64 * 64) 64).any (fun w => s.wordErr w == 2))

/-- Bytes into a ring of `size` bytes at `base`, from offset `off` on, wrapping at its end. -/
def State.ringPut (s : State) (base size off : Nat) (bs : List (BitVec 8)) : State × Bool :=
  let o := off % size
  let k := size - o
  let x := s.memPut (base + o) (bs.take k)
  let y := x.1.memPut base (bs.drop k)
  (y.1, x.2 || y.2)

/-- A unit's read of a range: one that memory does not answer leaves a decode error (R26, R292). -/
def State.unitRead (s : State) (a n : Nat) : State × Bool :=
  if n == 0 then (s, false) else if s.memOk a n then s.memRead a n else (s.missErr a, true)

end Sys2Proof.Machine
end

