-- ==== Sys2Proof/Machine/FrontEnd.lean ====
section
/-! DEFINITION. Line front ends: assembly of lines and frames (R100 to R107), site correction (R108 to R110), colour
reconstruction (R111 to R117), parameter banks (R118, R119) and statistics (R120 to R122). -/

namespace Sys2Proof.Machine

/-! Bits of LINE_FLAGS (R106). -/
def lfShort : Nat := 0
def lfOverrun : Nat := 1
def lfGap : Nat := 2
def lfLong : Nat := 3
def lfCrcBad : Nat := 4
def lfLate : Nat := 5
def lfNoEnd : Nat := 6
def lfSensorFault : Nat := 7
def lfIdGuess : Nat := 8
def lfWindowGap : Nat := 9
def lfBacklog : Nat := 10
def lfDtMismatch : Nat := 11

/-- Is bit `i` of a flag word set? -/
def flag (w i : Nat) : Bool := w / 2 ^ i % 2 == 1

/-- A flag word with bit `i` set. -/
def setFlag (w i : Nat) : Nat := if flag w i then w else w + 2 ^ i

/-- Bit `i` set under a condition. -/
def setFlagIf (c : Bool) (w i : Nat) : Nat := if c then setFlag w i else w

/-- Is a line padded (R106)? -/
def isPadded (w : Nat) : Bool :=
  flag w lfShort || flag w lfOverrun || flag w lfGap || flag w lfLate || flag w lfNoEnd || flag w lfBacklog
    || flag w lfDtMismatch

/-- The front end's error register in the error record; it fires FAULT (R123). -/
def siteFe (n : Nat) : Site := ⟨14, 0, n, 291 + 4 * n⟩
def State.feErr (s : State) (n b : Nat) : State := s.raise (R.FE_FE_ERR n) b (siteFe n)
def State.aState (s : State) (n : Nat) : Nat := s.gf (R.FE_FE_STAT n) F.FE_FE_STAT_ASTATE
def State.feF (s : State) (n : Nat) (f : Fld) (v : Nat) : State := s.sf (R.FE_FE_STAT n) f v

/-! Fields of the configuration in force. -/
def FeCfg.linePx (c : FeCfg) : Nat := F.FE_GEOM_LINE_PX.get c.geom
def FeCfg.frameLines (c : FeCfg) : Nat := F.FE_GEOM_FRAME_LINES.get c.geom
def FeCfg.mosLines (c : FeCfg) : Nat := F.FE_FORMAT_MOS_LINES.get c.format
def FeCfg.mosCols (c : FeCfg) : Nat := F.FE_FORMAT_MOS_COLS.get c.format
def FeCfg.depth (c : FeCfg) : Nat := 8 + 2 * F.FE_FORMAT_DEPTH.get c.format
def FeCfg.planes (c : FeCfg) : Nat := F.FE_FORMAT_OUT_PLANES.get c.format
/-- The line phase of a line number (R108, R111). -/
def FeCfg.phase (c : FeCfg) (lineNo : Nat) : Nat := (lineNo + F.FE_FORMAT_LINE_PHASE.get c.format) % c.mosLines
/-- The kind of the site at line phase `r`, column `col` (R111). -/
def FeCfg.kind (c : FeCfg) (r col : Nat) : Nat :=
  let j := (col + F.FE_FORMAT_COL_PHASE.get c.format) % c.mosCols
  (⟨3 * j, 3⟩ : Fld).get (c.mos.getD r 0)
/-- Does a kind occur in the descriptor (R111)? -/
def FeCfg.present (c : FeCfg) (k : Nat) : Bool :=
  (List.range c.mosLines).any (fun r => (List.range c.mosCols).any (fun j => (⟨3 * j, 3⟩ : Fld).get (c.mos.getD r 0) == k))

/-- The configuration that the registers hold. -/
def State.feCfgRegs (s : State) (n : Nat) : FeCfg :=
  ⟨s.rd (R.FE_GEOM n), s.rd (R.FE_FORMAT n), (List.range 4).map (fun r => s.rd (R.FE_MOSAIC_ROW n r))⟩

/-- The conditions of R101 on FORMAT, GEOM and the mosaic. -/
def FeCfg.ok (c : FeCfg) : Bool :=
  decide (1 ≤ c.mosLines) && decide (c.mosLines ≤ 4) && decide (1 ≤ c.mosCols) && decide (c.mosCols ≤ 8)
    && (List.range c.mosLines).all (fun r => (List.range c.mosCols).all
        (fun j => decide ((⟨3 * j, 3⟩ : Fld).get (c.mos.getD r 0) < 6)))
    && decide (2 * c.mosCols ≤ c.linePx) && decide (c.linePx ≤ 16384)
    && decide (64 ≤ c.frameLines) && decide (c.frameLines ≤ 4096) && c.frameLines % c.mosLines == 0
    && decide (1 ≤ c.planes) && decide (c.planes ≤ 4)

/-- The bank values that a line takes at its LINE_START (R110, R118). -/
def State.feBank (s : State) (n b : Nat) : FeBank where
  darkScale := s.rdN (R.FE_DARK_SCALE n b)
  black := (List.range 6).map (fun k => signed 16 (s.rdN (R.FE_BLACK n b k)))
  gain := (List.range 6).map (fun k => s.rdN (R.FE_GAIN n b k))
  xt := ((List.range 4).map (fun p => (List.range 6).map (fun k =>
    let w := s.rdN (R.FE_XT n b p (k / 2))
    signed 16 (if k % 2 = 0 then w % 0x10000 else w / 0x10000)))).flatten
  offs := (List.range 4).map (fun p => signed 16 (s.rdN (R.FE_OFFS n b p)))
  pad := (List.range 4).map (fun p => s.rdN (R.FE_PAD_VAL n p))

/-- Site correction of a raw sample of depth `d` by table entry `e`, kind `k` (R108). -/
def siteCorrect (d s : Nat) (e : Word) (b : FeBank) (k : Nat) : Nat :=
  let s14 : Int := (s * 2 ^ (14 - d) : Nat)
  let dark : Int := (e.toNat / 0x10000 : Nat)
  let flat : Int := (e.toNat % 0x10000 : Nat)
  let dk := (dark * b.darkScale + 2048) / 4096
  let x := s14 * 4 - dk - b.black.getD k 0 * 4
  (sat ((x * flat * (b.gain.getD k 0 : Nat) + 134217728) / 268435456) 0 16383).toNat

/-- An open line is closed (R102): the sites of its samples are corrected, GAP is added where columns hold no sample for another reason
than the line's other flags give (R106), and the line waits for its window. SHORT, LATE and NO_END account for the columns behind the last
one received, OVERRUN for those from `limit` on, BACKLOG and DT_MISMATCH for the columns that they discarded. -/
def State.feCloseLine (s : State) (n : Nat) (add : List Nat) (limit : Option Nat) : State :=
  let x := s.fe n
  match x.line with
  | none => s
  | some l =>
    let c := x.cfg
    let samples : List (Nat × Nat) := match limit with
      | some m => l.samples.filter (fun e => decide (e.1 < m))
      | none => l.samples
    let flags := add.foldl setFlag l.flags
    let full := min c.linePx (limit.getD c.linePx)
    let full := if flag flags lfShort || flag flags lfLate || flag flags lfNoEnd then min full l.next else full
    let gone := l.gone.eraseDups.filter (fun c => decide (c < full) && !samples.any (fun e => e.1 == c))
    let have' := (samples.filter (fun e => decide (e.1 < full))).length
    let flags := setFlagIf (decide (have' + gone.length < full)) flags lfGap
    let r := c.phase l.lineNo
    let sites := samples.map (fun e =>
      let ent := if l.bypass then 0x4000 else l.tab.get (fun _ => 0x4000) (r * 16384 + e.1)
      (e.1, siteCorrect c.depth e.2 ent l.bank (c.kind r e.1)))
    let satRaw := (samples.filter (fun e => e.2 == 2 ^ c.depth - 1)).length
    let f : FeLine := ⟨x.fo, x.ep, x.base + l.lineNo, l.frameNo, l.lineNo, l.time, flags, c,
      s.gf (R.FE_FE_STAT n) F.FE_FE_STAT_BANK_NOW, l.bank, sites, satRaw, if x.waited then some x.opened else none⟩
    let s := s.setFe n { x with line := none, hist := (x.hist ++ [f]).drop (x.hist.length - 15), done := x.done ++ [f] }
    s.feF n F.FE_FE_STAT_ASTATE 1

/-- The statistics of the frame with ordinal `fo` change. -/
def State.feStatMod (s : State) (n fo : Nat) (f : FeStat → FeStat) : State :=
  let x := s.fe n
  s.setFe n { x with stats := x.stats.map (fun t => if t.fo = fo then f t else t) }

/-- An open frame is closed (R102): its open line with NO_END, then its record waits for its last line. -/
def State.feCloseFrame (s : State) (n : Nat) (rec : List Nat) : State :=
  if s.aState n == 0 then s else
  let s := s.feCloseLine n [lfNoEnd] none
  let s := s.feStatMod n (s.fe n).fo (fun t => { t with closed := true, flags := rec.foldl setFlag t.flags })
  let s := s.feF n F.FE_FE_STAT_ASTATE 0
  s.streamOut 0 n ⟨0x01, 0, 0, leBytes 4 (s.fe n).prevFrame ++ leBytes 2 (s.fe n).expect ++ leBytes 6 0⟩

/-- The lines that closed lines still await count as missing, and so do those that a line closed later awaits, until the next LINE_START
(R112, R113). -/
def FeX.noMore (x : FeX) : FeX :=
  { x with waited := true, done := x.done.map (fun l => if l.cut.isNone && l.ep == x.ep then { l with cut := some x.opened } else l) }

/-- The port left RUN (R102, R112): the frame closes with CLOSED_EARLY, awaited lines count as missing, and the next frame is a
first one. -/
def State.feLinkLost (s : State) (n : Nat) : State :=
  let s := s.feCloseFrame n [4]
  s.setFe n { (s.fe n).noMore with first := true, firstLine := true }

/-- Markers at the head of a front end's input act at once: SHORT on the open line (R89, R102), and the loss of the port. -/
def State.feSettle (s : State) (n : Nat) : Nat → State
  | 0 => s
  | k + 1 =>
    let q := s.feIn.get (fun _ => []) n
    match q with
    | .short :: r =>
      let s := { s with feIn := s.feIn.set (fun _ => []) n r }
      let x := s.fe n
      (s.setFe n { x with line := x.line.map (fun l => { l with flags := setFlag l.flags lfShort }) }).feSettle n k
    | .linkLost :: r => ({ s with feIn := s.feIn.set (fun _ => []) n r }).feLinkLost n |>.feSettle n k
    | _ => s

/-- The front ends that take their stream from quad `q` (R100). -/
def State.fesOf (s : State) (q : Nat) : List Nat := (List.range 24).filter (fun n => (s.fe n).quad == some q)

/-- The front end that holds quad `q`, if one does: at most one of them has EN = 1 (R15, R101). -/
def State.feOf (s : State) (q : Nat) : Option Nat :=
  match (s.fesOf q).find? (fun n => s.on (R.FE_FE_CTL n) F.FE_FE_CTL_EN) with
  | some n => some n
  | none => (s.fesOf q).head?

/-- An item of port `q` reaches the front ends that take it; without one it goes nowhere. -/
def State.toFe (s : State) (q : Nat) (i : FeItem) : State :=
  (s.fesOf q).foldl (fun s n =>
    let l := s.feIn.get (fun _ => []) n ++ [i]
    ({ s with feIn := s.feIn.set (fun _ => []) n l }).feSettle n l.length) s

/-- Takes the item at the head of a front end's input off; markers behind it act once it has acted. -/
def State.fePop (s : State) (n : Nat) : Option (FeItem × State) :=
  match s.feIn.get (fun _ => []) n with
  | [] => none
  | i :: r => some (i, { s with feIn := s.feIn.set (fun _ => []) n r })

/-- Markers that have come to the head act. -/
def State.feAfter (s : State) (n : Nat) : State := s.feSettle n ((s.feIn.get (fun _ => []) n).length + 1)

/-- FE_STAT.PENDING and the PEND_FRAME registers show the pending switches, earliest first (R119). -/
def State.fePend (s : State) (n : Nat) : State :=
  let x := s.fe n
  let next := (s.rdN (R.FE_FE_STAT_FRAME n) + 1) % 0x100000000
  let tag := match x.swTag with | some t => [t] | none => if x.swTagNext.isSome then [next] else []
  let soft := if x.swSoft then [next] else []
  let ps := soft ++ tag
  let s := s.feF n F.FE_FE_STAT_PENDING ps.length
  (s.wrN (R.FE_PEND_FRAME n 0) (ps.getD 0 0)).wrN (R.FE_PEND_FRAME n 1) (ps.getD 1 0)

/-- Does another front end with EN = 1 hold the quad (R101)? -/
def State.quadHeld (s : State) (n q : Nat) : Bool :=
  (List.range 24).any (fun m => m != n && s.on (R.FE_FE_CTL m) F.FE_FE_CTL_EN && (s.fe m).quad == some q)

/-- FE_CMD.APPLY (R101). -/
def feApply (n : Nat) (s : State) : State :=
  let c := s.feCfgRegs n
  let q := s.gf (R.FE_SRC n) F.FE_SRC_QUAD
  if !c.ok || s.quadHeld n q then s.feErr n 0 else
  let x := s.fe n
  let s := s.feF n F.FE_FE_STAT_APPLY_PENDING 1
  if x.quad == some q then s.setFe n { x with wait := some c }
  else
    let s := s.feCloseFrame n [4]
    let s := { s with feIn := s.feIn.set (fun _ => []) n [] }
    let x := (s.fe n).noMore
    s.setFe n { x with wait := some c, quad := some q, first := true, firstLine := true, swTagNext := x.swTagNext.map (fun _ => 0) }

/-- FE_CMD.SWITCH_NEXT (R118): refused while a setting is outstanding or a switch is pending. -/
def feSwitchNext (n : Nat) (s : State) : State :=
  let x := s.fe n
  let busy := match x.quad with
    | some q => s.on (R.ACT_TS_STAT q) F.ACT_TS_STAT_BUSY
    | none => false
  if busy || x.swSoft || x.swTag.isSome || x.swTagNext.isSome then s.feErr n 9
  else (s.setFe n { x with swSoft := true }).fePend n

/-- FE_CMD.TAB_INIT starts the fill; a repeated one merges (R109). -/
def tabInit (n : Nat) (s : State) : State :=
  let s := s.setFe n { s.fe n with initDone := false }
  (s.sf (R.FE_FE_CMD n) F.FE_FE_CMD_TAB_INIT 1).feF n F.FE_FE_STAT_TAB_READY 0

/-- The fill ends: every entry holds 0x0000_4000 and TAB_READY reads 1 (R109). -/
def tabInitDone (n : Nat) (s : State) : State :=
  if (s.fe n).initDone then s else
  let s := s.setFe n { s.fe n with initDone := true, tab := [] }
  (s.sf (R.FE_FE_CMD n) F.FE_FE_CMD_TAB_INIT 0).feF n F.FE_FE_STAT_TAB_READY 1

/-- A write to TAB_DATA stores the entry at TAB_ADDR and steps TAB_ADDR; during TAB_INIT it is ignored with CFG_ERR (R109). The
frame at hand carries TAB_WRITTEN (R110). -/
def tabDataWrite (n : Nat) (v : Word) (s : State) : State :=
  let x := s.fe n
  if !x.initDone then s.feErr n 0 else
  let a := s.gf (R.FE_TAB_ADDR n) ⟨0, 16⟩
  let s := s.setFe n { x with tab := x.tab.set (fun _ => 0x4000) a v }
  let s := s.wrN (R.FE_TAB_ADDR n) ((a + 1) % 65536)
  s.when (s.aState n != 0) (fun s => s.feStatMod n x.fo (fun t => { t with flags := setFlag t.flags 2 }))

/-- A write to FE_CTL (R100): EN = 0 acts at once; EN = 1 at the next FRAME_START. No two front ends take one quad (R15): where another one
with EN = 1 holds the quad, EN stays 0 and CFG_ERR is set, as at an APPLY (DESIGN CHOICE, log entry 31). -/
def feCtlWrite (n : Nat) (v : Word) (s : State) : State :=
  let held := match (s.fe n).quad with | some q => s.quadHeld n q | none => false
  if F.FE_FE_CTL_EN.get v == 1 && held then (s.wr (R.FE_FE_CTL n) (F.FE_FE_CTL_EN.put (v &&& 7) 0)).feErr n 0 else
  let s := s.wr (R.FE_FE_CTL n) (v &&& 7)
  if F.FE_FE_CTL_EN.get v == 0 then
    let s := s.feCloseFrame n [4]
    let s := s.setFe n { (s.fe n).noMore with first := true }
    s.feF n F.FE_FE_STAT_RUNNING 0
  else s

/-- Does a pending tagged switch take effect at FRAME_NO `f` (R88, R118)? -/
def tagDue (x : FeX) (f : Nat) : Bool :=
  x.swTagNext == some 0 || (match x.swTag with | some t => decide (0 ≤ fdiff f t) | none => false)

/-- FE_FRAME_START (R102, R107, R112, R118, R120): the front end opens a frame. -/
def feFrameStart (n : Nat) (s : State) : State :=
  match s.fePop n with
  | some (.frameStart fno lines sid px ok, t) =>
    if !t.on (R.FE_FE_CTL n) F.FE_FE_CTL_EN then
      (t.setFe n { t.fe n with swTagNext := (t.fe n).swTagNext.map (· - 1) }).feAfter n else
    let s := if t.aState n != 0 then (t.feCloseFrame n [3]).feErr n 12 else t
    let s := s.feF n F.FE_FE_STAT_RUNNING 1
    let x := s.fe n
    let applied := x.wait.isSome
    let x := { x with cfg := x.wait.getD x.cfg, wait := none, first := x.first || applied }
    let s := (s.setFe n x).feF n F.FE_FE_STAT_APPLY_PENDING 0
    let f := if ok || x.first then fno else (x.prevFrame + 1) % 0x100000000
    let s := s.when (!ok) (·.feErr n 3)
    let jump := !x.first && f != (x.prevFrame + 1) % 0x100000000
    let s := s.when jump (fun s => (s.cnt (R.FE_FRAME_JUMPS n)).feErr n 2)
    let geomBad := ok && (lines != x.cfg.frameLines || px != x.cfg.linePx)
    let s := s.when geomBad (·.feErr n 1)
    let fresh := x.first || jump
    let td := tagDue x f
    let sw := td || x.swSoft
    let s := s.when sw (fun s =>
      let s := s.feF n F.FE_FE_STAT_BANK_NOW (1 - s.gf (R.FE_FE_STAT n) F.FE_FE_STAT_BANK_NOW)
      let s := s.cnt (R.FE_BANK_SWITCHES n)
      let s := s.when (td && x.swSoft) (·.feErr n 10)
      (s.fire (290 + 4 * n)).when td (fun s => match x.quad with | some q => s.tsDone q | none => s))
    let flags := setFlagIf (!ok) (setFlagIf geomBad (setFlagIf sw
      (s.gf (R.FE_FE_STAT n) F.FE_FE_STAT_BANK_NOW) 1) 5) 6
    let st : FeStat := { fo := x.fo + 1, keep := s.on (R.FE_FE_CTL n) F.FE_FE_CTL_STAT_EN, frameNo := f, settingId := sid,
                         flags := flags, cfg := x.cfg }
    let s := s.setFe n { x with
      first := false, prevFrame := f, expect := 0, fo := x.fo + 1, swSoft := false
      swTag := if td then none else x.swTag, swTagNext := if td then none else x.swTagNext.map (· - 1)
      ep := if fresh then x.ep + 1 else x.ep
      base := if fresh then 0 else x.base + x.cfg.frameLines
      opened := if fresh then 0 else x.opened
      waited := if fresh then false else x.waited
      stats := x.stats ++ [st] }
    let s := s.wrN (R.FE_FE_STAT_FRAME n) f
    let s := (s.fePend n).cnt (R.FE_FRAMES n)
    let s := s.feF n F.FE_FE_STAT_ASTATE 1
    let s := s.streamOut 0 n ⟨0x00, 0, 0, leBytes 4 f ++ leBytes 2 lines ++ leBytes 2 sid ++ leBytes 4 px⟩
    (s.fire (288 + 4 * n)).feAfter n
  | _ => s

/-- FE_LINE_START (R102, R103, R110). A LINE_START that comes while EN is not in force counts nothing, and TAB_BYPASS is taken here with
the table and the bank (DESIGN CHOICE, log entry 31). -/
def feLineStart (n : Nat) (s : State) : State :=
  match s.fePop n with
  | some (.lineStart fno lno time ok, s) =>
    if !s.on (R.FE_FE_STAT n) F.FE_FE_STAT_RUNNING then s.feAfter n else
    let s := s.cnt (R.FE_LINES_IN n)
    if s.aState n == 0 then ((s.cnt (R.FE_LINES_DROPPED n)).feErr n 4).feAfter n else
    let s := s.feCloseLine n [lfNoEnd] none
    let x := s.fe n
    let fl := x.cfg.frameLines
    let refuse := if ok then fno != x.prevFrame || decide (lno < x.expect) || decide (fl ≤ lno) else decide (fl ≤ x.expect)
    if refuse then ((s.cnt (R.FE_LINES_DROPPED n)).feErr n 4).feAfter n else
    let l := if ok then lno else x.expect
    let s := s.cntN (R.FE_LINES_MISSING n) (l - x.expect)
    let s := s.when (!ok) (·.feErr n 3)
    let t := if ok || x.firstLine then time
      else x.prevTime + BitVec.ofNat 64 (s.rdN (R.FE_LINE_PERIOD_NS n))
    let o : FeOpen := ⟨x.prevFrame, l, t, setFlagIf (!ok) 0 lfIdGuess, 0, [],
      s.on (R.FE_FE_CTL n) F.FE_FE_CTL_TAB_BYPASS, s.feBank n (s.gf (R.FE_FE_STAT n) F.FE_FE_STAT_BANK_NOW), x.tab, []⟩
    let s := s.setFe n { x with line := some o, expect := l + 1, opened := x.base + l + 1, waited := false
                                firstLine := false, prevTime := t }
    let s := s.feF n F.FE_FE_STAT_ASTATE 2
    (s.streamOut 0 n ⟨0x02, 0, 0, leBytes 4 o.frameNo ++ leBytes 2 l ++ leBytes 6 0 ++ leBytes 8 t.toNat⟩).feAfter n
  | _ => s

/-- What the assembly buffer holds now, in fifths of a sample (R105): step 2 takes 2 per CLK_PIX cycle of 1.2 GHz, that is 96 fifths per
cycle of the model's clock. -/
def State.feBuf (s : State) (n : Nat) : Nat := (s.fe n).buf - 96 * (s.cyc - (s.fe n).bufAt)

/-- How many samples the assembly buffer can still take. -/
def State.feRoom (s : State) (n : Nat) : Nat := 2 * (s.fe n).cfg.linePx - (s.feBuf n + 4) / 5

/-- Samples placed into an open line (R104, R105): those below the next expected column and those at or beyond LINE_PX are
discarded, and so are those beyond the `room` of the assembly buffer. -/
def placeSamples (px room : Nat) (xs : List (Nat × Nat)) (o : FeOpen) : FeOpen :=
  let long := xs.any (fun e => decide (px ≤ e.1))
  let keep := xs.filter (fun e => decide (o.next ≤ e.1) && decide (e.1 < px))
  let got := keep.take room
  { o with samples := o.samples ++ got, next := match keep.getLast? with | some e => e.1 + 1 | none => o.next
           flags := setFlagIf (decide (room < keep.length)) (setFlagIf long o.flags lfLong) lfBacklog
           gone := o.gone ++ (keep.drop room).map (·.1) }

/-- The number of `d`-bit elements in `w` words of a packet (R75): `count` where it fits, else as many as the words hold. -/
def elemCount (w d count : Nat) : Nat :=
  if d = 0 then 0 else if 32 * (w - 1) < count * d && count * d ≤ 32 * w then count else 32 * w / d

/-- FE_PIXEL_PACKET (R104): the samples of a packet. `count` is the number of elements the sender packed, where the trailing
bits of R75 leave it open. A packet whose COL_START lies above LINE_PX when every column has been passed gives no GAP, for no column is left
without samples (DESIGN CHOICE, log entry 31). -/
def fePixelPacket (n count : Nat) (s : State) : State :=
  match s.fePop n with
  | some (.pixels dt aux last col data ok, s) =>
    let x := s.fe n
    match x.line with
    | none => s.feAfter n
    | some o =>
      let d := x.cfg.depth
      let s := s.streamOut 0 n ⟨dt, aux, b2n last, leBytes 4 col ++ data⟩
      let w := data.length / 4
      if dtBits dt != d || decide (0x13 < dt) then
        let cs := (List.range (elemCount w (dtBits dt) count)).map (col + ·)
        ((s.setFe n { x with line := some { o with flags := setFlag o.flags lfDtMismatch, gone := o.gone ++ cs } }).feErr n 7).feAfter n
      else
        let o := { o with flags := setFlagIf (!ok) o.flags lfCrcBad }
        let s := s.when (!ok) (·.feErr n 6)
        let bits := leNat data
        let xs := (List.range (elemCount w d count)).map (fun i => (col + i, bitElem d bits i))
        let o := { o with flags := setFlagIf (decide (o.next < col) && decide (o.next < x.cfg.linePx)) o.flags lfGap }
        let o := { o with next := max o.next (min col x.cfg.linePx) }
        let o' := placeSamples x.cfg.linePx (s.feRoom n) xs o
        let s := s.when (flag o'.flags lfBacklog && !flag o.flags lfBacklog) (·.feErr n 8)
        let buf := s.feBuf n + 5 * (o'.samples.length - o.samples.length)
        (s.setFe n { x with line := some o', buf := buf, bufAt := s.cyc }).feAfter n
  | _ => s

/-- FE_LINE_END (R102): closes the open line with what a matching LINE_END says, else with NO_END. -/
def feLineEnd (n : Nat) (s : State) : State :=
  match s.fePop n with
  | some (.lineEnd fno lno ovr flt samples ok, s) =>
    let x := s.fe n
    match x.line with
    | none => s.feAfter n
    | some o =>
      let s := s.streamOut 0 n ⟨0x03, 0, 0, leBytes 4 o.frameNo ++ leBytes 2 o.lineNo
        ++ leBytes 2 (b2n ovr + 2 * b2n flt) ++ leBytes 4 samples⟩
      if ok && fno == o.frameNo && lno == o.lineNo then
        (s.feCloseLine n ((if ovr then [lfOverrun] else []) ++ (if flt then [lfSensorFault] else []))
          (if ovr then some samples else none)).feAfter n
      else (s.feCloseLine n [lfNoEnd] none).feAfter n
  | _ => s

/-- FE_FRAME_END (R102): closes the frame. -/
def feFrameEnd (n : Nat) (s : State) : State :=
  match s.fePop n with
  | some (.frameEnd _ _ _, s) => (s.feCloseFrame n []).feAfter n
  | _ => s

/-- LINE_TIMEOUT ns have passed since the open line's LINE_START (R102). -/
def lineTimeout (n : Nat) (s : State) : State :=
  if s.aState n == 2 then (s.feCloseLine n [lfLate] none).feErr n 5 else s

/-- No LINE_START has arrived for LINE_TIMEOUT: awaited window lines count as missing (R113). -/
def windowWaitTimeout (n : Nat) (s : State) : State := s.setFe n (s.fe n).noMore

/-- The first line offset below the own line, a = min(1, MOS_LINES − 1) (R112). -/
def winA (c : FeCfg) : Nat := min 1 (c.mosLines - 1)

/-- Are all window lines of line `l` here, or taken as missing (R112, R113)? -/
def winReady (x : FeX) (l : FeLine) : Bool :=
  let top := l.g + l.cfg.mosLines - winA l.cfg
  let top := match l.cut with | some m => min top m | none => top
  l.ep != x.ep || (decide (top ≤ x.opened) && (match x.line with
    | some o => decide (top ≤ x.base + o.lineNo)
    | none => true))

/-- The column that stands in for column `c + dc` of a window (R112): replaced by one descriptor period at the edges. -/
def winCol (cfg : FeCfg) (c : Nat) (dc : Int) : Nat :=
  let k : Int := (c : Int) + dc
  if k < 0 then (k + cfg.mosCols).toNat else if (cfg.linePx : Int) ≤ k then (k - cfg.mosCols).toNat else k.toNat

/-- The valid sites of the window of output pixel (`l`, `c`), as kind and value, and whether a site was left out (R113). -/
def winSites (hist : List FeLine) (l : FeLine) (c : Nat) : List (Nat × Nat) × Bool :=
  let cfg := l.cfg
  let cells := ((List.range cfg.mosLines).map (fun i => (List.range cfg.mosCols).map (fun j =>
    let lineAt : Int := (l.g : Int) + i - winA cfg
    let col := winCol cfg c ((j : Int) - (cfg.mosCols / 2 : Nat))
    match (if lineAt = l.g then some l else hist.find? (fun h => h.ep == l.ep && (h.g : Int) == lineAt
        && (match l.cut with | some m => decide (h.g < m) | none => true))) with
    | some h =>
      match h.sites.find? (fun e => e.1 == col) with
      | some e => some (cfg.kind (cfg.phase h.lineNo) col, e.2)
      | none => none
    | none => none))).flatten
  (cells.filterMap id, cells.any (·.isNone))

/-- value_k of a pixel (R113). -/
def kindValue (l : FeLine) (c k : Nat) (ws : List (Nat × Nat)) : Nat :=
  if !l.cfg.present k then 0 else
  let own := l.sites.find? (fun e => e.1 == c)
  let native := F.FE_FORMAT_NATIVE.get l.cfg.format == 1 && l.cfg.kind (l.cfg.phase l.lineNo) c == k
  let xs := (ws.filter (fun e => e.1 == k)).map (·.2)
  match native, own with
  | true, some e => e.2
  | _, _ => if xs.length = 0 then 0 else (xs.foldl (· + ·) 0 * 2 + xs.length) / (2 * xs.length)

/-- An output value of plane `p` before the clamp (R114). -/
def planeRaw (b : FeBank) (p : Nat) (vals : List Nat) : Int :=
  let acc := (List.range 6).foldl (fun a k => a + b.xt.getD (6 * p + k) 0 * (vals.getD k 0 : Nat)) (0 : Int)
  (acc + 8192) / 16384 + b.offs.getD p 0

/-- One output column: per plane the value before the clamp, or none for a column that holds no sample (R115). -/
def outColumn (hist : List FeLine) (l : FeLine) (c : Nat) : Option (List Int × Bool) :=
  if (l.sites.find? (fun e => e.1 == c)).isNone then none else
  let ws := winSites hist l c
  let vals := (List.range 6).map (fun k => kindValue l c k ws.1)
  some ((List.range l.cfg.planes).map (fun p => planeRaw l.bank p vals), ws.2)

/-- Counts of one frame take a line that leaves (R120). -/
def statLine (t : FeStat) (l : FeLine) (flags : Nat) (cols : List (Option (List Int × Bool))) : FeStat :=
  let t := { t with linesOut := t.linesOut + 1, lastTime := l.time,
                    firstTime := if t.linesOut = 0 then l.time else t.firstTime }
  if !t.keep then t else
  let holes := (cols.filter (·.isNone)).length
  let t := { t with padded := t.padded + holes, flagged := t.flagged + b2n (flags != 0) }
  if flag flags lfCrcBad || flag flags lfSensorFault then t else
  let w := (l.cfg.linePx + 1023) / 1024
  let t := { t with satRaw := t.satRaw + l.satRaw, counted := t.counted + (cols.length - holes) }
  let add (m : SMap Nat) (k v : Nat) : SMap Nat := m.set (fun _ => 0) k (m.get (fun _ => 0) k + v)
  (cols.zipIdx).foldl (fun t e =>
    match e.1 with
    | none => t
    | some (vs, _) =>
      (vs.zipIdx).foldl (fun t v =>
        let out := (sat v.1 0 4095).toNat
        { t with
          clipHi := if decide ((4095 : Int) < v.1) then add t.clipHi v.2 1 else t.clipHi
          clipLo := if decide (v.1 < (0 : Int)) then add t.clipLo v.2 1 else t.clipLo
          hist := add t.hist (256 * v.2 + out / 16) 1
          colSum := add t.colSum (1024 * v.2 + e.2 / w) out
          colCnt := add t.colCnt (1024 * v.2 + e.2 / w) 1 }) t) t

/-- The counters that a line's flags name, each counted at most once (R106). -/
def State.lineCounts (s : State) (n flags : Nat) : State :=
  let s := s.when (flag flags lfShort) (·.cnt (R.FE_LINES_SHORT n))
  let s := s.when (flag flags lfOverrun) (·.cnt (R.FE_LINES_OVERRUN n))
  let s := s.when (flag flags lfGap || flag flags lfBacklog || flag flags lfDtMismatch) (·.cnt (R.FE_LINES_GAP n))
  let s := s.when (flag flags lfLong) (·.cnt (R.FE_LINES_LONG n))
  let s := s.when (flag flags lfCrcBad) (·.cnt (R.FE_LINES_CRC n))
  let s := s.when (flag flags lfLate) (·.cnt (R.FE_LINES_LATE n))
  s.when (isPadded flags) (·.cnt (R.FE_LINES_PADDED n))

/-- The oldest closed line leaves the front end, once its window is here (R106, R112 to R117, R120). -/
def feLineOut (n : Nat) (s : State) : State :=
  let x := s.fe n
  match x.done with
  | [] => s
  | l :: rest =>
    if !winReady x l then s else
    let cols := (List.range l.cfg.linePx).map (outColumn x.hist l)
    let gap := cols.any (fun c => match c with | some (_, b) => b | none => false)
    let flags := setFlagIf gap l.flags lfWindowGap
    let data := (List.range l.cfg.planes).map (fun p => cols.map (fun c => match c with
      | some (vs, _) => (sat (vs.getD p 0) 0 4095).toNat
      | none => l.bank.pad.getD p 0))
    let first := x.stats.any (fun t => t.fo == l.fo && t.linesOut == 0)
    let s := s.setFe n { x with done := rest }
    let s := s.feStatMod n l.fo (fun t => statLine t l flags cols)
    let s := (s.cnt (R.FE_LINES_OUT n)).lineCounts n flags
    let s := { s with stIn := s.stIn.set (fun _ => []) n (s.stIn.get (fun _ => []) n ++
      [(⟨l.frameNo, l.lineNo, l.time, flags, l.bankNo, l.cfg.linePx, l.cfg.planes, data⟩ : CLine)]) }
    let inter := ((List.range l.cfg.linePx).map (fun c => data.map (fun d => d.getD c 0))).flatten
    let s := s.when first (fun s => s.streamOut 1 n ⟨0x00, 0, 0, leBytes 4 l.frameNo ++ leBytes 2 l.cfg.frameLines
      ++ leBytes 2 0 ++ leBytes 4 l.cfg.linePx⟩)
    let s := s.streamOut 1 n ⟨0x02, 0, 0, leBytes 4 l.frameNo ++ leBytes 2 l.lineNo ++ leBytes 6 0 ++ leBytes 8 l.time.toNat⟩
    let s := s.streamOut 1 n ⟨0x18, l.cfg.planes - 1, 1, pixelPayload 12 0 inter⟩
    s.streamOut 1 n ⟨0x03, 0, 0, leBytes 4 l.frameNo ++ leBytes 2 l.lineNo ++ leBytes 2 0
      ++ leBytes 4 l.cfg.linePx⟩

/-- The statistics record of a frame, 12,416 bytes (R121). -/
def statRecord (n : Nat) (t : FeStat) : List (BitVec 8) :=
  let fl := setFlagIf (decide (t.linesOut < t.cfg.frameLines)) t.flags 7
  let get (m : SMap Nat) (k : Nat) : Nat := m.get (fun _ => 0) k
  let words (m : SMap Nat) : List (BitVec 8) := ((List.range 4).map (fun p => leBytes 4 (get m p))).flatten
  leBytes 4 t.frameNo ++ leBytes 2 t.linesOut ++ leBytes 2 t.settingId ++ leBytes 1 fl ++ leBytes 1 t.cfg.planes
    ++ leBytes 1 n ++ leBytes 1 1 ++ leBytes 4 t.cfg.linePx ++ leBytes 8 t.firstTime.toNat ++ leBytes 8 t.lastTime.toNat
    ++ leBytes 4 t.padded ++ leBytes 2 t.flagged ++ leBytes 2 (t.cfg.frameLines - t.linesOut) ++ leBytes 4 t.satRaw
    ++ leBytes 4 t.counted ++ words t.clipHi ++ words t.clipLo ++ leBytes 4 ((t.cfg.linePx + 1023) / 1024)
    ++ List.replicate 44 0
    ++ ((List.range 1024).map (fun i => leBytes 4 (get t.hist i))).flatten
    ++ ((List.range 4096).map (fun i =>
        let c := get t.colCnt i
        leBytes 2 (if c = 0 then 0xffff else (16 * get t.colSum i * 2 + c) / (2 * c)))).flatten

/-- STAT_RECORD_WRITE (R122): the record of a closed frame whose last line has left. -/
def statRecordWrite (n : Nat) (s : State) : State :=
  let x := s.fe n
  match x.stats with
  | [] => s
  | t :: rest =>
    if !t.closed || x.done.any (fun l => l.fo == t.fo) then s else
    let s := s.setFe n { x with stats := rest }
    let s := s.when (t.linesOut != 0)
      (·.streamOut 1 n ⟨0x01, 0, 0, leBytes 4 t.frameNo ++ leBytes 2 t.linesOut ++ leBytes 6 0⟩)
    if !t.keep then s else
    let rec' := statRecord n t
    let s := s.streamOut 4 n ⟨0x20, 0, 0, leBytes 4 0x100 ++ leBytes 4 t.frameNo ++ rec'⟩
    let entries := s.rdN (R.FE_STAT_ENTRIES n)
    let wr := s.rdN (R.FE_STAT_WR n)
    let a := s.rd64N (R.FE_STAT_BASE_LO n) (R.FE_STAT_BASE_HI n) + 12416 * wr
    let drop := fun (s : State) => (s.cnt (R.FE_STAT_DROP n)).feErr n 11
    if entries == 0 then s
    else if (wr + 1) % entries == s.rdN (R.FE_STAT_RD n) then drop s
    else if !s.memOk a 12416 then (drop s).decodeErr a
    else
      let x := s.memPut a rec'
      if x.2 then drop x.1 else
      let s := x.1.wrN (R.FE_STAT_WR n) ((wr + 1) % entries)
      let s := s.wr (R.FE_STAT_STAT n) (seqBump (s.rd (R.FE_STAT_STAT n)))
      (s.wrN (R.FE_LAST_REC_FRAME n) t.frameNo).fire (289 + 4 * n)

/-- A stream-out copy of a record held back for more than one frame period is dropped (R122): the oldest copy of front end `n`
at stream `v` of quad `q`. -/
def statOutHoldExpiry (n q v : Nat) (s : State) : State :=
  let w := s.rd (R.ACT_OUT_VC q v)
  if F.ACT_OUT_VC_KIND.get w == 4 && F.ACT_OUT_VC_INDEX.get w == n then
    match (s.port q).out.find? (fun e => e.1 == v) with
    | some e => (s.setPort q { s.port q with out := erase1 e (s.port q).out }).cnt (R.FE_STAT_OUT_DROP n)
    | none => s
  else s

end Sys2Proof.Machine
end

