-- ==== Sys2Proof/Machine/Lane.lean ====
section
/-! DEFINITION. High-speed lanes: quad roles and bring-up (R35 to R38), coding and block lock (R39 to R43), equalisers (R44,
R45), the lane state machine (R46 to R49), calibration (R51) and the test functions (R52 to R56). -/

namespace Sys2Proof.Machine

/-! The states of LANE_STAT.STATE (R46). -/
def stDisabled : Nat := 0
def stWaitPll : Nat := 1
def stAcquire : Nat := 2
def stBlockSync : Nat := 3
def stTrain : Nat := 4
def stReady : Nat := 5
def stTest : Nat := 6

/-- The state of lane `n`. -/
def State.laneSt (s : State) (n : Nat) : Nat := s.gf (R.LANE_LANE_STAT n) F.LANE_LANE_STAT_STATE

/-- The quad's error register in the error record. -/
def siteQuad (q : Nat) : Site := ⟨11, 0, q, 67 + 4 * q⟩

/-- The lane's error register in the error record; it fires its quad's LANE_FAULT (R57). -/
def siteLane (n : Nat) : Site := ⟨11, 1, n, 67 + 4 * (n / 4)⟩

/-- Sets fields of LANE_STAT. -/
def State.laneF (s : State) (n : Nat) (f : Fld) (v : Nat) : State := s.sf (R.LANE_LANE_STAT n) f v

/-- The lanes in READY among the four of a quad. -/
def State.readyCount (s : State) (q : Nat) : Nat :=
  ((List.range 4).filter (fun p => s.laneSt (4 * q + p) == stReady)).length

/-- Recomputes QUAD_STAT.READY and QSTATE from the lanes and the configuration in force. -/
def State.quadRefresh (s : State) (q : Nat) : State :=
  let st := R.LANE_QUAD_STAT q
  let mask := (List.range 4).foldl (fun m p => m + (if s.laneSt (4 * q + p) == stReady then 2 ^ p else 0)) 0
  let s := s.sf st F.LANE_QUAD_STAT_READY mask
  let k := s.readyCount q
  let qs := if s.gf st F.LANE_QUAD_STAT_ROLE_NOW == 0 then 0
    else if !s.on st F.LANE_QUAD_STAT_PLL_LOCK then 1
    else if k == 0 then 2
    else if k < F.LANE_QUAD_CTL_LANES.get (s.quad q).ctl then 3 else 4
  s.sf st F.LANE_QUAD_STAT_QSTATE qs

/-- A lane goes to another state; leaving READY for any reason fires LANE_DOWN (R57). -/
def State.laneGo (s : State) (n st : Nat) : State :=
  let was := s.laneSt n
  let s := (s.laneF n F.LANE_LANE_STAT_STATE st).quadRefresh (n / 4)
  s.when (was == stReady && st != stReady) (fun s => (s.fire (65 + 4 * (n / 4))).calDiscard (n / 32) (n % 32))

/-- The block period of a quad's rate, in units of 10 ps (R36). -/
def State.blockPeriod (s : State) (q : Nat) : Nat :=
  [2112, 1056, 640, 528, 256].getD (s.gf (R.LANE_QUAD_STAT q) F.LANE_QUAD_STAT_RATE_NOW) 256

/-- A receiver that has lost its block boundary: no lock and no TRAIN history; what it sends says RX_LOCKED = 0 (R41). LANE_STAT keeps
PEER_LOG and PEER_LOCKED of the last consistent TRAIN block (R59). -/
def State.laneHunt (s : State) (n : Nat) : State :=
  let x := s.lane n
  let s := s.setLane n { x with prevTrain := none, run := 0, peerLocked := false, validRun := 0, hdrBad := [], txLocked := false,
                                prevCompl := none, complRun := 0, prbsRun := 0, align := 0, alignLog := 4 }
  s.laneF n F.LANE_LANE_STAT_BLOCK_LOCK 0

/-- A receiver that starts over: no clock, lock or TRAIN history. -/
def State.laneRxClear (s : State) (n : Nat) : State := (s.laneHunt n).laneF n F.LANE_LANE_STAT_CDR_LOCK 0

/-- The lane enters ACQUIRE sending TRAIN blocks with RX_LOCKED = 0, its training timer running (R46). -/
def State.laneAcquire (s : State) (n : Nat) : State :=
  let s := (s.laneRxClear n).laneGo n stAcquire
  s.setLane n { s.lane n with timer := true, txLocked := false }

/-- The lane is powered down. -/
def State.laneOff (s : State) (n : Nat) : State :=
  let s := s.laneGo n stDisabled
  let s := s.setLane n { align := 0 }
  s.wr (R.LANE_LANE_STAT n) 0

/-- The main tap that an FFE word gives (R44). -/
def mainTap (v : Word) : Int := 63 - (F.LANE_LANE_FFE_C_PRE.get v : Int) - (F.LANE_LANE_FFE_C_POST.get v : Int)

/-- The CTLE starts at quad bring-up: at CTLE_CODE when manual, else from code 8 (R45). -/
def State.ctleStart (s : State) (n : Nat) : Nat :=
  if s.on (R.LANE_LANE_CTL n) F.LANE_LANE_CTL_CTLE_MANUAL then s.gf (R.LANE_LANE_CTL n) F.LANE_LANE_CTL_CTLE_CODE else 8

/-- Is the lane held in TEST by its generator, checker or loopback (R46)? -/
def State.testOn (s : State) (n : Nat) : Bool :=
  s.on (R.LANE_PRBS_CTL n) F.LANE_PRBS_CTL_GEN_EN || s.on (R.LANE_PRBS_CTL n) F.LANE_PRBS_CTL_CHK_EN
    || s.gf (R.LANE_LANE_CTL n) F.LANE_LANE_CTL_LOOPBACK != 0

/-- The lane enters or leaves TEST as its generator, checker and loopback say; from TEST it goes to ACQUIRE (R46). -/
def State.laneTest (s : State) (n : Nat) : State :=
  let st := s.laneSt n
  if st == stDisabled then s
  else if s.testOn n then
    if st == stTest then s else (s.laneGo n stTest).setLane n { s.lane n with timer := false }
  else if st == stTest then s.laneAcquire n
  else s

/-- A lane is powered up: its main tap and CTLE code are in use and RX_INV is taken when polarity is not detected. -/
def State.lanePower (s : State) (n : Nat) (up : Bool) : State :=
  let c := R.LANE_LANE_CTL n
  let s := s.setLane n { s.lane n with up := up, listen := !up }
  let s := s.laneF n F.LANE_LANE_STAT_MAIN_TAP (mainTap (s.rd (R.LANE_LANE_FFE n))).toNat
  let s := s.laneF n F.LANE_LANE_STAT_CTLE_NOW (s.ctleStart n)
  s.laneF n F.LANE_LANE_STAT_RX_INV_NOW
    (if s.on c F.LANE_LANE_CTL_RX_INV_AUTO then 0 else s.gf c F.LANE_LANE_CTL_RX_INV)

/-- Is position `p` brought up at first, under configuration word `c` (R38)? -/
def posUp (c : Word) (p : Nat) : Bool :=
  let k := F.LANE_QUAD_CTL_LANES.get c
  if F.LANE_QUAD_CTL_AUTO_RX_REV.get c == 0 && F.LANE_QUAD_CTL_RX_REV.get c == 1 then decide (4 - k ≤ p) else decide (p < k)

/-- Does the receiver at position `p` only listen before the order is decided (R38)? -/
def posListen (c : Word) (p : Nat) : Bool :=
  F.LANE_QUAD_CTL_AUTO_RX_REV.get c == 1 && decide (F.LANE_QUAD_CTL_LANES.get c < 4) && !posUp c p

/-- Does APPLY accept the configuration (R35 to R37)? Q30 may be TWIN only while Q31 is: R37 checks that at the APPLY; that Q30 then stays
TWIN when Q31 leaves TWIN is the model's choice (log entry 29). -/
def State.quadCfgOk (s : State) (q : Nat) : Bool :=
  let c := s.rd (R.LANE_QUAD_CTL q)
  let role := F.LANE_QUAD_CTL_ROLE.get c
  let rate := F.LANE_QUAD_CTL_RATE.get c
  let k := F.LANE_QUAD_CTL_LANES.get c
  role == 0 ||
    ((role != 3 || q == 31 || (q == 30 && s.gf (R.LANE_QUAD_STAT 31) F.LANE_QUAD_STAT_ROLE_NOW == 3))
      && decide (rate ≤ 4) && (role != 3 || decide (3 ≤ rate)) && decide (1 ≤ k) && decide (k ≤ 4))

/-- QUAD_CMD.APPLY (R37): refused with CFG_ERR, or every lane goes to DISABLED and the quad comes up anew. -/
def State.quadApplyLanes (s : State) (q : Nat) : State :=
  if !s.quadCfgOk q then s.raise (R.LANE_QUAD_ERR q) 0 (siteQuad q) else
  let c := s.rd (R.LANE_QUAD_CTL q)
  let s := times 4 (fun p s => s.laneOff (4 * q + p)) s
  let s := s.setQuad q { s.quad q with ctl := c }
  let role := F.LANE_QUAD_CTL_ROLE.get c
  let st := R.LANE_QUAD_STAT q
  let s := s.wr st 0
  let s := s.sf st F.LANE_QUAD_STAT_ROLE_NOW role
  let s := s.sf st F.LANE_QUAD_STAT_RATE_NOW (if role == 0 then 0 else F.LANE_QUAD_CTL_RATE.get c)
  let s := s.sf st F.LANE_QUAD_STAT_TX_REV_NOW
    (if role == 0 || F.LANE_QUAD_CTL_AUTO_TX_REV.get c == 1 then 0 else F.LANE_QUAD_CTL_TX_REV.get c)
  let s := if role == 0 then s else
    times 4 (fun p s =>
      let n := 4 * q + p
      if posUp c p then ((s.lanePower n true).laneGo n stWaitPll).laneTest n
      else if posListen c p then s.lanePower n false else s) s
  s.quadRefresh q

/-- QUAD_CMD.RETRAIN: the bring-up of R38 again, with the lane order undecided, on the clock that the PLL gives. -/
def quadRetrain (q : Nat) (s : State) : State :=
  let st := R.LANE_QUAD_STAT q
  if s.gf st F.LANE_QUAD_STAT_ROLE_NOW == 0 then s else
  let c := (s.quad q).ctl
  let s := s.sf st F.LANE_QUAD_STAT_ORDER 0
  let s := s.when (F.LANE_QUAD_CTL_AUTO_TX_REV.get c == 1) (fun s => s.sf st F.LANE_QUAD_STAT_TX_REV_NOW 0)
  let s := times 4 (fun p s =>
    let n := 4 * q + p
    if posUp c p then
      let was := s.laneSt n
      let s := if (s.lane n).up then s.laneF n F.LANE_LANE_STAT_CTLE_NOW (s.ctleStart n) else s.lanePower n true
      if was == stTest then s
      else (if s.on st F.LANE_QUAD_STAT_PLL_LOCK then s.laneAcquire n else (s.laneRxClear n).laneGo n stWaitPll).laneTest n
    else if posListen c p then (s.laneOff n).lanePower n false
    else s.laneOff n) s
  s.quadRefresh q

/-- The quad PLL locks: the lanes in WAIT_PLL start to train (R46). -/
def quadPllLock (q : Nat) (s : State) : State :=
  let st := R.LANE_QUAD_STAT q
  if s.gf st F.LANE_QUAD_STAT_ROLE_NOW == 0 || s.on st F.LANE_QUAD_STAT_PLL_LOCK then s else
  let s := s.setQuad q { s.quad q with refLost := false }
  let s := s.sf st F.LANE_QUAD_STAT_PLL_LOCK 1
  let s := times 4 (fun p s => if s.laneSt (4 * q + p) == stWaitPll then s.laneAcquire (4 * q + p) else s) s
  s.quadRefresh q

/-- The quad PLL loses lock: PLL_UNLOCK, and every lane not DISABLED goes to WAIT_PLL (R46, R49), from where one with a test
function on goes to TEST. -/
def quadPllUnlock (q : Nat) (s : State) : State :=
  let st := R.LANE_QUAD_STAT q
  if !s.on st F.LANE_QUAD_STAT_PLL_LOCK then s else
  let s := s.sf st F.LANE_QUAD_STAT_PLL_LOCK 0
  let s := s.raise (R.LANE_QUAD_ERR q) 1 (siteQuad q)
  let s := times 4 (fun p s =>
    if s.laneSt (4 * q + p) == stDisabled then s.laneRxClear (4 * q + p)
    else
      let s := (s.laneRxClear (4 * q + p)).laneGo (4 * q + p) stWaitPll
      (s.setLane (4 * q + p) { s.lane (4 * q + p) with timer := false, txLocked := false }).laneTest (4 * q + p)) s
  s.quadRefresh q

/-- SD_REFCLK_A (`b` = false, quads 0–15) or SD_REFCLK_B (quads 16–31) stops (R49). -/
def refclkLoss (b : Bool) (s : State) : State :=
  let q0 := if b then 16 else 0
  let s := times 16 (fun i s => quadPllUnlock (q0 + i) s) s
  times 16 (fun i s =>
    (s.setQuad (q0 + i) { s.quad (q0 + i) with refLost := true }).raise (R.LANE_QUAD_ERR (q0 + i)) 2 (siteQuad (q0 + i))) s

/-- Signal, clock and CTLE have settled: the lane hunts for the block boundary (R46); `ctle` is the code that adaptation
reached (R45). A listening receiver acquires without a state machine (R38). -/
def acquireDone (n ctle : Nat) (s : State) : State :=
  if s.laneSt n == stAcquire || ((s.lane n).listen && s.on (R.LANE_QUAD_STAT (n / 4)) F.LANE_QUAD_STAT_PLL_LOCK) then
    let s := s.laneF n F.LANE_LANE_STAT_SIG_DET 1
    let s := s.laneF n F.LANE_LANE_STAT_CDR_LOCK 1
    let s := s.when (!s.on (R.LANE_LANE_CTL n) F.LANE_LANE_CTL_CTLE_MANUAL)
      (fun s => s.laneF n F.LANE_LANE_STAT_CTLE_NOW ctle)
    if s.laneSt n == stAcquire then s.laneGo n stBlockSync else s
  else s

/-- The self-synchronous descrambler x⁵⁸ + x³⁹ + 1 over `k` bits, bit 0 first (R39): the descrambled bits and the next
shift-register state, whose bit i is the line bit received i + 1 bits ago. -/
def descramble : Nat → BitVec 58 → BitVec 64 → BitVec 64 × BitVec 58
  | 0, d, _ => (0, d)
  | k + 1, d, x =>
    let o := (x.getLsbD 0).xor ((d.getLsbD 38).xor (d.getLsbD 57))
    let r := descramble k ((d <<< 1) ||| (BitVec.ofNat 58 (b2n (x.getLsbD 0)))) (x >>> 1)
    ((r.1 <<< 1) ||| BitVec.ofNat 64 (b2n o), r.2)

/-- Is a descrambled control block a TRAIN block (R41)? The lane layer consumes every one, also one that is not consistent. -/
def isTrain (hdr : BitVec 2) (p : BitVec 64) : Bool := hdr == 0b01#2 && p.extractLsb' 0 8 == 0xd2

/-- LANE_LOG and TRAIN_SEQ of a TRAIN block (R41); none for any other payload. -/
def trainId (p : BitVec 64) : Option (Nat × Nat) :=
  if p.extractLsb' 0 8 == 0xd2 then some ((p.extractLsb' 8 2).toNat, (p.extractLsb' 32 16).toNat) else none

/-- Does a TRAIN block carry the SIGNATURE (R41)? -/
def trainSigned (p : BitVec 64) : Bool := p.extractLsb' 48 16 == 0x5ac3

/-- Do LANE_LOG and TRAIN_SEQ of a TRAIN block follow those of the previous one on the lane (R41)? -/
def trainFollows (prev : Option (Nat × Nat)) (log seq : Nat) : Bool :=
  match prev with
  | some (l, q) => l == log && (q + 1) % 0x10000 == seq
  | none => false

/-- LANE_LOG and ALIGN_SEQ of an ALIGN block (R63); none for any other payload. -/
def alignFields (p : BitVec 64) : Option (Nat × Nat) :=
  if p.extractLsb' 0 8 == 0x4b && p.extractLsb' 24 40 == 0 then
    some ((p.extractLsb' 20 2).toNat, (p.extractLsb' 8 8).toNat)
  else none

/-- Does an ALIGN block follow the previous one? -/
def alignFollows (prev : Option (Nat × Nat)) (log seq : Nat) : Bool :=
  match prev with
  | some (l, q) => l == log && (q + 1) % 0x100 == seq
  | none => false

/-- The cycles of the invalid headers that lie within the last 125 µs, 15,625 CLK_TIME cycles (R40). -/
def State.recentBad (s : State) (n : Nat) : List Nat := (s.lane n).badAt.filter (fun c => decide (s.cyc < c + 15625))

/-- A sync header is checked (R40): an invalid one counts in SYNC_ERR except in DISABLED, and in the window of HI_BER. -/
def State.laneHeader (s : State) (n : Nat) (bad : Bool) : State :=
  let near := if bad then s.cyc :: s.recentBad n else s.recentBad n
  let s := s.setLane n { s.lane n with badAt := near }
  let s := s.when (bad && s.laneSt n != stDisabled) (·.cnt (R.LANE_SYNC_ERR n))
  if decide (s.rdN (R.LANE_BER_LIMIT (n / 4)) < near.length) && !s.on (R.LANE_LANE_STAT n) F.LANE_LANE_STAT_HI_BER then
    let s := s.laneF n F.LANE_LANE_STAT_HI_BER 1
    if s.on (R.LANE_LANE_ERR n) (bit 2) then s.fire (67 + 4 * (n / 4)) else s.raise (R.LANE_LANE_ERR n) 2 (siteLane n)
  else s

/-- The invalid-header count of the last 125 µs has fallen back to BER_LIMIT or below (R40). -/
def hiBerClear (n : Nat) (s : State) : State :=
  let near := s.recentBad n
  let s := s.setLane n { s.lane n with badAt := near }
  s.when (decide (near.length ≤ s.rdN (R.LANE_BER_LIMIT (n / 4)))) (·.laneF n F.LANE_LANE_STAT_HI_BER 0)

/-! The patterns (R52). -/

/-- The next bit of a pattern, from a register whose bit i is the bit i + 1 places back: PRBS7, PRBS15 or PRBS31. -/
def prbsNext (poly : Nat) (r : BitVec 31) : Bool :=
  if poly == 0 then (r.getLsbD 6).xor (r.getLsbD 5)
  else if poly == 1 then (r.getLsbD 14).xor (r.getLsbD 13)
  else (r.getLsbD 30).xor (r.getLsbD 27)

/-- A pattern register after a bit. -/
def prbsShift (r : BitVec 31) (b : Bool) : BitVec 31 := (r <<< 1) ||| BitVec.ofNat 31 (b2n b)

/-- `k` bits of a pattern, bit 0 first, and the register after them. -/
def prbsBits (poly : Nat) : Nat → BitVec 31 → Nat × BitVec 31
  | 0, r => (0, r)
  | k + 1, r =>
    let b := prbsNext poly r
    let t := prbsBits poly k (prbsShift r b)
    (b2n b + 2 * t.1, t.2)

/-- The checker takes a bit: without lock it seeds itself from it and counts the error-free bits in a row; with lock it compares the
bit with its own pattern, and PRBS_ERR and PRBS_MBITS count. -/
def State.prbsCheck (s : State) (n : Nat) (b : Bool) : State :=
  let x := s.lane n
  let e := b != prbsNext (s.gf (R.LANE_PRBS_CTL n) F.LANE_PRBS_CTL_CHK_POLY) x.chkReg
  if !s.on (R.LANE_LANE_STAT n) F.LANE_LANE_STAT_CHK_LOCK then
    s.setLane n { x with chkReg := prbsShift x.chkReg b, prbsRun := if e then 0 else x.prbsRun + 1 }
  else
    let full := x.chkBits + 1 == 1048576
    let s := s.setLane n { x with chkReg := prbsShift x.chkReg (b != e), chkErrs := (e :: x.chkErrs).take 256,
                                  chkBits := if full then 0 else x.chkBits + 1 }
    (s.when e (·.cnt (R.LANE_PRBS_ERR n))).when full (·.cnt (R.LANE_PRBS_MBITS n))

/-- What lane `n` in TEST makes of received bits: its checker takes them, and far-end loopback sends them again (R52, R54). -/
def State.laneTestRx (s : State) (n : Nat) (w : BitVec 66) : State :=
  let s := if s.on (R.LANE_PRBS_CTL n) F.LANE_PRBS_CTL_CHK_EN then
      (List.range 66).foldl (fun s i => s.prbsCheck n (w.getLsbD i)) s
    else s
  s.when (s.gf (R.LANE_LANE_CTL n) F.LANE_LANE_CTL_LOOPBACK == 2) (·.emit (.block n w))

/-- 64 consecutive valid sync headers give block lock; the lane enters TRAIN (R40, R46). -/
def blockLockAcquired (n : Nat) (s : State) : State :=
  let x := s.lane n
  if s.on (R.LANE_LANE_STAT n) F.LANE_LANE_STAT_BLOCK_LOCK || x.validRun < 64 then s
  else if s.laneSt n == stBlockSync || x.listen then
    let s := s.laneF n F.LANE_LANE_STAT_BLOCK_LOCK 1
    let s := s.setLane n { x with hdrBad := [] }
    if s.laneSt n == stBlockSync then s.laneGo n stTrain else s
  else s

/-- A lane in READY loses block lock or its signal: it counts in LOCK_LOSS and goes back to ACQUIRE (R46). -/
def State.laneLoss (s : State) (n b : Nat) : State :=
  let s := s.cnt (R.LANE_LOCK_LOSS n)
  let s := s.raise (R.LANE_LANE_ERR n) b (siteLane n)
  s.laneAcquire n

/-- 16 invalid headers within 64 blocks lose block lock (R40, R46). The table of R46 has no row for a loss in TRAIN: that the lane then goes
to BLOCK_SYNC, its timer running on, is the model's choice (log entry 29). -/
def blockLockLost (n : Nat) (s : State) : State :=
  let x := s.lane n
  if !s.on (R.LANE_LANE_STAT n) F.LANE_LANE_STAT_BLOCK_LOCK || (x.hdrBad.filter id).length < 16 then s
  else if s.laneSt n == stReady then s.laneLoss n 0
  else if s.laneSt n == stTrain then (s.laneHunt n).laneGo n stBlockSync
  else s.laneHunt n

/-- SIG_DET stays low for 1 µs in READY (R46). -/
def signalLost (n : Nat) (s : State) : State :=
  let was := s.laneSt n
  let s := s.laneF n F.LANE_LANE_STAT_SIG_DET 0
  if was == stReady then s.laneLoss n 1 else s

/-- After 8 complemented TRAIN blocks in a row the receiver inverts its input (R42). -/
def rxPolarityInvert (n : Nat) (s : State) : State :=
  let x := s.lane n
  if s.on (R.LANE_LANE_CTL n) F.LANE_LANE_CTL_RX_INV_AUTO && decide (8 ≤ x.complRun)
      && (s.laneSt n == stBlockSync || s.laneSt n == stTrain || x.listen) then
    (s.setLane n { x with complRun := 0, prevCompl := none, prevTrain := none, run := 0 }).laneF n
      F.LANE_LANE_STAT_RX_INV_NOW (1 - s.gf (R.LANE_LANE_STAT n) F.LANE_LANE_STAT_RX_INV_NOW)
  else s

/-- The lane order is decided once LANES counted positions hold 16 consistent TRAIN blocks each, or 4 ALIGN blocks on a listening
quad (R43, R38, R409). -/
def State.orderDecide (s : State) (q : Nat) : State :=
  let c := (s.quad q).ctl
  let st := R.LANE_QUAD_STAT q
  let auto := F.LANE_QUAD_CTL_AUTO_RX_REV.get c == 1
  let ps := (List.range 4).filter (fun p =>
    ((s.lane (4 * q + p)).up || (auto && (s.lane (4 * q + p)).listen))
      && (decide (16 ≤ (s.lane (4 * q + p)).run) || decide (4 ≤ (s.lane (4 * q + p)).align)))
  if s.gf st F.LANE_QUAD_STAT_ORDER != 0 || ps.length < F.LANE_QUAD_CTL_LANES.get c then s else
  let log := fun p =>
    if (s.lane (4 * q + p)).run < 16 then (s.lane (4 * q + p)).alignLog else
    match (s.lane (4 * q + p)).prevTrain with | some (l, _) => l | none => 4
  let normal := ps.all (fun p => log p == p)
  let rev := ps.all (fun p => log p == 3 - p)
  let ok := if auto then normal || rev
    else if F.LANE_QUAD_CTL_RX_REV.get c == 1 then rev else normal
  if !ok then (s.sf st F.LANE_QUAD_STAT_ORDER 3).raise (R.LANE_QUAD_ERR q) 3 (siteQuad q) else
  let r := if auto then !normal else F.LANE_QUAD_CTL_RX_REV.get c == 1
  let s := s.sf st F.LANE_QUAD_STAT_ORDER (if r then 2 else 1)
  let s := s.when (F.LANE_QUAD_CTL_AUTO_TX_REV.get c == 1) (fun s => s.sf st F.LANE_QUAD_STAT_TX_REV_NOW (b2n r))
  if !auto || F.LANE_QUAD_CTL_LANES.get c == 4 then s else
  times 4 (fun p s =>
    let n := 4 * q + p
    let stay := if r then decide (4 - F.LANE_QUAD_CTL_LANES.get c ≤ p) else decide (p < F.LANE_QUAD_CTL_LANES.get c)
    if !stay then s.laneOff n
    else if (s.lane n).listen then
      ((s.setLane n { s.lane n with up := true, listen := false, timer := true }).laneGo n stTrain).laneTest n
    else s) s

/-- A received TRAIN block is consumed by the lane layer (R41, R46): consistency, PEER_LOG and PEER_LOCKED, the run of 16,
and the way out of READY; then the lane order (R43). -/
def trainBlockRx (n : Nat) (payload : BitVec 64) (s : State) : State :=
  let st := s.laneSt n
  let x := s.lane n
  if !(st == stTrain || st == stReady || x.listen) || !s.on (R.LANE_LANE_STAT n) F.LANE_LANE_STAT_BLOCK_LOCK then s else
  match trainId payload with
  | none => s
  | some (log, seq) =>
    let lk := payload.getLsbD 10
    if trainSigned payload && trainFollows x.prevTrain log seq then
      let s := s.setLane n { x with prevTrain := some (log, seq), run := x.run + 1, peerLocked := lk, complRun := 0 }
      let s := s.laneF n F.LANE_LANE_STAT_PEER_LOG log
      let s := s.laneF n F.LANE_LANE_STAT_PEER_LOCKED (b2n lk)
      let s := if st == stReady then
          let s := s.laneGo n stTrain
          s.setLane n { s.lane n with txLocked := true, timer := true }
        else s
      s.orderDecide (n / 4)
    else
      let s := s.setLane n { x with prevTrain := some (log, seq), run := 0, complRun := 0 }
      s.when (st == stTrain && decide (16 ≤ x.run)) (fun s => s.raise (R.LANE_LANE_ERR n) 5 (siteLane n))

/-- What a data block's payload says of the polarity (R42, on a listening quad also R409): LANE_LOG and number of the complemented TRAIN
or ALIGN block that it is, and whether that block is consistent; none for any other payload. -/
def complOf (lis : Bool) (prev : Option (Nat × Nat)) (p : BitVec 64) : Option (Nat × Nat × Bool) :=
  match trainId (~~~ p) with
  | some (l, q) => some (l, q, trainSigned (~~~ p) && trainFollows prev l q)
  | none =>
    match alignFields (~~~ p) with
    | some (l, q) => if lis then some (l, q, alignFollows prev l q) else none
    | none => none

/-- A 66-bit block is received (R39, R40), bit 0 of header and payload first: header 01 of R39, of a data block, is 0b10 here. Header check, slip while hunting, the descrambler, the count of complemented blocks (R42), a
TRAIN block for the lane layer (R41), and every other block of a lane in READY, or of one that trains on a listening quad, in `rxBlock` for
the layer above. A lane in near-end
loopback hears itself and not its pair (R54). -/
def laneBlockRx (n : Nat) (hdr : BitVec 2) (payload : BitVec 64) (s : State) : State :=
  let st := s.laneSt n
  if st == stDisabled && !(s.lane n).listen then s
  else if st == stTest then
    if s.gf (R.LANE_LANE_CTL n) F.LANE_LANE_CTL_LOOPBACK == 1 then s else s.laneTestRx n (payload ++ hdr)
  else
  let bad := hdr == 0b00#2 || hdr == 0b11#2
  let s := s.laneHeader n bad
  if st == stWaitPll || st == stAcquire then s else
  let x := s.lane n
  let lock := s.on (R.LANE_LANE_STAT n) F.LANE_LANE_STAT_BLOCK_LOCK
  let d := descramble 64 x.descr payload
  let data := hdr == 0b10#2
  let lis := s.on (R.ACT_PORT_CTL (n / 4)) F.ACT_PORT_CTL_LISTEN
  let compl := if data then complOf lis x.prevCompl d.1 else none
  let s := s.setLane n { x with
    validRun := if bad then 0 else x.validRun + 1
    hdrBad := (bad :: x.hdrBad).take 64
    slips := if bad && !lock then x.slips + 1 else x.slips
    descr := d.2
    prevCompl := match compl with | some (l, q, _) => some (l, q) | none => if data && !lis then none else x.prevCompl
    complRun := match compl with | some (_, _, true) => x.complRun + 1 | some (_, _, false) => 0
                                 | none => if data && !lis then 0 else x.complRun
    rxBlock := if (st == stReady || (lis && lock && (st == stTrain || st == stDisabled))) && !bad && !isTrain hdr d.1
      then some (hdr, d.1) else none }
  s.when (isTrain hdr d.1) (trainBlockRx n d.1)

/-- Polarity decided and 16 consistent TRAIN blocks: the lane sends RX_LOCKED = 1 (R46). -/
def trainLocked (n : Nat) (s : State) : State :=
  if s.laneSt n == stTrain && decide (16 ≤ (s.lane n).run) then
    s.setLane n { s.lane n with txLocked := true }
  else s

/-- The lane has sent its 16 TRAIN blocks with GOING_READY: order decided, peer locked, own lock sent (R46). -/
def State.laneReadyOk (s : State) (n : Nat) : Bool :=
  let o := s.gf (R.LANE_QUAD_STAT (n / 4)) F.LANE_QUAD_STAT_ORDER
  s.laneSt n == stTrain && (o == 1 || o == 2) && (s.lane n).peerLocked && (s.lane n).txLocked

/-- The lane stops its training timer and enters READY; LANE_UP fires (R46, R57). -/
def State.laneEnterReady (s : State) (n : Nat) : State :=
  let s := s.setLane n { s.lane n with timer := false, run := 0 }
  (s.laneGo n stReady).fire (64 + 4 * (n / 4))

/-- The training timer exceeds TRAIN_TIMEOUT (R46). -/
def trainTimeout (n : Nat) (s : State) : State :=
  let st := s.laneSt n
  if (st == stAcquire || st == stBlockSync || st == stTrain) && (s.lane n).timer then
    (s.raise (R.LANE_LANE_ERR n) 3 (siteLane n)).laneAcquire n
  else s

/-- LANE_CMD.RETRAIN (R46, R48): this lane restarts from ACQUIRE. -/
def laneRetrain (n : Nat) (s : State) : State :=
  let st := s.laneSt n
  if st == stReady || st == stAcquire || st == stBlockSync || st == stTrain then s.laneAcquire n else s

/-- In READY with adaptation on, the CTLE moves its code by one step (R45). -/
def ctleTrackStep (n : Nat) (up : Bool) (s : State) : State :=
  let c := R.LANE_LANE_CTL n
  let k := s.gf (R.LANE_LANE_STAT n) F.LANE_LANE_STAT_CTLE_NOW
  if s.laneSt n == stReady && !s.on c F.LANE_LANE_CTL_CTLE_MANUAL && !s.on c F.LANE_LANE_CTL_CTLE_FREEZE then
    s.laneF n F.LANE_LANE_STAT_CTLE_NOW (if up then min 15 (k + 1) else k - 1)
  else s

/-- A write to LANE_CTL (R42, R45, R54, R59). -/
def laneCtlWrite (n : Nat) (v : Word) (s : State) : State :=
  let a := R.LANE_LANE_CTL n
  let old := s.rd a
  let s := s.wr a (v &&& 0xf3f7)
  let pol := old &&& 7 != v &&& 7
  let powered := (s.lane n).up || (s.lane n).listen
  let s := s.when (powered && s.on a F.LANE_LANE_CTL_CTLE_MANUAL)
    (fun s => s.laneF n F.LANE_LANE_STAT_CTLE_NOW (s.gf a F.LANE_LANE_CTL_CTLE_CODE))
  let s := s.when (powered && !s.on a F.LANE_LANE_CTL_RX_INV_AUTO)
    (fun s => s.laneF n F.LANE_LANE_STAT_RX_INV_NOW (s.gf a F.LANE_LANE_CTL_RX_INV))
  let s := s.when (pol && s.laneSt n == stReady) (·.laneAcquire n)
  s.laneTest n

/-- A write to LANE_FFE: taken when the main tap stays at 24 or more, else refused with FFE_BAD (R44). -/
def laneFfeWrite (n : Nat) (v : Word) (s : State) : State :=
  if mainTap v < 24 then s.raise (R.LANE_LANE_ERR n) 4 (siteLane n)
  else
    let s := s.wr (R.LANE_LANE_FFE n) (v &&& 0x1f0f)
    s.when ((s.lane n).up || (s.lane n).listen) (fun s => s.laneF n F.LANE_LANE_STAT_MAIN_TAP (mainTap v).toNat)

/-- A write to PRBS_CTL (R52, R46); switching the checker off ends its pattern lock. The generator starts at a place of its pattern that
the spec leaves open: a free register that is not all 0. -/
def prbsCtlWrite (n : Nat) (v : Word) (s : State) : State :=
  let starts := !s.on (R.LANE_PRBS_CTL n) F.LANE_PRBS_CTL_GEN_EN && F.LANE_PRBS_CTL_GEN_EN.get v == 1
  let s := s.wr (R.LANE_PRBS_CTL n) (v &&& 0x7f)
  let s := s.when starts (fun s =>
    let r := s.free.setWidth 31
    (s.setLane n { s.lane n with genReg := if r.extractLsb' 0 7 == 0 then 1 else r }).freeNext)
  let s := s.when (!s.on (R.LANE_PRBS_CTL n) F.LANE_PRBS_CTL_CHK_EN) (fun s => s.laneF n F.LANE_LANE_STAT_CHK_LOCK 0)
  s.laneTest n

/-- After 64 error-free bits the checker gains pattern lock (R52). -/
def prbsLockGained (n : Nat) (s : State) : State :=
  if s.on (R.LANE_PRBS_CTL n) F.LANE_PRBS_CTL_CHK_EN && s.laneSt n == stTest && decide (64 ≤ (s.lane n).prbsRun) then
    (s.setLane n { s.lane n with chkErrs := [] }).laneF n F.LANE_LANE_STAT_CHK_LOCK 1
  else s

/-- After 16 errors within 256 bits the checker loses lock and re-seeds (R52). -/
def prbsLockLost (n : Nat) (s : State) : State :=
  if s.on (R.LANE_LANE_STAT n) F.LANE_LANE_STAT_CHK_LOCK && decide (16 ≤ ((s.lane n).chkErrs.filter id).length) then
    (s.setLane n { s.lane n with prbsRun := 0, chkErrs := [] }).laneF n F.LANE_LANE_STAT_CHK_LOCK 0
  else s

/-- LANE_CMD.INJ_SINGLE: the command bit reads 1 until the injection is sent; a second write merges (R53). -/
def injSingle (n : Nat) (s : State) : State := s.sf (R.LANE_LANE_CMD n) F.LANE_LANE_CMD_INJ_SINGLE 1

/-- LANE_CMD.INJ_BURST (R53). -/
def injBurst (n : Nat) (s : State) : State := s.sf (R.LANE_LANE_CMD n) F.LANE_LANE_CMD_INJ_BURST 1

/-- The pending injections are sent: flipped bits on the serial stream, and their command bits clear (R53). That BURST_LEN is taken here and
not at the command is the model's choice (log entry 29). -/
def injectionSent (n : Nat) (s : State) : State :=
  let a := R.LANE_LANE_CMD n
  if s.laneSt n == stDisabled then s else
  let s := if s.on a F.LANE_LANE_CMD_INJ_SINGLE then
      (s.emit (.flippedBits n 1)).sf a F.LANE_LANE_CMD_INJ_SINGLE 0 else s
  if s.on a F.LANE_LANE_CMD_INJ_BURST then
    (s.emit (.flippedBits n (s.gf (R.LANE_LANE_INJ n) F.LANE_LANE_INJ_BURST_LEN + 1))).sf a F.LANE_LANE_CMD_INJ_BURST 0
  else s

/-- LANE_CMD.EYE_START: one eye-scan point starts and abandons any that runs (R55). -/
def eyeStart (n : Nat) (s : State) : State :=
  if s.laneSt n == stReady || s.laneSt n == stTest then
    let s := s.sf (R.LANE_EYE_STAT n) F.LANE_EYE_STAT_BUSY 1
    let s := s.sf (R.LANE_EYE_STAT n) F.LANE_EYE_STAT_VALID 0
    let s := s.setLane n { s.lane n with eyeDwell := s.gf (R.LANE_EYE_CTL n) F.LANE_EYE_CTL_DWELL }
    s.sf (R.LANE_LANE_CMD n) F.LANE_LANE_CMD_EYE_START 1
  else s

/-- An eye-scan point completes with `errs` differing decisions (R55). A point whose lane has left READY and TEST meanwhile stays BUSY until
it is started again: the model's choice (log entry 29). -/
def eyePointDone (n : Nat) (errs : Word) (s : State) : State :=
  let a := R.LANE_EYE_STAT n
  if s.on a F.LANE_EYE_STAT_BUSY && (s.laneSt n == stReady || s.laneSt n == stTest) then
    let s := s.wr (R.LANE_EYE_ERRS n) errs
    let s := s.sf a F.LANE_EYE_STAT_BUSY 0
    let s := s.sf a F.LANE_EYE_STAT_DWELL_RES (min 20 (s.lane n).eyeDwell)
    let s := s.wr a (seqBump (s.rd a))
    let s := s.sf (R.LANE_LANE_CMD n) F.LANE_LANE_CMD_EYE_START 0
    s.fire (66 + 4 * (n / 4))
  else s

/-! What a lane sends (R34, R38, R39, R41, R43, R54). -/

/-- The self-synchronous scrambler over `k` bits, bit 0 first (R39): the scrambled bits and the next register. -/
def scramble : Nat → BitVec 58 → BitVec 64 → BitVec 64 × BitVec 58
  | 0, d, _ => (0, d)
  | k + 1, d, x =>
    let o := (x.getLsbD 0).xor ((d.getLsbD 38).xor (d.getLsbD 57))
    let r := scramble k ((d <<< 1) ||| (BitVec.ofNat 58 (b2n o))) (x >>> 1)
    ((r.1 <<< 1) ||| BitVec.ofNat 64 (b2n o), r.2)

/-- Is the receive order of the quad reversed, as decided or as RX_REV sets it (R38, R43)? -/
def State.rxRev (s : State) (q : Nat) : Bool :=
  let o := s.gf (R.LANE_QUAD_STAT q) F.LANE_QUAD_STAT_ORDER
  let c := (s.quad q).ctl
  o == 2 || (o != 1 && F.LANE_QUAD_CTL_AUTO_RX_REV.get c == 0 && F.LANE_QUAD_CTL_RX_REV.get c == 1)

/-- The logical number of the lane whose state machine runs at a position (R34, R43). -/
def State.logOf (s : State) (n : Nat) : Nat := if s.rxRev (n / 4) then 3 - n % 4 else n % 4

/-- The pair SD_TX on which that lane sends: position k, or 3 − k with transmit reversed (R38, R43). -/
def State.txLane (s : State) (n : Nat) : Nat :=
  let k := s.logOf n
  4 * (n / 4) + (if s.on (R.LANE_QUAD_STAT (n / 4)) F.LANE_QUAD_STAT_TX_REV_NOW then 3 - k else k)

/-- Bits of the serial stream of pair `t` leave, complemented with TX_INV = 1 (R42). In near-end loopback they go to the lane's own receiver
and the pair is at electrical idle; in far-end loopback they are discarded (R54). -/
def State.driveBits (s : State) (t : Nat) (w : BitVec 66) : State :=
  let loop := if s.laneSt t == stTest then s.gf (R.LANE_LANE_CTL t) F.LANE_LANE_CTL_LOOPBACK else 0
  if loop == 1 then s.laneTestRx t w
  else if loop == 2 then s
  else s.emit (.block t (if s.on (R.LANE_LANE_CTL t) F.LANE_LANE_CTL_TX_INV then ~~~w else w))

/-- Lane `n` sends a block: the payload is scrambled, the header is not (R39). A generator that runs on the pair replaces it (R52). -/
def State.sendBlock (s : State) (n : Nat) (hdr : BitVec 2) (payload : BitVec 64) : State :=
  let r := scramble 64 (s.lane n).txScr payload
  let s := s.setLane n { s.lane n with txScr := r.2 }
  let t := s.txLane n
  if s.laneSt t == stTest && s.on (R.LANE_PRBS_CTL t) F.LANE_PRBS_CTL_GEN_EN then s else s.driveBits t (r.1 ++ hdr)

/-- A TRAIN block (R41). -/
def trainBlock (log : Nat) (locked going : Bool) (lanes seq : Nat) : BitVec 64 :=
  BitVec.ofNat 64 (0xd2 + 0x100 * (log % 4 + 4 * b2n locked + 8 * b2n going) + 0x10000 * (lanes % 8) + 0x100000000 * (seq % 0x10000)
    + 0x5ac3000000000000)

/-- Lane `n` sends its next TRAIN block, with GOING_READY as given (R41, R46). -/
def State.sendTrain (s : State) (n : Nat) (going : Bool) : State :=
  let x := s.lane n
  let s := s.setLane n { x with txSeq := (x.txSeq + 1) % 0x10000 }
  s.sendBlock n 0b01#2 (trainBlock (s.logOf n) x.txLocked going (F.LANE_QUAD_CTL_LANES.get (s.quad (n / 4)).ctl) x.txSeq)

/-- Lane `n` in TEST sends 66 bits of its generator's pattern (R52). -/
def State.sendPattern (s : State) (n : Nat) : State :=
  let c := R.LANE_PRBS_CTL n
  if !s.on c F.LANE_PRBS_CTL_GEN_EN then s else
  let r := prbsBits (s.gf c F.LANE_PRBS_CTL_GEN_POLY) 66 (s.lane n).genReg
  let s := s.setLane n { s.lane n with genReg := r.2 }
  let w := BitVec.ofNat 66 r.1
  s.driveBits n (if s.on c F.LANE_PRBS_CTL_GEN_INV then ~~~w else w)

/-- One block period of lane `n` below READY: a lane that trains sends TRAIN, one in TEST its pattern (R46, R52). -/
def State.lanePeriod (s : State) (n : Nat) : State :=
  let st := s.laneSt n
  if st == stAcquire || st == stBlockSync || st == stTrain then s.sendTrain n false
  else if st == stTest then s.sendPattern n
  else s

end Sys2Proof.Machine
end

