-- ==== Sys2Proof/Machine/Port.lean ====
section
/-! DEFINITION. Aelore ports: link-up and the STRIPE exchanges (R61 to R66, R82, R83, R89, R91), triggers (R78, R81), the
backchannel (R85 to R88) and the stream-out ports (R92 to R94), from the port's side. -/

namespace Sys2Proof.Machine

/-- The port's error register in the error record; it fires FAULT (R96, R97). -/
def sitePort (q : Nat) : Site := ⟨12, 0, q, 194 + 3 * q⟩

/-- A sticky bit of PORT_ERR. -/
def State.portErr (s : State) (q b : Nat) : State := s.raise (R.ACT_PORT_ERR q) b (sitePort q)

/-- A packet is dropped: DROP_PKT counts and is sticky (R96). -/
def State.dropPkt (s : State) (q : Nat) : State := (s.cnt (R.ACT_DROP_PKT q)).portErr q 3

/-- A STRIPE column out of place, or an unknown control block (R64, R91). -/
def State.badCtrl (s : State) (q : Nat) : State := (s.cnt (R.ACT_DROP_PKT q)).portErr q 17

/-- A change of the port; LINK fires when PSTATE, ACTIVE_MASK or RESTRIPING changed by it (R97). -/
def State.portStep (s : State) (q : Nat) (f : State → State) : State :=
  let t := f s
  let t := t.when (s.pst q == psRun && t.pst q != psRun) (·.toFe q .linkLost)
  t.when (s.rd (R.ACT_PORT_STAT q) &&& 0xff != t.rd (R.ACT_PORT_STAT q) &&& 0xff) (·.fire (192 + 3 * q))

/-- The position of logical lane `k` in the receive order in force (R34, R43). -/
def State.lanePos (s : State) (q k : Nat) : Nat :=
  if s.gf (R.LANE_QUAD_STAT q) F.LANE_QUAD_STAT_ORDER == 2 then 3 - k else k

/-- The logical lanes in READY, as a mask (R82). -/
def State.readyMask (s : State) (q : Nat) : Nat :=
  (List.range 4).foldl (fun m k => m + (if s.laneSt (4 * q + s.lanePos q k) == stReady then 2 ^ k else 0)) 0

/-- The bits common to two lane masks. -/
def maskAnd (a b : Nat) : Nat := (BitVec.ofNat 4 a &&& BitVec.ofNat 4 b).toNat

/-- The bits of either of two lane masks. -/
def maskOr (a b : Nat) : Nat := (BitVec.ofNat 4 a ||| BitVec.ofNat 4 b).toNat

/-- The number of lanes in a mask. -/
def maskCount (m : Nat) : Nat := ((List.range 4).filter (fun i => m / 2 ^ i % 2 == 1)).length

def State.activeMask (s : State) (q : Nat) : Nat := s.gf (R.ACT_PORT_STAT q) F.ACT_PORT_STAT_ACTIVE_MASK

/-- The active lanes of the receive stream. -/
def State.setMask (s : State) (q m : Nat) : State :=
  (s.sf (R.ACT_PORT_STAT q) F.ACT_PORT_STAT_ACTIVE_MASK m).sf (R.ACT_PORT_STAT q) F.ACT_PORT_STAT_ACTIVE_LANES (maskCount m)

/-- May the port send anything but IDLE? Not in FAULT (R82), and not with LISTEN = 1 (R94). -/
def State.maySend (s : State) (q : Nat) : Bool := !(s.role q == 1 && (s.listening q || s.pst q == psFault))

/-! The blocks of a port stream (R63). -/
def idleBlock : BitVec 64 := 0x1e
/-- An ALIGN block without its LANE_LOG, which each lane adds. -/
def alignBlock (seq mask : Nat) : BitVec 64 := BitVec.ofNat 64 (0x4b + 0x100 * (seq % 256) + 0x10000 * (mask % 16))
def triggerBlock (kind seq offset : Nat) : BitVec 64 :=
  BitVec.ofNat 64 (0x55 + 0x100 * (kind % 16) + 0x10000 * (seq % 0x10000) + 0x100000000 * (offset % 256))
def stripeBlock (mask seq : Nat) (ack atFrame : Bool) : BitVec 64 :=
  BitVec.ofNat 64 (0x66 + 0x100 * (mask % 16 + 16 * b2n ack + 32 * b2n atFrame) + 0x10000 * (seq % 256))

/-- A column waits for its block period (R62); `al` says that it is an ALIGN column. -/
def State.sendColumn (s : State) (q : Nat) (p : BitVec 64) (al : Bool) : State :=
  s.setPort q { s.port q with cols := (s.port q).cols ++ [(p, al)] }

/-- An ALIGN column is sent (R66). -/
def State.sendAlign (s : State) (q : Nat) : State :=
  if !s.maySend q then s else
  let x := s.port q
  let s := s.setPort q { x with alignSeq := (x.alignSeq + 1) % 256 }
  (s.emit (.align q x.alignSeq x.txMask)).sendColumn q (alignBlock x.alignSeq x.txMask) true

/-- A STRIPE request or acknowledge is sent, followed by ALIGN; the port then stripes its own stream on the mask (R63, R66). -/
def State.sendStripe (s : State) (q mask : Nat) (ack atFrame : Bool) : State :=
  if !s.maySend q then s else
  let x := s.port q
  let s := s.setPort q { x with txMask := mask, stripeSeq := (x.stripeSeq + 1) % 256 }
  ((s.emit (.stripe q mask x.stripeSeq ack atFrame)).sendColumn q (stripeBlock mask x.stripeSeq ack atFrame) false).sendAlign q

/-- Bytes as data units of the port stream (R61). -/
def unitsOf : List (BitVec 8) → List (Bool × BitVec 64)
  | b0 :: b1 :: b2 :: b3 :: b4 :: b5 :: b6 :: b7 :: r => (true, BitVec.ofNat 64 (leNat [b0, b1, b2, b3, b4, b5, b6, b7])) :: unitsOf r
  | _ => []

/-- What follows a header (R70): payload, CRC-32C and pad. -/
def pktBody (pl : List (BitVec 8)) : List (BitVec 8) :=
  if pl.isEmpty then [] else padTo 8 (pl ++ leBytes 4 (crc32c pl).toNat)

/-- A packet is given to the lanes: its units join the port stream, with an IDLE after them where `idle` says so (R61, R65, R70). -/
def State.queuePkt (s : State) (q : Nat) (hdr : BitVec 64) (pl : List (BitVec 8)) (idle : Bool) : State :=
  let x := s.port q
  let us := (true, hdr) :: unitsOf (pktBody pl) ++ (if idle then [(false, idleBlock)] else [])
  (s.setPort q { x with txq := x.txq ++ us }).emit (.packet q hdr (pktBody pl))

/-- A packet leaves the port: it takes the next SEQ and counts in PKT_TX (R71, R98); IDLE follows LINE_END and FRAME_END (R65). -/
def State.sendPkt (s : State) (q dt vc flags aux : Nat) (pl : List (BitVec 8)) : State :=
  if !s.maySend q then s else
  let x := s.port q
  let s := s.setPort q { x with txSeq := (x.txSeq + 1) % 0x10000 }
  (s.cnt (R.ACT_PKT_TX q)).queuePkt q (mkHdr dt vc flags (pl.length / 4) x.txSeq aux) pl (dt == 1 || dt == 3)

/-- What the port had still to send is given up. -/
def State.dropTx (s : State) (q : Nat) : State := s.setPort q { s.port q with cols := [], txq := [] }

/-- One try of the descriptor read: CTRL_READ, TAG 0xFFFF, 16 words at address 0 (R82). -/
def State.sendDescRead (s : State) (q : Nat) : State :=
  s.sendPkt q 0x31 0 0 0 (leBytes 4 (0xffff + 0x100000) ++ leBytes 4 0)

/-- DOWN ends: the READY lanes become the active mask, and the initial STRIPE request leaves (R82, R71). -/
def State.startStriping (s : State) (q : Nat) : State :=
  let m := s.readyMask q
  let s := (s.setMask q m).dropTx q
  let s := s.setPort q { s.port q with req := some (m, false), tries := 1, txSeq := 0, rxSeq := 0, gapFree := false,
                                       noDeliver := false, resumeAtIdle := false, hunt := false }
  (s.setPst q psStriping).sendStripe q m false false

/-- The lanes that the quad brings up. -/
def State.lanesUp (s : State) (q : Nat) : Nat := F.LANE_QUAD_CTL_LANES.get (s.quad q).ctl

/-- A lane enters READY under a port in DOWN: when all are READY the port stripes at once (R82). -/
def State.portLaneUp (s : State) (q : Nat) : State :=
  if s.role q == 1 && s.pst q == psDown && !s.listening q && s.readyCount q == s.lanesUp q then
    s.portStep q (·.startStriping q)
  else s

/-- LINK_WAIT ms after the first lane of a port in DOWN entered READY (R82). -/
def linkWaitExpiry (q : Nat) (s : State) : State :=
  if s.role q == 1 && s.pst q == psDown && !s.listening q && decide (0 < s.readyCount q) then
    s.portStep q (·.startStriping q)
  else s

/-- A lane of a Clohar link has left or entered READY (R400): the sender's mask follows, and ALIGN leaves at once. -/
def State.twinLane (s : State) (q : Nat) : State :=
  if s.role q == 3 && (s.port q).txMask != s.readyMask q then
    (s.setPort q { s.port q with txMask := s.readyMask q }).sendAlign q else s

/-- LANE_READY (R46): the 16 TRAIN blocks with GOING_READY = 1 leave, the lane enters READY, and its port in DOWN may start (R82). -/
def laneReady (n : Nat) (s : State) : State :=
  if s.laneReadyOk n && !s.listening (n / 4) then
    let s := times 16 (fun _ s => s.sendTrain n true) s
    ((s.laneEnterReady n).portLaneUp (n / 4)).twinLane (n / 4)
  else s

/-- LISTEN_LANE_READY (R409): a lane of a listening quad with block lock and 16 consistent TRAIN blocks or 4 ALIGN blocks
enters READY without an exchange with a peer. -/
def listenLaneReady (n : Nat) (s : State) : State :=
  let x := s.lane n
  if s.listening (n / 4) && s.on (R.LANE_LANE_STAT n) F.LANE_LANE_STAT_BLOCK_LOCK && s.laneSt n == stTrain
      && s.gf (R.LANE_QUAD_STAT (n / 4)) F.LANE_QUAD_STAT_ORDER != 3 && (decide (16 ≤ x.run) || decide (4 ≤ x.align)) then
    (s.setLane n { x with align := 0 }).laneEnterReady n
  else s

/-- QUAD_CMD.APPLY: the lanes under R37, then the port: DOWN for CAMERA_IN, else OFF (R82). -/
def quadApply (q : Nat) (s : State) : State :=
  if !s.quadCfgOk q then s.quadApplyLanes q else
  let s := s.quadApplyLanes q
  s.portStep q (fun s =>
    let x := s.port q
    let s := s.setPort q { tsTag := x.tsTag, bcTag := x.bcTag, hasDesc := x.hasDesc, camRun := x.camRun,
                           trigRing := x.trigRing, trigQ := x.trigQ, bcBusy := x.bcBusy, bcRead := x.bcRead,
                           tsWait := x.tsWait, acked := x.acked, camRegs := x.camRegs }
    let s := s.sf (R.ACT_PORT_STAT q) F.ACT_PORT_STAT_RESTRIPING 0
    (s.setMask q 0).setPst q (if s.role q == 1 then psDown else psOff))

/-- The words of a descriptor pass R83. -/
def descOk (ws : List Nat) : Bool :=
  ws.length == 16 && ws.getD 0 0 / 256 % 256 == 1 && decide (1 ≤ ws.getD 6 0 % 8) && decide (ws.getD 6 0 % 8 ≤ 4)

/-- The descriptor held in RX_DESC. -/
def State.rxDesc (s : State) (q : Nat) : List Nat := (List.range 16).map (fun i => s.rdN (R.ACT_RX_DESC q i))

/-- Copies a descriptor to RX_DESC. -/
def State.takeDesc (s : State) (q : Nat) (ws : List Nat) : State :=
  let s := times 16 (fun i s => s.wrN (R.ACT_RX_DESC q i) (ws.getD i 0)) s
  let s := s.setPort q { s.port q with hasDesc := true, descTry := 0, descBusy := false, descAgain := false }
  s.sf (R.ACT_PORT_STAT q) F.ACT_PORT_STAT_PORT_LAT_NOW (ws.getD 6 0 % 8)

/-- The port enters LINKED, or RUN when it was running, may resume and its descriptor is unchanged (R82). -/
def State.portLinked (s : State) (q : Nat) (changed : Bool) : State :=
  if s.on (R.ACT_PORT_STAT q) F.ACT_PORT_STAT_WAS_RUN && s.on (R.ACT_PORT_CTL q) F.ACT_PORT_CTL_AUTO_RESUME && !changed then
    (s.setPort q { s.port q with deliver := false, stopPend := false }).setPst q psRun
  else s.setPst q psLinked

/-- The port goes to FAULT (R82): what it had to send is given up, and no descriptor read runs on. -/
def State.portFault (s : State) (q : Nat) : State :=
  (s.setPort q { (s.dropTx q).port q with descTry := 0, descBusy := false, descAgain := false }).setPst q psFault

/-- A try of the descriptor read has failed: three in a row end the read (R82). -/
def State.descFail (s : State) (q : Nat) : State :=
  let x := s.port q
  if x.descTry < 3 then
    (s.setPort q { x with descTry := x.descTry + 1, descBusy := false }).sendDescRead q
  else
    let s := (s.setPort q { x with descTry := 0, descBusy := false }).portErr q 5
    if s.pst q == psDiscover then s.portFault q else s

/-- A response to the descriptor read (R82, R83): STATUS and data words. -/
def State.descResp (s : State) (q status : Nat) (ws : List Nat) : State :=
  let x := s.port q
  if status == 3 then s.setPort q { x with descBusy := true }
  else if status == 0 && descOk ws then
    let changed := x.hasDesc && s.rxDesc q != ws.map (· % 0x100000000)
    let s := s.takeDesc q ws
    let s := s.when changed (fun s => (s.portErr q 7).when (s.pst q == psDiscover)
      (fun s => s.sf (R.ACT_PORT_STAT q) F.ACT_PORT_STAT_WAS_RUN 0))
    if s.pst q == psDiscover then s.portLinked q changed else s
  else
    let s := (s.setPort q { x with descTry := 0, descBusy := false, descAgain := false }).portErr q 6
    if s.pst q == psDiscover then s.portFault q else s

/-- The DISCOVER state is entered with the first try of the descriptor read (R82). -/
def State.enterDiscover (s : State) (q : Nat) : State :=
  let s := s.setPort q { s.port q with descTry := 1, descBusy := false, descAgain := false }
  (s.setPst q psDiscover).sendDescRead q

/-- A STRIPE exchange has failed, by its timeout or by its skew (R66, R82, R89): the request is sent again, and the third failure ends
in FAULT; a request with AT_FRAME is sent again (R91). -/
def State.exchangeFail (s : State) (q : Nat) : State :=
  let x := s.port q
  match x.req with
  | some (m, false) =>
    if x.tries < 3 then (s.setPort q { x with tries := x.tries + 1 }).sendStripe q m false false
    else
      let s := s.setPort q { x with req := none, tries := 0, noDeliver := true }
      ((s.portErr q 4).sf (R.ACT_PORT_STAT q) F.ACT_PORT_STAT_RESTRIPING 0).portFault q
  | some (m, true) => (s.setPort q { x with afFrames := 0 }).sendStripe q m false true
  | none => s

/-- The listening port leaves DOWN once it holds a mask and a descriptor (R94). -/
def State.listenLink (s : State) (q : Nat) : State :=
  let x := s.port q
  if s.role q == 1 && s.listening q && s.pst q == psDown && x.hasMask && x.hasDesc then s.portLinked q false else s

/-- A STRIPE acknowledge with ALIGN arrives and is deskewed to `skewNs` (R66, R82, R89, R91, R94): taken only when its mask is
that of the outstanding request. -/
def stripeAckRx (q mask skewNs : Nat) (s : State) : State :=
  s.portStep q (fun s =>
    let x := s.port q
    if s.role q != 1 then s
    else if s.listening q then
      if decide (160 < skewNs) then s.portErr q 16
      else ((s.setPort q { x with hasMask := true, rxMask := mask % 16 }).setMask q (mask % 16)).listenLink q
    else match x.req with
    | none => s.badCtrl q
    | some (m, atFrame) =>
      if m != mask then s.badCtrl q
      else if decide (160 < skewNs) then (s.portErr q 16).exchangeFail q
      else
        let restripe := s.on (R.ACT_PORT_STAT q) F.ACT_PORT_STAT_RESTRIPING
        let s := s.setPort q { x with req := none, tries := 0, afFrames := 0, rxMask := mask,
                                      resumeAtIdle := x.noDeliver && !atFrame }
        let s := s.setMask q mask
        let s := s.when restripe (fun s => (s.sf (R.ACT_PORT_STAT q) F.ACT_PORT_STAT_RESTRIPING 0).cnt (R.ACT_RESTRIPES q))
        if s.pst q == psStriping then s.enterDiscover q
        else if s.pst q == psDiscover && x.descAgain then
          (s.setPort q { s.port q with descAgain := false }).sendDescRead q
        else s)

/-- Does a STRIPE request at the camera end belong to a STRIPING exchange, which restarts the packet numbers (R71)? Not with AT_FRAME (R91),
and not when it only takes off lanes that have left READY, or repeats such a request (R89): the request itself does not say so, and the
camera end judges by its own lanes (log entry 30). -/
def State.striping (s : State) (q mask : Nat) (atFrame : Bool) : Bool :=
  let x := s.port q
  let lost := maskAnd x.rxMask (s.readyMask q) != x.rxMask
  !(atFrame || (x.rxMask != 0 && maskAnd mask x.rxMask == mask && (lost || (x.shrunk && mask == x.rxMask))))

/-- A STRIPE request arrives with its ALIGN, deskewed to `skewNs` (R66): the camera end switches and acknowledges, at once or before its
next FRAME_START (R89, R91, R92); at a host end it is out of place (R91). A request with AT_FRAME while RUN = 0 has no FRAME_START
to wait for, and the model acknowledges it at once (log entry 30). -/
def stripeReqRx (q mask seq : Nat) (atFrame : Bool) (skewNs : Nat) (s : State) : State :=
  if s.role q == 2 then
    s.portStep q (fun s =>
      let x := s.port q
      let mask := mask % 16
      if decide (160 < skewNs) then s.portErr q 16 else
      let anew := s.striping q mask atFrame
      let s := s.setPort q { x with rxMask := mask, rxAlign := seq % 256, shrunk := !anew && !atFrame }
      let s := s.setMask q mask
      if atFrame && x.camRun then s.setPort q { s.port q with pendAck := some mask }
      else
        let s := s.setPort q { s.port q with pendAck := none }
        let s := if anew then (s.dropTx q).setPort q { (s.dropTx q).port q with txSeq := 0, rxSeq := 0 } else s
        s.sendStripe q mask true atFrame)
  else if s.role q == 1 && !s.listening q then s.badCtrl q
  else s

/-- An ALIGN column arrives (R66): the lanes are lined up; more than 160 ns of skew fails the STRIPE exchange in progress; a listening port
takes its mask (R94), and its lanes count ALIGN blocks and their LANE_LOG, `logs` by position (R409). -/
def alignRx (q mask seq : Nat) (logs : List Nat) (skewNs : Nat) (s : State) : State :=
  s.portStep q (fun s =>
    let s := s.setPort q { s.port q with rxAlign := seq % 256 }
    let s := times 4 (fun p s =>
      let n := 4 * q + p
      if s.listening q && (s.laneSt n == stTrain || (s.lane n).listen)
          && s.on (R.LANE_LANE_STAT n) F.LANE_LANE_STAT_BLOCK_LOCK then
        s.setLane n { s.lane n with align := (s.lane n).align + 1, alignLog := logs.getD p 4 }
      else s) s
    let s := s.when (s.listening q) (·.orderDecide q)
    if decide (160 < skewNs) then (s.portErr q 16).exchangeFail q
    else if s.role q == 1 && s.listening q then
      let s := s.setPort q { s.port q with hasMask := true, rxMask := mask % 16 }
      (s.setMask q (mask % 16)).listenLink q
    else if s.role q == 3 then (s.setPort q { s.port q with rxMask := mask % 16 }).setMask q (mask % 16)
    else s)

/-- Does the port send a stream, into which ALIGN columns fall (R66)? -/
def State.sendsStream (s : State) (q : Nat) : Bool :=
  (s.role q == 1 && !s.listening q && decide (psStriping ≤ s.pst q) && s.pst q != psFault) || s.role q == 2
    || (s.role q == 3 && (s.port q).txMask != 0)

/-- ALIGN_SEND (R66): a port that sends a stream inserts an ALIGN column. -/
def alignSend (q : Nat) (s : State) : State := if s.sendsStream q then s.sendAlign q else s

/-- No STRIPE acknowledge within RESTRIPE_TIMEOUT: the request is sent again; the third failure ends in FAULT (R82, R89). -/
def restripeTimeout (q : Nat) (s : State) : State :=
  match (s.port q).req with
  | some (_, false) => s.portStep q (·.exchangeFail q)
  | _ => s

/-- An edge's TRIGGER column leaves (R78), or a listening port records the edge as if it had been sent (R94). The edge is the
oldest that the generator handed over; OFFSET × 125 ps lies below one block period of the quad's rate. Edges of a port in OFF, DOWN or
FAULT are discarded without taking a TRIG_SEQ: the model's choice (log entry 30). -/
def triggerSend (q offset : Nat) (s : State) : State :=
  let x := s.port q
  if decide (10 * s.blockPeriod q ≤ 125 * offset) then s else
  match x.trigQ with
  | [] => s
  | e :: rest =>
    let c := R.ACT_TRIG_CTL q
    let s := s.setPort q { x with trigQ := rest }
    if !s.on c F.ACT_TRIG_CTL_EN then s else
    let seq := s.gf (R.ACT_TRIG_NEXT q) ⟨0, 16⟩
    let sends := s.role q == 1 && !s.listening q && decide (psStriping ≤ s.pst q) && s.pst q != psFault
    if !sends && !s.listening q then s else
    let s := s.setPort q { s.port q with trigRing := ((seq, e / 4) :: (s.port q).trigRing).take 64 }
    let s := s.wrN (R.ACT_TRIG_NEXT q) ((seq + 1) % 0x10000)
    let kind := s.gf c F.ACT_TRIG_CTL_KIND
    if sends then ((s.cnt (R.ACT_TRIG_SENT q)).emit (.trigger q kind seq offset e)).sendColumn q (triggerBlock kind seq offset) false
    else s

/-- A CAMERA_OUT quad receives a TRIGGER column (R81). -/
def triggerRx (q : Nat) (s : State) : State :=
  if s.role q == 2 then (s.cnt (R.ACT_TRIG_RX q)).fire (193 + 3 * q) else s

/-- A control block of an unknown type (R64). -/
def unknownCtrlBlockRx (q : Nat) (type : BitVec 8) (s : State) : State :=
  if (s.role q == 1 || s.role q == 2) && !(type == 0xd2 || type == 0x1e || type == 0x4b || type == 0x55 || type == 0x66) then
    s.badCtrl q
  else s

/-- A CTRL_TIMEOUT runs out (R82, R87): of a descriptor read (`desc`), or of software's transaction. -/
def ctrlTimeout (q : Nat) (desc : Bool) (s : State) : State :=
  let x := s.port q
  if desc then
    if x.descTry == 0 || x.descAgain then s
    else s.portStep q (fun s => (s.when (!x.descBusy) (·.cnt (R.ACT_CTRL_TIMEOUTS q))).descFail q)
  else if x.bcBusy then
    let a := R.ACT_BC_STAT q
    let s := s.setPort q { x with bcBusy := false }
    let s := s.cnt (R.ACT_CTRL_TIMEOUTS q)
    let s := (s.sf a F.ACT_BC_STAT_STATUS 0xff).sf a F.ACT_BC_STAT_BUSY 0
    let s := s.wr a (seqBump (s.rd a))
    (s.wrN (R.ACT_BC_CMD q) 0).fire (193 + 3 * q)
  else s

/-- PORT_CMD.START: LINKED to RUN, delivery from the next FRAME_START (R82). -/
def portStart (q : Nat) (s : State) : State :=
  if s.pst q == psLinked then
    s.portStep q (fun s => (s.setPort q { s.port q with deliver := false, stopPend := false }).setPst q psRun)
  else s

/-- PORT_CMD.STOP: RUN ends after the next FRAME_END; WAS_RUN clears (R82). -/
def portStop (q : Nat) (s : State) : State :=
  if s.pst q == psRun then
    (s.setPort q { s.port q with stopPend := true }).sf (R.ACT_PORT_STAT q) F.ACT_PORT_STAT_WAS_RUN 0
  else s

/-- PORT_CMD.RESET_LINK: FAULT to DOWN (R82). -/
def portResetLink (q : Nat) (s : State) : State :=
  if s.pst q == psFault then
    s.portStep q (fun s =>
      let s := s.setPort q { s.port q with req := none, tries := 0, descTry := 0, noDeliver := false, hunt := false,
                                           openLine := false, caught := false, skip := false, rxPart := none }
      (((s.sf (R.ACT_PORT_STAT q) F.ACT_PORT_STAT_RESTRIPING 0).setMask q 0).setPst q psDown).portLaneUp q)
  else s

/-- PORT_CMD.REDISCOVER: the descriptor is read again without interrupting the stream (R82). -/
def portRediscover (q : Nat) (s : State) : State :=
  if (s.pst q == psLinked || s.pst q == psRun) && !s.listening q then
    (s.setPort q { s.port q with descTry := 1, descBusy := false, descAgain := false }).sendDescRead q
  else s

/-- The line caught in a re-stripe: one whose LINE_START was delivered and whose rest was not; it is handed on as SHORT once (R89). -/
def State.catchLine (s : State) (q : Nat) : State :=
  let x := s.port q
  if x.openLine && !x.caught then
    (((s.setPort q { x with caught := true }).toFe q .short).cnt (R.ACT_SHORT_LINES q)).portErr q 9
  else s

/-- PSTATE is STRIPING, DISCOVER, LINKED or RUN. -/
def State.portUp (s : State) (q : Nat) : Bool := decide (psStriping ≤ s.pst q) && decide (s.pst q ≤ psRun)

/-- PORT_LANE_RETURN (R91): a lane back in READY on a LINKED or RUN port is asked for with AT_FRAME = 1. -/
def portLaneReturn (q : Nat) (s : State) : State :=
  let x := s.port q
  let m := maskOr (s.activeMask q) (s.readyMask q)
  if s.role q == 1 && !s.listening q && (s.pst q == psLinked || s.pst q == psRun) && m != s.activeMask q
      && (x.req == none || (x.req != some (m, true) && (match x.req with | some (_, b) => b | none => false))) then
    s.portStep q (fun s =>
      let s := s.setPort q { x with req := some (m, true), tries := 1, afFrames := 0 }
      (s.sf (R.ACT_PORT_STAT q) F.ACT_PORT_STAT_RESTRIPING 1).sendStripe q m false true)
  else s

/-- BC_CMD.GO (R87): one CTRL_WRITE or CTRL_READ; a GO while one runs merges. A port without a link sends nothing, and the
transaction ends by its timeout. -/
def bcGo (q : Nat) (s : State) : State :=
  let x := s.port q
  if x.bcBusy then s else
  let c := R.ACT_BC_CTL q
  let tag := x.bcTag
  let next := if tag == 0xfffe then 0 else tag + 1
  let s := s.setPort q { x with bcBusy := true, bcTag := next, bcRead := !s.on c F.ACT_BC_CTL_OP }
  let s := s.wrN (R.ACT_BC_CMD q) 1
  let s := (s.sf (R.ACT_BC_STAT q) F.ACT_BC_STAT_BUSY 1).sf (R.ACT_BC_STAT q) F.ACT_BC_STAT_VALID 0
  if !s.portUp q || s.listening q || s.role q != 1 then s else
  let k := s.gf c F.ACT_BC_CTL_COUNT
  let head := leBytes 4 (tag + 0x10000 * k) ++ leBytes 4 (s.rdN (R.ACT_BC_ADDR q))
  if s.on c F.ACT_BC_CTL_OP then
    s.sendPkt q 0x30 0 0 0 (head ++ ((List.range (min k 16)).map (fun i => leBytes 4 (s.rdN (R.ACT_BC_DATA q i)))).flatten)
  else s.sendPkt q 0x31 0 0 0 head

/-- TS_CMD.GO (R88): SET_TAGGED with the pairs and TARGET_FRAME = LAST_FRAME + PORT_LAT; refused while BUSY. A port without a link sends
nothing, and the setting stays BUSY until it ends as NO_ACK: the model's choice (log entry 30). -/
def tsGo (q : Nat) (s : State) : State :=
  let a := R.ACT_TS_STAT q
  if s.on a F.ACT_TS_STAT_BUSY then s.portErr q 13 else
  let x := s.port q
  let tag := if x.tsTag == 0xffff then 1 else x.tsTag + 1
  let target := (s.rdN (R.ACT_LAST_FRAME q) + s.gf (R.ACT_PORT_STAT q) F.ACT_PORT_STAT_PORT_LAT_NOW) % 0x100000000
  let s := s.setPort q { x with tsTag := tag, tsWait := true }
  let s := s.wrN (R.ACT_TS_TARGET q) target
  let s := ((s.sf a F.ACT_TS_STAT_TAG_ID tag).sf a F.ACT_TS_STAT_VALID 0).sf a F.ACT_TS_STAT_BUSY 1
  if !s.portUp q || s.listening q || s.role q != 1 then s else
  let k := s.gf (R.ACT_TS_CTL q) ⟨0, 4⟩
  s.sendPkt q 0x33 0 0 0 (leBytes 4 (tag + 0x10000 * k) ++ leBytes 4 target ++
    ((List.range (min k 8)).map (fun i =>
      leBytes 4 (s.rdN (R.ACT_TS_ADDR q i)) ++ leBytes 4 (s.rdN (R.ACT_TS_DATA q i)))).flatten)

/-- An enabled OUT_VC out of range sets OUT_CFG_ERR (R93). -/
def State.outVcCheck (s : State) (q v : Nat) : State :=
  let w := s.rd (R.ACT_OUT_VC q v)
  s.when (F.ACT_OUT_VC_EN.get w == 1 && !outVcOk w) (·.portErr q 18)

/-- The first packet of stream `v`, and the queue without it. -/
def takeOut (v : Nat) : List (Nat × OutPkt) → Option (OutPkt × List (Nat × OutPkt))
  | [] => none
  | (w, p) :: r =>
    if v = w then some (p, r)
    else match takeOut v r with
      | some (p', r') => some (p', (w, p) :: r')
      | none => none

/-! Cutting lines (R90, R93). -/

/-- The units that a packet with a payload of `n` bytes takes (R61, R70). -/
def pktUnits (n : Nat) : Nat := if n == 0 then 1 else 1 + (n + 11) / 8

/-- The words of the longest pixel payload whose packet takes at most `u` units (R70, R75). -/
def cutWords (u : Nat) : Nat := 2 * u - 3

/-- A pixel payload cut to whole columns of `p` elements of `b` bits, so that its packet takes at most `u` units: the columns that fit
and the payload. -/
def cutPixels (b p u : Nat) (pl : List (BitVec 8)) : Nat × List (BitVec 8) :=
  let k := (cutWords u - 1) * 32 / b / p
  (k, pl.take 4 ++ leBytes (4 * ((k * p * b + 31) / 32)) (leNat (pl.drop 4) % 2 ^ (k * p * b)))

/-- The line period of the source of stream `v`, in ns: of its front end or of its view; 0 for a stream without lines. -/
def State.outPeriod (s : State) (q v : Nat) : Nat :=
  let w := s.rd (R.ACT_OUT_VC q v)
  let k := F.ACT_OUT_VC_KIND.get w
  let i := F.ACT_OUT_VC_INDEX.get w
  if F.ACT_OUT_VC_EN.get w == 0 || !outVcOk w then 0
  else if k == 0 || k == 1 then s.gf (R.FE_LINE_PERIOD_NS i) ⟨0, 24⟩
  else if k == 2 || k == 3 then (s.views.get (fun _ => {}) i).period
  else 0

/-- The units of one line period that the port leaves to stream `v` (R90): what its active lanes carry, without what the lines of the
streams below `v` take in that time. How streams share a port is the model's choice (log entry 30). -/
def State.outRoom (s : State) (q v : Nat) : Nat :=
  let t := s.outPeriod q v
  let own := t * 100 * maskCount (s.port q).txMask / s.blockPeriod q
  let below := ((List.range v).map (fun w =>
    let tw := s.outPeriod q w
    if tw == 0 then 0 else ((s.port q).lines.getD w {}).used * t / tw)).sum
  own - below

def State.setOutLine (s : State) (q v : Nat) (l : OutLine) : State :=
  s.setPort q { s.port q with lines := (s.port q).lines.set v l }

/-- A packet of stream `v` as the port sends it (R90, R93): the pixel packets of a line are cut to what fits beside its LINE_START,
LINE_END, IDLE and, in the first and last line, the frame's packets; LINE_END then says so. FRAME_START also gives the camera
registers (R84). -/
def State.outPacket (s : State) (q v : Nat) (p : OutPkt) : State × Option OutPkt :=
  let l := (s.port q).lines.getD v {}
  if p.dt == 0 then
    let s := s.setPort q { s.port q with camRegs := [leAt p.payload 4 2, leAt p.payload 8 4 % 0x40000, s.outPeriod q v] }
    (s.setOutLine q v { l with lines := leAt p.payload 4 2, fresh := true }, some p)
  else if p.dt == 2 then
    let fixed := 8 + (if l.fresh then 3 else 0) + (if leAt p.payload 4 2 + 1 == l.lines then 4 else 0)
    let room := if s.outPeriod q v == 0 then 0x1000000 else s.outRoom q v
    (s.setOutLine q v { l with fresh := false, left := room - fixed, cols := 0, cut := false, used := fixed }, some p)
  else if p.dt == 3 then
    if l.cut then
      (s, some { p with payload := (p.payload.take 6) ++ leBytes 1 (leAt p.payload 6 1 / 2 * 2 + 1) ++ (p.payload.take 8).drop 7
                          ++ leBytes 4 l.cols })
    else (s, some p)
  else if isStreamDt p.dt then
    let u := pktUnits p.payload.length
    if l.cut then (s, none)
    else if u ≤ l.left then (s.setOutLine q v { l with left := l.left - u, used := l.used + u }, some p)
    else
      let c := cutPixels (dtBits p.dt) (if p.dt == 0x18 then p.aux % 4 + 1 else 1) l.left p.payload
      let s := s.setOutLine q v { l with left := 0, cols := leAt p.payload 0 4 % 0x1000000 + c.1, cut := true, used := l.used + l.left }
      (s, if c.1 == 0 then none else some { p with flags := 1, payload := c.2 })
  else (s, some p)

/-- The stream whose packet comes next: of those that are enabled and have a packet waiting, the first after the one that sent last, in
ascending order (R92). -/
def State.outNext (s : State) (q : Nat) : Option Nat :=
  let x := s.port q
  ((List.range 4).map (fun i => (x.outLast + 1 + i) % 4)).find? (fun v =>
    s.on (R.ACT_OUT_VC q v) F.ACT_OUT_VC_EN && (takeOut v x.out).isSome)

/-- STREAM_OUT_SEND (R92): while RUN = 1 a CAMERA_OUT port sends the next packet of stream `v`, whose turn it is; an acknowledge that waits
for a frame goes out before FRAME_START (R91). -/
def streamOutSend (q v : Nat) (s : State) : State :=
  let s := s.when (s.role q == 2) (·.outVcCheck q v)
  let x := s.port q
  if s.role q == 2 && x.camRun && s.outNext q == some v then
    match takeOut v x.out with
    | some (p, r) =>
      let s := match x.pendAck with
        | some m => if p.dt == 0 then (s.setPort q { x with pendAck := none }).sendStripe q m true true else s
        | none => s
      let s := s.setPort q { s.port q with out := r, outLast := v }
      let o := s.outPacket q v p
      match o.2 with
      | some p => o.1.sendPkt q p.dt (s.gf (R.ACT_OUT_VC q v) F.ACT_OUT_VC_VC) p.flags p.aux p.payload
      | none => o.1
    | none => s
  else s

/-- A write to OUT_VC (R93): an enabled stream of a CAMERA_OUT port out of range sets OUT_CFG_ERR. -/
def outVcWrite (q v : Nat) (w : Word) (s : State) : State :=
  let s := s.wr (R.ACT_OUT_VC q v) (w &&& 0xf1ff)
  s.when (s.role q == 2) (·.outVcCheck q v)

/-! The block periods (R36, R61, R62, R65). -/

/-- The lane whose state machine serves logical lane `k`. -/
def State.logLane (s : State) (q k : Nat) : Nat := 4 * q + s.lanePos q k

/-- Does logical lane `k` stand in a mask? -/
def inMask (m k : Nat) : Bool := m / 2 ^ k % 2 == 1

/-- A block of the port leaves on logical lane `k`, where that lane is READY. -/
def State.portBlock (s : State) (q k : Nat) (hdr : BitVec 2) (p : BitVec 64) : State :=
  if s.laneSt (s.logLane q k) == stReady then s.sendBlock (s.logLane q k) hdr p else s

/-- One column of the port (R61, R62): a column block that waits, on every active lane; else one unit for each active lane, the lowest
first, IDLE where nothing waits (R65). After 4,096 columns without ALIGN one comes first (R66). A READY lane that is not active sends
IDLE. -/
def State.portColumn (s : State) (q : Nat) : State :=
  let s := if s.sendsStream q && decide (4096 ≤ (s.port q).colsSince) && !(s.port q).cols.any (·.2) then s.sendAlign q else s
  let x := s.port q
  match x.cols with
  | (p, al) :: rest =>
    let s := s.setPort q { x with cols := rest, colsSince := if al then 0 else x.colsSince + 1 }
    times 4 (fun k s =>
      if inMask x.txMask k then s.portBlock q k 0b01#2 (if al then p + BitVec.ofNat 64 (0x100000 * k) else p)
      else s.portBlock q k 0b01#2 idleBlock) s
  | [] =>
    let s := s.setPort q { x with colsSince := x.colsSince + 1 }
    times 4 (fun k s =>
      if inMask x.txMask k then
        match (s.port q).txq with
        | (d, u) :: r => (s.setPort q { s.port q with txq := r }).portBlock q k (if d then 0b10#2 else 0b01#2) u
        | [] => s.portBlock q k 0b01#2 idleBlock
      else s.portBlock q k 0b01#2 idleBlock) s

/-- One block period of a quad: each lane below READY, then the port's column. -/
def State.quadPeriod (s : State) (q : Nat) : State := (times 4 (fun p s => s.lanePeriod (4 * q + p)) s).portColumn q

/-- One CLK_TIME cycle of a quad whose PLL is locked: the block periods that end in its 8 ns (R36). -/
def State.quadTick (s : State) (q : Nat) : State :=
  if !s.on (R.LANE_QUAD_STAT q) F.LANE_QUAD_STAT_PLL_LOCK then s else
  let t := (s.quad q).txClk + 800
  let s := s.setQuad q { s.quad q with txClk := t % s.blockPeriod q }
  times (t / s.blockPeriod q) (fun _ s => s.quadPeriod q) s

/-- One CLK_TIME cycle of the lanes' transmitters. -/
def State.linkTick (s : State) : State := s.quads.foldl (fun s e => s.quadTick e.1) s

end Sys2Proof.Machine
end

