-- ==== Sys2Proof/Machine/TwinBase.lean ====
section
/-! DEFINITION. What the twin shares with Moraine and Bellows: roles, the error register, sending over the Clohar link
(R400, R401), DECIDE records and mirror cycles (R402, R403), and the mirror as the decisions see it (R406). -/

namespace Sys2Proof.Machine

/-- The twin's error register in the error record; it fires TFAULT (R414). -/
def siteTwin : Site := ⟨23, 0, 0, 38⟩
def State.twErr (s : State) (b : Nat) : State := s.raise R.TWIN_TERR b siteTwin

/-- The roles (R394). -/
def roSolo : Nat := 0
def roUnpaired : Nat := 1
def roActive : Nat := 2
def roStandby : Nat := 3
def State.twRole (s : State) : Nat := s.gf R.TWIN_TSTAT F.TWIN_TSTAT_ROLE
def State.twOn (s : State) (f : Fld) : Bool := s.on R.TWIN_TSTAT f

/-- The TSTAT bits for the lanes of the Clohar link: is a lane of the quad READY (R400)? -/
def State.linkUp (s : State) (q : Nat) : Bool := (List.range 4).any (fun p => s.laneSt (4 * q + p) == stReady)

/-- A Clohar header (R401). -/
def twinHdr (type side len seq : Nat) : BitVec 64 :=
  withEcc (0#8 ++ BitVec.ofNat 16 seq ++ BitVec.ofNat 16 len ++ BitVec.ofNat 8 side ++ BitVec.ofNat 8 type)

/-- A Clohar packet on one link: it takes that link's next SEQ (R71, R401). -/
def State.twinSendOn (s : State) (q type : Nat) (pl : List (BitVec 8)) : State :=
  let x := s.port q
  (s.setPort q { x with txSeq := (x.txSeq + 1) % 0x10000 }).queuePkt q
    (twinHdr type (s.gf R.TWIN_TSTAT F.TWIN_TSTAT_TWIN_ID) (pl.length / 4) x.txSeq) pl false

/-- Mirror traffic uses Q31 while any of its lanes is READY, and Q30 otherwise (R400). -/
def State.twinSend (s : State) (type : Nat) (pl : List (BitVec 8)) : State :=
  if s.linkUp 31 then s.twinSendOn 31 type pl else s.twinSendOn 30 type pl

/-- The 56 bytes of a DECIDE record (R403). -/
def DecRec.bytes (r : DecRec) : List (BitVec 8) :=
  leBytes 4 r.objId
    ++ leBytes 1 (r.view + 4 * r.verdict + 16 * b2n r.fused + 32 * b2n r.handed + 64 * b2n r.dflt + 128 * b2n r.pMissed)
    ++ leBytes 1 r.rule ++ leBytes 2 r.pulse ++ leBytes 4 r.frame ++ leBytes 2 r.line ++ leBytes 2 0
    ++ leBytes 4 r.colMin ++ leBytes 4 r.colMax ++ leBytes 8 r.eject.toNat ++ leBytes 2 r.vFirst ++ leBytes 2 r.vLast
    ++ leBytes 4 r.dseq ++ leBytes 1 (r.ntags + 4 * b2n r.clipped + 8 * b2n r.clamped) ++ leBytes 7 0 ++ leBytes 8 r.time.toNat

/-- A DECIDE record from its bytes (R403). -/
def decRecOf (bs : List (BitVec 8)) : DecRec where
  objId := leAt bs 0 4
  view := leAt bs 4 1 % 4
  verdict := leAt bs 4 1 / 4 % 4
  fused := leAt bs 4 1 / 16 % 2 == 1
  handed := leAt bs 4 1 / 32 % 2 == 1
  dflt := leAt bs 4 1 / 64 % 2 == 1
  pMissed := leAt bs 4 1 / 128 % 2 == 1
  rule := leAt bs 5 1
  pulse := leAt bs 6 2
  frame := leAt bs 8 4
  line := leAt bs 12 2
  colMin := leAt bs 16 4 % 0x40000
  colMax := leAt bs 20 4 % 0x40000
  eject := BitVec.ofNat 64 (leAt bs 24 8)
  vFirst := leAt bs 32 2 % 2048
  vLast := leAt bs 34 2 % 2048
  dseq := leAt bs 36 4
  ntags := leAt bs 40 1 % 4
  clipped := leAt bs 40 1 / 4 % 2 == 1
  clamped := leAt bs 40 1 / 8 % 2 == 1
  time := BitVec.ofNat 64 (leAt bs 48 8)

/-- Is a selection bit in force (R402): every one in FULL mode, those of SEL_MASK in SELECT mode? -/
def State.twSel (s : State) (b : Nat) : Bool := !s.on R.TWIN_TCTL F.TWIN_TCTL_MODE || s.on R.TWIN_SEL_MASK (bit b)

/-- An active device that is PAIRED mirrors (R402). -/
def State.mirroring (s : State) : Bool := s.twRole == roActive && s.twOn F.TWIN_TSTAT_PAIRED

/-- The mirror cycle that the present network time lies in (R402). -/
def State.twNow (s : State) : Nat := (s.ns / ((s.rdN R.TWIN_MIRROR_PERIOD * 1000 : Nat) : Int)).toNat % 0x100000000

/-- A decision is mirrored as it is made (R402): its record joins the cycle and leaves in a DECIDE packet. -/
def State.mirrorDecision (s : State) (r : DecRec) : State :=
  if s.mirroring && s.twSel (r.verdict - 1) then
    { s.twinSend 0x10 r.bytes with twOpen := s.twOpen ++ [r] }
  else s

/-- Do two records or a record and an entry carry the same object (R406)? -/
def DecRec.same (s : State) (r : DecRec) (view frame line colMin colMax : Nat) : Bool :=
  r.view == view && r.frame == frame && r.line == line
    && decide ((((r.colMin + r.colMax) / 2 : Nat) - ((colMin + colMax) / 2 : Nat) : Int).natAbs ≤ s.gf R.TWIN_TCTL F.TWIN_TCTL_MATCH_TOL)

end Sys2Proof.Machine
end

