-- ==== Sys2Proof/Machine/BellowsBase.lean ====
section
/-! DEFINITION. What Bellows shares with Moraine and the twin: taking an object (R234), the queue and its runs (R237, R238),
arming and disarming (R249), and the modes (R250). -/

namespace Sys2Proof.Machine

/-- Error registers in the error record (R254). -/
def siteBel : Site := ⟨19, 0, 0, 738⟩
def siteEjl (l : Nat) : Site := ⟨20, 0, l, 800 + l⟩
def State.belErr (s : State) (b : Nat) : State := s.raise R.BELLOWS_BERR b siteBel
def State.ejErr (s : State) (l b : Nat) : State := s.raise (R.EJL_LERR l) b (siteEjl l)

def State.armed (s : State) : Bool := s.on R.BELLOWS_BSTAT F.BELLOWS_BSTAT_ARMED
def State.shadow (s : State) : Bool := s.on R.BELLOWS_BSTAT F.BELLOWS_BSTAT_MODE_NOW
def State.ejLink (s : State) (l : Nat) : EjLink := s.ejl.get (fun _ => {}) l
def State.setEjLink (s : State) (l : Nat) (x : EjLink) : State := { s with ejl := s.ejl.set (fun _ => {}) l x }

/-- The states of a link (R247). -/
def lsOff : Nat := 0
def lsSyncing : Nat := 1
def lsUp : Nat := 2
def State.lstate (s : State) (l : Nat) : Nat := s.gf (R.EJL_LSTAT l) F.EJL_LSTAT_LSTATE

/-- A link enters a state; LINK fires when it changes (R254). -/
def State.setLstate (s : State) (l n : Nat) : State :=
  if s.lstate l == n then s else (s.sf (R.EJL_LSTAT l) F.EJL_LSTAT_LSTATE n).fire (800 + l)

/-- Q_USED, Q_PEAK and Q_FULL follow the queue (R238). -/
def State.belCount (s : State) : State :=
  let n := s.belQ.length
  let s := s.wrN R.BELLOWS_Q_USED n
  let s := s.when (decide (s.rdN R.BELLOWS_Q_PEAK < n)) (·.wrN R.BELLOWS_Q_PEAK n)
  s.sf R.BELLOWS_BSTAT F.BELLOWS_BSTAT_Q_FULL (b2n (decide (65536 ≤ n)))

/-- OUTSTANDING of a link (R256): actions sent and not yet at OPEN. -/
def State.outstanding (s : State) (l : Nat) : Nat :=
  (s.belQ.filter (fun a => a.act.valve / 32 == l && a.tx != 0 && decide (s.ns < a.act.opn))).length

/-- The action list of an object (R234). -/
def actionsOf (objId vFirst vLast pulse : Nat) (eject : Int) (cycle : Option Nat) : List Act :=
  (List.range (vLast + 1 - vFirst)).map (fun i => ⟨vFirst + i, eject, eject + (pulse * 1000 : Nat), objId, cycle⟩)

/-- Moraine hands an object over (R216, R234). -/
def State.handOver (s : State) (objId vFirst vLast pulse : Nat) (eject : Int) (cycle : Option Nat) : State :=
  { s.cnt R.BELLOWS_OBJ_IN with belIn := s.belIn ++ actionsOf objId vFirst vLast pulse eject cycle }

/-- Does an action with this OPEN extend the valve's latest run (R237)? -/
def runExtends (r : Option (Int × Int)) (opn : Int) : Bool := match r with | some (_, c) => decide (opn ≤ c) | none => false

/-- The run of a valve after an action with this OPEN and CLOSE (R237). -/
def runWith (r : Option (Int × Int)) (opn close : Int) : Int × Int :=
  match r with
  | some (o, c) => if opn ≤ c then (o, max c close) else (opn, close)
  | none => (opn, close)

/-- The runs of the queued actions alone, in acceptance order. -/
def runsOf (q : List QAct) : SMap (Option (Int × Int)) :=
  q.foldl (fun m a => SMap.set (fun _ => none) m a.act.valve
    (some (runWith (SMap.get (fun _ => none) m a.act.valve) a.act.opn a.act.close))) []

/-- The actions of an object are withdrawn (R406). -/
def State.withdraw (s : State) (objId : Nat) : State :=
  let q := s.belQ.filter (fun a => a.act.objId != objId)
  ({ s with belQ := q, belIn := s.belIn.filter (fun a => a.objId != objId), runs := runsOf q }).belCount

/-- The queue is emptied, every action counting in ACT_DISARM (R249, R253). -/
def State.dropQueue (s : State) : State :=
  ({ s.cntN R.BELLOWS_ACT_DISARM s.belQ.length with belQ := [], runs := [] }).belCount

/-- The actions that a disarm discards are dropped (R249): DROP fires when there are any. -/
def State.emptyQueue (s : State) : State := s.dropQueue.when (decide (0 < s.belQ.length)) (·.fire 737)

/-- A disarm takes effect at once (R249). -/
def State.disarm (s : State) : State :=
  let was := s.armed
  let s := (s.sf R.BELLOWS_BSTAT F.BELLOWS_BSTAT_ARMED 0).emptyQueue
  s.when was (·.fire 736)

/-- SUPPLY_WARN present (R424). -/
def State.warnNow (s : State) : Bool := s.on R.SUP_SSTAT F.SUP_SSTAT_WARN_NOW

/-- ARM (R249, R251): refused while SUP holds the supply warning and DISARM_ON_WARN = 1; it restarts the watchdog. -/
def State.arm (s : State) : State :=
  if s.warnNow && s.on R.BELLOWS_BCTL F.BELLOWS_BCTL_DISARM_ON_WARN then s.belErr 7 else
  let was := s.armed
  let s := { s.sf R.BELLOWS_BSTAT F.BELLOWS_BSTAT_ARMED 1 with wdogAt := some s.cyc }
  s.when (!was) (·.fire 736)

/-- An action whose frame did not arrive becomes unsent again (R241); one that was sent before stays sent, and its grown pulse stays to be sent. -/
def QAct.unsent (a : QAct) : QAct :=
  if a.tx == 1 then { a with tx := 0, grown := false } else if a.tx == 3 then { a with tx := 2, grown := true } else a

/-- The actions of a frame become unsent again. -/
def State.unsend (s : State) (f : EjFrame) : State :=
  { s with belQ := s.belQ.map (fun a => if f.acts.any (fun e => e.1 == a.ord) then a.unsent else a) }

/-- The frame assembled for link `l` is not sent. -/
def State.dropNext (s : State) (l : Nat) : State :=
  match (s.ejLink l).next with
  | some f => (s.unsend f).setEjLink l { s.ejLink l with next := none }
  | none => s

/-- Bellows enters a mode (R250). Entering SHADOW releases the links at once; from SHADOW to LIVE every link that is not OFF enters
SYNCING and every queued action whose OPEN has not passed is unsent. -/
def State.setMode (s : State) (m : Bool) : State :=
  if s.shadow == m then s else
  let s := s.sf R.BELLOWS_BSTAT F.BELLOWS_BSTAT_MODE_NOW (b2n m)
  let s := if m then
      times 64 (fun l s => let s := s.dropNext l; s.setEjLink l { s.ejLink l with frame := none }) s
    else
      let s := times 64 (fun l s => if s.lstate l == lsOff then s else s.setLstate l lsSyncing) s
      { s with belQ := s.belQ.map (fun a => if s.ns ≤ a.act.opn then { a with tx := 0, grown := false } else a) }
  s.fire 736

/-- Bellows' mode as software or the twin sets it: BCTL.MODE and the mode in force. -/
def State.putMode (s : State) (m : Bool) : State := (s.sf R.BELLOWS_BCTL F.BELLOWS_BCTL_MODE (b2n m)).setMode m

/-! 8b/10b code groups (R242). The manual names IEEE 802.3 clause 36 for them: the sub-blocks stand here as written there, first bit highest. -/

/-- The 6-bit sub-blocks of D0 to D31 at negative disparity. -/
def sixTable : List Nat :=
  [0b100111, 0b011101, 0b101101, 0b110001, 0b110101, 0b101001, 0b011001, 0b111000,
   0b111001, 0b100101, 0b010101, 0b110100, 0b001101, 0b101100, 0b011100, 0b010111,
   0b011011, 0b100011, 0b010011, 0b110010, 0b001011, 0b101010, 0b011010, 0b111010,
   0b110011, 0b100110, 0b010110, 0b110110, 0b001110, 0b101110, 0b011110, 0b101011]

/-- The 4-bit sub-blocks of data and of K code groups at negative disparity. -/
def fourTable : List Nat := [0b1011, 0b1001, 0b0101, 0b1100, 0b1101, 0b1010, 0b0110, 0b1110]
def fourTableK : List Nat := [0b1011, 0b0110, 0b1010, 0b1100, 0b1101, 0b0101, 0b1001, 0b0111]

/-- How many of the low `n` bits are 1. -/
def ones (x n : Nat) : Nat := ((List.range n).map (fun i => x / 2 ^ i % 2)).sum

/-- A 6-bit sub-block at running disparity `rd` (true: positive). -/
def six (k : Bool) (x : Nat) (rd : Bool) : Nat :=
  let v := if k && x == 28 then 0b001111 else sixTable.getD x 0
  if rd && (ones v 6 != 3 || (x == 7 && !k)) then 63 - v else v

/-- A 4-bit sub-block: D.x.7 has its alternate form where the primary one would give five equal bits in a row. -/
def four (k : Bool) (x y : Nat) (rd : Bool) : Nat :=
  if k then (if rd then 15 - fourTableK.getD y 0 else fourTableK.getD y 0)
  else if y == 7 && (if rd then x == 11 || x == 13 || x == 14 else x == 17 || x == 18 || x == 20) then (if rd then 0b1000 else 0b0111)
  else
    let v := fourTable.getD y 0
    if rd && (ones v 4 != 2 || y == 3) then 15 - v else v

/-- The running disparity after a sub-block of `n` bits. -/
def rdAfter (v n : Nat) (rd : Bool) : Bool := if 2 * ones v n == n then rd else !rd

/-- The code groups of K and data bytes from a running disparity on. -/
def codeGroups : Bool → List (Bool × Nat) → List (BitVec 10)
  | _, [] => []
  | rd, (k, b) :: rest =>
    let v := six k (b % 32) rd
    let r1 := rdAfter v 6 rd
    let w := four k (b % 32) (b / 32) r1
    BitVec.ofNat 10 (16 * v + w) :: codeGroups (rdAfter w 4 r1) rest

/-- The byte of a code group, and whether it is a K code group; `none` for an invalid one. -/
def codeByte (g : BitVec 10) (rd : Bool) : Option (Bool × Nat) :=
  let v := g.toNat / 16
  let w := g.toNat % 16
  let r1 := rdAfter v 6 rd
  if v == six true 28 rd then ((List.range 8).find? (fun y => four true 28 y r1 == w)).map (fun y => (true, 28 + 32 * y))
  else
    match (List.range 32).find? (fun x => six false x rd == v) with
    | none => none
    | some x =>
      match (List.range 8).find? (fun y => four false x y r1 == w) with
      | some y => some (false, x + 32 * y)
      | none => if (x == 23 || x == 27 || x == 29 || x == 30) && four true x 7 r1 == w then some (true, x + 224) else none

/-- The bytes of code groups from a running disparity on; `none` once one is invalid. -/
def codeBytes : Bool → List (BitVec 10) → List (Option (Bool × Nat))
  | _, [] => []
  | rd, g :: gs => codeByte g rd :: codeBytes (rdAfter (g.toNat % 16) 4 (rdAfter (g.toNat / 16) 6 rd)) gs

/-- The running disparity after code groups. -/
def groupsEnd (rd : Bool) (gs : List (BitVec 10)) : Bool :=
  gs.foldl (fun r g => rdAfter (g.toNat % 16) 4 (rdAfter (g.toNat / 16) 6 r)) rd

def kPre : Nat := 0xbc
def kSync : Nat := 0x3c
def kSofUp : Nat := 0xfb
def kEof : Nat := 0xfd

/-- A downstream frame in code groups (R243): every burst starts at negative disparity. -/
def downGroups (bytes : List (BitVec 8)) : List (BitVec 10) :=
  codeGroups false (List.replicate 8 (true, kPre) ++ (true, kSync) :: bytes.map (fun b => (false, b.toNat)) ++ [(true, kEof)])

/-- What an upstream burst holds (R242, R244): nothing without SOF_UP after its preamble; `some none` where a code group, the length or the CRC is
wrong; else the 40-byte body. -/
def upBody (gs : List (BitVec 10)) : Option (Option (List (BitVec 8))) :=
  let items := (codeBytes false gs).dropWhile (fun b => b == some (true, kPre))
  match items with
  | some (true, 0xfb) :: rest =>
    let data := rest.filterMap (fun b => match b with | some (false, n) => some (BitVec.ofNat 8 n) | _ => none)
    let body := data.take 40
    if rest.length == 45 && data.length == 44 && rest.getLast? == some (some (true, kEof)) && leAt data 40 4 == (crc32c body).toNat
    then some (some body) else some none
  | _ => none

/-- A heartbeat frame in code groups (R398): K28.5 twice, K28.1, the body, its CRC-32C and K29.7. -/
def hbGroups (rd : Bool) (body : List (BitVec 8)) : List (BitVec 10) :=
  codeGroups rd ([(true, kPre), (true, kPre), (true, kSync)]
    ++ (body ++ leBytes 4 (crc32c body).toNat).map (fun b => (false, b.toNat)) ++ [(true, kEof)])

/-- The body of a heartbeat frame whose code groups, length and CRC are right (R398, R399); the form of the first K28.5 tells the
running disparity. -/
def hbFrame (gs : List (BitVec 10)) : Option (List (BitVec 8)) :=
  let items := codeBytes ((gs.headD 0).toNat / 16 == 0b110000) gs
  let pre := items.takeWhile (fun b => b == some (true, kPre))
  match items.drop pre.length with
  | some (true, 0x3c) :: rest =>
    let data := rest.filterMap (fun b => match b with | some (false, n) => some (BitVec.ofNat 8 n) | _ => none)
    let body := data.take 12
    if decide (2 ≤ pre.length) && rest.length == 17 && data.length == 16 && rest.getLast? == some (some (true, kEof))
        && leAt data 12 4 == (crc32c body).toNat then some body else none
  | _ => none

end Sys2Proof.Machine
end

