-- ==== Sys2Proof/Machine/Bellows.lean ====
section
/-! DEFINITION. Bellows: accepting actions (R235 to R237), slots and sending (R239 to R241), the link frames (R243, R244), link
states (R247, R248), arming (R249), the watchdog (R251) and test actions (R252). -/

namespace Sys2Proof.Machine

/-! Acceptance (R235). -/

/-- How Bellows answers an action: the codes of TEST_STAT.RESULT (R255). -/
def rQueued : Nat := 0
def rMerged : Nat := 1
def rLate : Nat := 2
def rQfull : Nat := 3
def rMasked : Nat := 4
def rOnLimit : Nat := 5
def rDisarmed : Nat := 6

/-- An action is dropped (R235): its counter, its sticky bit if it has one, and DROP. -/
def State.dropAct (s : State) (counter : Nat) (sticky : Option Nat) : State :=
  let s := s.cnt counter
  let s := match sticky with | some b => s.belErr b | none => s
  s.fire 737

def State.leadMin (s : State) : Int := ((s.gf R.BELLOWS_LEAD ⟨16, 8⟩ * 1000 : Nat) : Int)
def State.sendAhead (s : State) : Int := ((s.gf R.BELLOWS_LEAD ⟨0, 16⟩ * 1000 : Nat) : Int)

/-- The check that an action fails first, or its acceptance (R235). -/
def State.actResult (s : State) (a : Act) : Nat :=
  if !s.shadow && !s.armed then rDisarmed
  else if !s.on (R.BELLOWS_VALVE_EN (a.valve / 32)) (bit (a.valve % 32)) then rMasked
  else if a.opn < s.ns + s.leadMin then rLate
  else if s.belQ.any (fun b => b.act.valve == a.valve && b.act.opn == a.opn) then rMerged
  else
    let old := s.runs.get (fun _ => none) a.valve
    let r := runWith old a.opn a.close
    if runExtends old a.opn && decide (((s.rdN R.BELLOWS_MAX_ON_US * 1000 : Nat) : Int) < r.2 - r.1) then rOnLimit
    else if 65536 ≤ s.belQ.length then rQfull else rQueued

/-- A queued action takes the later CLOSE of an equal one (R236); one that has been sent is to be sent again with the longer pulse. -/
def QAct.merge (q : QAct) (a : Act) : QAct :=
  if q.act.close < a.close then { q with act := { q.act with close := a.close }, grown := q.grown || q.tx != 0 } else q

/-- Bellows takes one action (R235). -/
def State.takeAct (s : State) (a : Act) : State :=
  let s := s.cnt R.BELLOWS_ACT_IN
  let r := s.actResult a
  if r == rDisarmed then s.dropAct R.BELLOWS_ACT_DISARM none
  else if r == rMasked then s.dropAct R.BELLOWS_ACT_MASKED none
  else if r == rLate then s.dropAct R.BELLOWS_ACT_LATE (some 1)
  else if r == rMerged then
    let q := s.belQ.map (fun b => if b.act.valve == a.valve && b.act.opn == a.opn then b.merge a else b)
    let run := runWith (s.runs.get (fun _ => none) a.valve) a.opn a.close
    let m := s.runs.set (fun _ => none) a.valve (some run)
    { s with belQ := q, runs := m }.cnt R.BELLOWS_ACT_MERGED
  else if r == rOnLimit then s.dropAct R.BELLOWS_ACT_ON_LIMIT (some 3)
  else if r == rQfull then s.dropAct R.BELLOWS_ACT_QFULL (some 0)
  else
    let run := runWith (s.runs.get (fun _ => none) a.valve) a.opn a.close
    ({ s with belQ := s.belQ ++ [({ act := a, ord := s.belOrd, cyc := s.cyc } : QAct)], belOrd := s.belOrd + 1
              runs := s.runs.set (fun _ => none) a.valve (some run) }.cnt R.BELLOWS_ACT_QUEUED).belCount

/-- ACTION_ACCEPT (R235): the next action in hand-over order. -/
def actionAccept (s : State) : State :=
  match s.belIn with
  | a :: rest => { s with belIn := rest }.takeAct a
  | [] => s

/-- BCMD.TEST_ACT (R252): one action is formed from TEST_VALVE and TEST_TIME. No result is present while it waits (R379). -/
def testAct (s : State) : State :=
  let opn := ((s.rd64 R.BELLOWS_TEST_TIME_LO R.BELLOWS_TEST_TIME_HI).toInt.tdiv 250) * 250
  let pulse := sat (s.gf R.BELLOWS_TEST_VALVE ⟨16, 16⟩) 200 50000
  { s.sf R.BELLOWS_TEST_STAT F.BELLOWS_TEST_STAT_VALID 0 with
    testIn := s.testIn ++ [⟨s.gf R.BELLOWS_TEST_VALVE ⟨0, 11⟩, opn, opn + pulse * 1000, 0xffffffff, none⟩] }

/-- TEST_ACTION_CHECK (R252): after the hand-over in progress, the test action passes through R235 and TEST_STAT takes its result. -/
def testActionCheck (s : State) : State :=
  if !s.belIn.isEmpty then s else
  match s.testIn with
  | a :: rest =>
    let r := s.actResult a
    let s := { s with testIn := rest }.takeAct a
    let st := R.BELLOWS_TEST_STAT
    let s := (s.wr st (seqBump (s.rd st))).sf st F.BELLOWS_TEST_STAT_VALID (b2n rest.isEmpty)
    (s.sf st F.BELLOWS_TEST_STAT_RESULT r).fire 739
  | [] => s

/-- The runs of the valves that still have an action in the queue (R237). -/
def runsKept (runs : SMap (Option (Int × Int))) (q : List QAct) : SMap (Option (Int × Int)) :=
  runs.filter (fun e => q.any (fun a => a.act.valve == e.1))

/-- ACTION_RETIRE (R238, R250): every action whose CLOSE network time has reached. -/
def actionRetire (s : State) : State :=
  let due := s.belQ.filter (fun a => decide (a.act.close ≤ s.ns))
  if due.isEmpty then s else
  let sent := (due.filter (fun a => a.tx != 0)).length
  let s := s.cntN R.BELLOWS_ACT_DONE sent
  let s := s.when s.shadow (·.cntN R.BELLOWS_ACT_SHADOW (due.length - sent))
  let q := s.belQ.filter (fun a => !decide (a.act.close ≤ s.ns))
  ({ s with belQ := q, runs := runsKept s.runs q }).belCount

/-! Slots (R239, R240). -/

/-- Elapsed time in ns: 8 ns per cycle of CLK_TIME. -/
def State.elapsed (s : State) : Nat := s.cyc * 8

/-- The network time of the slot ahead: the first multiple of 20,000 ns not before now. -/
def State.slotAhead (s : State) : Int := -((-s.ns) / 20000) * 20000

/-- The order of sending (R238): OPEN, then valve, then acceptance. -/
def QAct.le (a b : QAct) : Bool :=
  decide (a.act.opn < b.act.opn)
    || (a.act.opn == b.act.opn && (decide (a.act.valve < b.act.valve) || (a.act.valve == b.act.valve && decide (a.ord ≤ b.ord))))

def qInsert (a : QAct) : List QAct → List QAct
  | [] => [a]
  | b :: bs => if a.le b then a :: b :: bs else b :: qInsert a bs

/-- The actions in the order of sending. -/
def qSort (q : List QAct) : List QAct := q.foldr qInsert []

/-- Is an action of link `l` eligible for the slot at `t` (R240)? One accepted in this cycle waits (R253). -/
def State.eligible (s : State) (l : Nat) (t : Int) (a : QAct) : Bool :=
  s.lstate l == lsUp && a.act.valve / 32 == l && decide (a.act.opn ≤ t + s.sendAhead) && decide (t + 20000 ≤ a.act.opn)
    && (a.tx == 0 || (a.tx == 2 && a.grown)) && !a.missed && decide (a.cyc < s.cyc)

/-- An action that can no longer be sent is dropped and keeps its entry (R240). -/
def State.missActs (s : State) (t : Int) : State :=
  let late (a : QAct) : Bool := a.tx == 0 && !a.missed && decide (a.act.opn < t + 20000)
  let lost := s.belQ.filter late
  if lost.isEmpty then s else
  let s := lost.foldl (fun s a => ((s.cnt R.BELLOWS_ACT_MISSED).cnt (R.EJL_OUT_DROP (a.act.valve / 32))).fire 737) s
  ({ s with belQ := s.belQ.map (fun a => if late a then { a with missed := true } else a) }).belErr 2

/-- PULSE_US of a queued action, in µs (R243). -/
def QAct.pulse (a : QAct) : Nat := ((a.act.close - a.act.opn) / 1000).toNat

/-- The downstream frame: header, entries, CRC (R243). -/
def downFrame (l : Nat) (armed : Bool) (fseq : Nat) (t : Int) (as : List QAct) : List (BitVec 8) :=
  let body := leBytes 1 (1 + 16 * b2n armed) ++ leBytes 1 l ++ leBytes 1 as.length ++ leBytes 1 0 ++ leBytes 2 fseq
    ++ leBytes 6 ((t / 250) % 281474976710656).toNat
    ++ (as.map (fun a => leBytes 1 (a.act.valve % 32) ++ leBytes 1 0 ++ leBytes 2 a.pulse
      ++ leBytes 4 ((a.act.opn / 250) % 4294967296).toNat)).flatten
  body ++ leBytes 4 (crc32c body).toNat

/-- An action that becomes eligible before its object's cycle is acknowledged counts once (R412). -/
def State.earlySend (s : State) (a : QAct) : Bool :=
  !a.early && s.twRole == roActive && (match a.act.cycle with
    | some c => match s.twAcked with
      | some k => decide (0 < fdiff c k)
      | none => true
    | none => false)

/-- The frame of slot `t` for link `l` (R240, R241, R243). -/
def State.assembleLink (s : State) (t : Int) (l : Nat) : State :=
  let s := s.dropNext l
  if s.lstate l == lsOff then s else
  let x := s.ejLink l
  let el := qSort (s.belQ.filter (s.eligible l t))
  let early := el.filter (s.earlySend)
  let s := s.when (!early.isEmpty) (fun s => (s.cntN R.TWIN_EARLY_SEND early.length).twErr 6)
  let fresh := 256 - s.outstanding l
  let pick := el.foldl (fun (acc : List QAct × Nat) a =>
    if acc.1.length == 8 then acc
    else if a.tx != 0 then (acc.1 ++ [a], acc.2)
    else if acc.2 == 0 then acc else (acc.1 ++ [a], acc.2 - 1)) ([], fresh)
  let acts := pick.1
  let mark (a : QAct) : QAct :=
    let a : QAct := if early.any (fun b => b.ord == a.ord) then { a with early := true } else a
    if acts.any (fun b => b.ord == a.ord) then { a with tx := a.tx + 1 } else a
  let s := { s with belQ := s.belQ.map mark }
  let f : EjFrame := { t := t, fseq := x.fseq, armed := s.armed, acts := acts.map (fun a => (a.ord, a.act.close))
                       bytes := downFrame l s.armed x.fseq t acts }
  s.setEjLink l { x with next := some f }

/-- SLOT_ASSEMBLE (R239, R240): at T_k − 2 µs in LIVE mode, once for a slot, and at least 16 µs after the slot in progress began. -/
def slotAssemble (s : State) : State :=
  let t := s.slotAhead
  let start := s.elapsed + (t - s.ns).toNat
  let cur := match s.slotNext with
    | some n => if n.1 ≤ s.elapsed then some n.1 else s.slotAt
    | none => s.slotAt
  let again := match s.slotNext with
    | some n => decide (s.elapsed < n.1) && n.2 == t
    | none => false
  if s.shadow || decide (s.ns < t - 2000) || again
    || (match cur with | some p => decide (start < p + 16000) | none => false) then s else
  let s := { s with slotAt := cur, slotNext := some (start, t) }
  let s := s.missActs t
  times 64 (fun l s => s.assembleLink t l) s

/-! Upstream frames (R244, R247). -/

/-- A register takes an upstream word, and a rising bit sets a sticky LERR bit. -/
def State.coils (s : State) (a v l b : Nat) : State :=
  let old := s.rd a
  let s := s.wrN a v
  s.when (BitVec.ofNat 32 v &&& ~~~ old != 0) (·.ejErr l b)

/-- A valid upstream frame is copied to the link's registers (R244, R256). -/
def State.copyUp (s : State) (l : Nat) (b : List (BitVec 8)) : State :=
  let st := leAt b 0 1
  let s := s.coils (R.EJL_COIL_OPEN l) (leAt b 4 4) l 4
  let s := s.coils (R.EJL_COIL_SHORT l) (leAt b 8 4) l 5
  let s := s.wrN (R.EJL_VALVE_ON l) (leAt b 12 4)
  let s := s.wrN (R.EJL_BANK_ENV l) (leAt b 22 4)
  let s := s.wrN (R.EJL_BANK_TB l) (leAt b 26 2 + 0x10000 * leAt b 20 2)
  let s := s.wrN (R.EJL_BANK_ID l) (leAt b 28 4)
  let s := s.when (s.rdN (R.EJL_BANK_CNT l) / 0x10000 != leAt b 18 2) (·.ejErr l 7)
  let s := s.wrN (R.EJL_BANK_CNT l) (leAt b 16 4)
  let s := s.when (flag st 6 && !s.on (R.EJL_LSTAT l) F.EJL_LSTAT_BANK_FAULT) (·.ejErr l 6)
  let s := s.sf (R.EJL_LSTAT l) F.EJL_LSTAT_SYNC_OK (b2n (flag st 4))
  let s := s.sf (R.EJL_LSTAT l) F.EJL_LSTAT_ARMED_SEEN (b2n (flag st 5))
  let s := s.sf (R.EJL_LSTAT l) F.EJL_LSTAT_BANK_FAULT (b2n (flag st 6))
  let s := s.sf (R.EJL_LSTAT l) F.EJL_LSTAT_HOLDOVER (b2n (flag st 7))
  s.sf (R.EJL_LSTAT l) F.EJL_LSTAT_UP_VALID 1

/-- A link leaves UP (R247): SYNCING, LOST and one LINK. -/
def State.linkLost (s : State) (l : Nat) : State :=
  let s := s.sf (R.EJL_LSTAT l) F.EJL_LSTAT_LSTATE lsSyncing
  if s.on (R.EJL_LERR l) (bit 0) then s.fire (800 + l) else s.ejErr l 0

/-- The actions of an acknowledged frame are sent (R240): one whose pulse has grown since is to be sent again. -/
def State.ackActs (s : State) (f : EjFrame) : State :=
  let mine (a : QAct) : Option (Nat × Int) := f.acts.find? (fun e => e.1 == a.ord)
  let new := (s.belQ.filter (fun a => (mine a).isSome && !a.acked)).length
  let s := { s with belQ := s.belQ.map (fun a => match mine a with
    | some e => { a with tx := 2, acked := true, grown := decide (e.2 < a.act.close) }
    | none => a) }
  s.cntN R.BELLOWS_ACT_SENT new

/-- UPSTREAM_FRAME_RX (R242, R244, R247): the code groups of a burst, `sof` ns from T_k to its SOF_UP. -/
def upstreamFrameRx (l : Nat) (sof : Nat) (groups : List (BitVec 10)) (s : State) : State :=
  let x := s.ejLink l
  match x.frame, upBody groups with
  | some f, some none =>
    if s.lstate l == lsOff then s else s.setEjLink l { x with frame := some { f with crcBad := true } }
  | some f, some (some body) =>
    if s.lstate l == lsOff || leAt body 1 1 % 64 != l || decide (sof < 9000) || decide (12000 < sof) then s
    else
      let s := (s.copyUp l body).cnt (R.EJL_UP_OK l)
      let ok := flag (leAt body 0 1) 4
      let ack := leAt body 2 2 == f.fseq
      let s := s.setEjLink l { x with frame := some { f with valid := true, acked := ack }, miss := 0 }
      let s := s.when ack (·.ackActs f)
      if s.lstate l == lsSyncing && ok && ack && !x.resync then
        ((s.wr64 (R.EJL_REJOIN_LO l) (R.EJL_REJOIN_HI l) (BitVec.ofInt 64 f.t)).cnt (R.EJL_LINK_UPS l)).setLstate l lsUp
      else if s.lstate l == lsUp && !ok then s.linkLost l
      else s
  | _, _ => s

/-- UPSTREAM_WINDOW_CLOSE (R241, R247, R256): the upstream window of the slot closes on link `l`. The actions of an unacknowledged frame become
unsent while the link is UP (R248). -/
def upstreamWindowClose (l : Nat) (s : State) : State :=
  let x := s.ejLink l
  match x.frame with
  | none => s
  | some f =>
    let s := s.setEjLink l { x with frame := none }
    let s := if f.valid then s else
      let s := (s.sf (R.EJL_LSTAT l) F.EJL_LSTAT_UP_VALID 0).ejErr l (if f.crcBad then 1 else 2)
      if s.lstate l != lsUp then s else
      let s := s.cnt (if f.crcBad then R.EJL_UP_CRC_ERR l else R.EJL_UP_MISSING l)
      let s := s.setEjLink l { s.ejLink l with miss := x.miss + 1 }
      if 3 ≤ x.miss + 1 then (s.setEjLink l { s.ejLink l with miss := 0 }).linkLost l else s
    if f.acked then s else
    let s := ((s.cnt (R.EJL_RETX_FRAMES l)).cnt R.BELLOWS_RETX).ejErr l 3
    if s.lstate l == lsUp then s.unsend f else s

/-- The frame of link `l` leaves once its time has come (R245); a window of the slot before that is still open closes. Outside UP a frame carries no
action (R247). -/
def State.sendLink (s : State) (l : Nat) : State :=
  let cable : Nat := s.gf (R.EJL_LCTL l) F.EJL_LCTL_CABLE_NS
  match (s.ejLink l).next with
  | some f =>
    if s.lstate l == lsOff || decide (s.ns < f.t - cable - 800) then s else
    let s := upstreamWindowClose l s
    let up := s.lstate l == lsUp
    let s := if up then s else s.unsend f
    let f := if up then f else { f with acts := [], bytes := downFrame l f.armed f.fseq f.t [] }
    let x := s.ejLink l
    let s := s.setEjLink l { x with next := none, frame := some f, fseq := (f.fseq + 1) % 0x10000, resync := false }
    (s.cnt (R.EJL_FRAMES_TX l)).emit (.ejFrame l (f.t - cable) (downGroups f.bytes))
  | none => s

/-- DOWNSTREAM_FRAME_SEND (R245): the assembled frames whose time has come leave. -/
def downstreamFrameSend (s : State) : State := if s.shadow then s else times 64 (fun l s => s.sendLink l) s

/-! Commands and writes. -/

/-- A write of LCTL (R247, R256): a CABLE_NS above 1,000 is ignored and sets CFG_ERR. -/
def lctlWrite (l : Nat) (v : Word) (s : State) : State :=
  let a := R.EJL_LCTL l
  let c := F.EJL_LCTL_CABLE_NS.get v
  let s := if 1000 < c then s.ejErr l 8 else s.sf a F.EJL_LCTL_CABLE_NS c
  let en := F.EJL_LCTL_EN.get v
  let s := s.sf a F.EJL_LCTL_EN en
  if en == 1 then (if s.lstate l == lsOff then s.setLstate l lsSyncing else s)
  else
    let s := (s.setLstate l lsOff).dropNext l
    s.setEjLink l { s.ejLink l with frame := none, miss := 0 }

/-- LCMD.RESYNC (R247). -/
def linkResync (l : Nat) (s : State) : State :=
  if s.lstate l == lsOff then s else
  (s.setEjLink l { s.ejLink l with resync := true, miss := 0 }).setLstate l lsSyncing

/-- A write of BCTL (R249 to R251). -/
def bctlWrite (v : Word) (s : State) : State :=
  let was := s.on R.BELLOWS_BCTL F.BELLOWS_BCTL_WDOG_EN
  let s := s.wr R.BELLOWS_BCTL (v &&& 0xf)
  let s := if F.BELLOWS_BCTL_WDOG_EN.get v == 1 && !was then { s with wdogAt := some s.cyc } else s
  s.setMode (F.BELLOWS_BCTL_MODE.get v == 1)

/-- BCMD.ARM (R249). -/
def armCmd (s : State) : State := s.arm
/-- BCMD.DISARM (R249). -/
def disarmCmd (s : State) : State := s.disarm
/-- BCMD.KICK (R251). -/
def kick (s : State) : State := { s with wdogAt := some s.cyc }

/-- BCMD.CLEAR (R253): only while disarmed in LIVE mode. -/
def bellowsClear (s : State) : State := if s.armed || s.shadow then s.belErr 8 else s.dropQueue

/-- BELLOWS_WDOG_EXPIRY (R251): WDOG_US without a KICK. -/
def bellowsWdogExpiry (s : State) : State :=
  match s.wdogAt with
  | some c =>
    if s.on R.BELLOWS_BCTL F.BELLOWS_BCTL_WDOG_EN && decide (s.rdN R.BELLOWS_WDOG_US * 1000 ≤ (s.cyc - c) * 8) then
      ({ s with wdogAt := none }.belErr 4).disarm
    else s
  | none => s

/-- BELLOWS_DISARM_INPUT (R249): an event delivered to consumer input 4 (R359). -/
def bellowsDisarmInput (s : State) : State :=
  if !s.consIn.contains 4 then s else
  let s := { s with consIn := erase1 4 s.consIn }
  if s.on R.BELLOWS_BCTL F.BELLOWS_BCTL_DISARM_ON_EVT then (s.belErr 6).disarm else s

end Sys2Proof.Machine
end

