-- ==== Sys2Proof/Machine/ExecBellows.lean ====
section
/-! DEFINITION. The meanings of the commands of this family: the domain each belongs to, the units it names, and its effect. -/

namespace Sys2Proof.Machine

/-- UPSTREAM_FRAME_RX (R244). -/
def execUpstreamFrameRx (l sof : Nat) (groups : List (BitVec 10)) (s : State) : Out :=
  onMain (l < 64) s (upstreamFrameRx l sof groups)

/-- UPSTREAM_WINDOW_CLOSE (R241). -/
def execUpstreamWindowClose (l : Nat) (s : State) : Out := onMain (l < 64) s (upstreamWindowClose l)

/-- BCTL_WRITE (R250). -/
def execBctlWrite (v : Word) (s : State) : Out := onMain true s (bctlWrite v)

/-- LCTL_WRITE (R247). -/
def execLctlWrite (l : Nat) (v : Word) (s : State) : Out := onMain (l < 64) s (lctlWrite l v)

/-- LINK_RESYNC (R247). -/
def execLinkResync (l : Nat) (s : State) : Out := onMain (l < 64) s (linkResync l)

/-- ACTION_ACCEPT (R235). -/
def execActionAccept (s : State) : Out := onMain true s actionAccept

/-- SLOT_ASSEMBLE (R240). -/
def execSlotAssemble (s : State) : Out := onMain true s slotAssemble

/-- DOWNSTREAM_FRAME_SEND (R245). -/
def execDownstreamFrameSend (s : State) : Out := onMain true s downstreamFrameSend

/-- ACTION_RETIRE (R238). -/
def execActionRetire (s : State) : Out := onMain true s actionRetire

/-- ARM (R249). -/
def execArm (s : State) : Out := onMain true s armCmd

/-- DISARM (R249). -/
def execDisarm (s : State) : Out := onMain true s disarmCmd

/-- KICK (R251). -/
def execKick (s : State) : Out := onMain true s kick

/-- TEST_ACT (R252). -/
def execTestAct (s : State) : Out := onMain true s testAct

/-- TEST_ACTION_CHECK (R252). -/
def execTestActionCheck (s : State) : Out := onMain true s testActionCheck

/-- BELLOWS_CLEAR (R253). -/
def execBellowsClear (s : State) : Out := onMain true s bellowsClear

/-- BELLOWS_WDOG_EXPIRY (R251). -/
def execBellowsWdogExpiry (s : State) : Out := onMain true s bellowsWdogExpiry

/-- BELLOWS_DISARM_INPUT (R249). -/
def execBellowsDisarmInput (s : State) : Out := onMain true s bellowsDisarmInput

end Sys2Proof.Machine
end

