-- ==== Sys2Proof/Machine/Cache.lean ====
section
/-! DEFINITION. Memory as the coherent masters see it (R366, R371, R374): the cores' data caches and L2, kept as one coherent set of
lines, the cores' write buffers and their instruction caches. The masters that see DRAM only use `memRead` and `memPut`. -/

namespace Sys2Proof.Machine

def State.line? (s : State) (a : Nat) : Option CacheLine := (SMap.get (fun _ => Option.none) (s.cache.map (fun e => (e.1, some e.2))) (a / 64))
def State.setLine (s : State) (a : Nat) (l : CacheLine) : State := { s with cache := SMap.ins s.cache (a / 64) l }
def State.dropLine (s : State) (a : Nat) : State := { s with cache := SMap.del s.cache (a / 64) }

/-- The newest byte in the caches or memory. -/
def State.cohByte (s : State) (a : Nat) : BitVec 8 :=
  match s.line? a with
  | some l => l.data.getD (a % 64) 0
  | none => s.rdByte a

/-- `n` bytes as a coherent master sees them. -/
def State.cohBytes (s : State) (a n : Nat) : List (BitVec 8) := (List.range n).map (fun i => s.cohByte (a + i))

/-- A coherent read (R374): the blocks that no cache holds are read from memory. -/
def State.cohRead (s : State) (a n : Nat) : State × Bool :=
  (spans 64 a n).foldl (fun x p =>
    if (x.1.line? p.1).isSome then x else
    let y := x.1.memRead p.1 p.2
    (y.1, x.2 || y.2)) (s, false)

/-- A coherent device write (R374): memory takes it, and a cached copy with it. -/
def State.cohPut (s : State) (a : Nat) (bs : List (BitVec 8)) : State × Bool :=
  (spans 64 a bs.length).foldl (fun x p =>
    let d := (bs.drop (p.1 - a)).take p.2
    let y := x.1.memPut p.1 d
    if y.2 then (y.1, true) else
    match y.1.line? p.1 with
    | some l => (y.1.setLine p.1 { l with data := l.data.take (p.1 % 64) ++ d ++ l.data.drop (p.1 % 64 + p.2) }, x.2)
    | none => (y.1, x.2)) (s, false)

/-- Would a coherent read meet a double-bit error? -/
def State.badCoh (s : State) (a n : Nat) : Bool := (spans 64 a n).any (fun p => (s.line? p.1).isNone && s.badRead p.1 p.2)

/-- A dirty line goes to memory; `keep` says whether its copy stays (clean) or goes (flush, eviction). -/
def State.cleanLine (s : State) (a : Nat) (keep : Bool) : State :=
  match s.line? a with
  | some l =>
    let s := if l.dirty then (s.memPut (a / 64 * 64) l.data).1 else s
    if keep then s.setLine a { data := l.data } else s.dropLine a
  | none => s

/-- How many lines the eight data caches of 32 KiB and the 2 MiB L2 hold at most (R366). -/
def cacheLines : Nat := 8 * 512 + 32768

/-- The line of an address is brought into the caches; when they are full a line leaves, which one the spec does not say. Answers whether
memory gave an error response, and then no line comes. -/
def State.fillLine (s : State) (a : Nat) : State × Bool :=
  if (s.line? a).isSome then (s, false) else
  let s := if s.cache.length < cacheLines then s else
    match s.cache[Config.victim s.freeIx % s.cache.length]? with
    | some e => (s.cleanLine (64 * e.1) false).freeNext
    | none => s
  let x := s.memRead (a / 64 * 64) 64
  if x.2 then x else (x.1.setLine a { data := x.1.rdBytes (a / 64 * 64) 64 }, false)

/-- The lines of a range of bytes are brought into the caches. -/
def State.fillLines (s : State) (a n : Nat) : State × Bool :=
  (spans 64 a n).foldl (fun x p => let y := x.1.fillLine p.1; (y.1, x.2 || y.2)) (s, false)

/-- A core's bytes into its data cache: the lines become dirty. A line that memory cannot give is not written. -/
def State.corePuts (s : State) (h a : Nat) (bs : List (BitVec 8)) : State × Bool :=
  (spans 64 a bs.length).foldl (fun x p =>
    let y := x.1.fillLine p.1
    match y.1.line? p.1 with
    | some l =>
      (y.1.setLine p.1 { data := l.data.take (p.1 % 64) ++ (bs.drop (p.1 - a)).take p.2 ++ l.data.drop (p.1 % 64 + p.2), dirty := true, owner := some h },
        x.2 || y.2)
    | none => (y.1, true)) (s, false)

/-! Write buffers (R374). -/

/-- One entry leaves a write buffer: a store goes to the caches, a cache-block operation acts behind the stores before it. A store that cannot
be made gives a store access fault. -/
def State.drainOne (s : State) (e : WbEnt) : State :=
  match e.cbo with
  | some keep => s.cleanLine e.addr keep
  | none =>
    let x := s.corePuts e.hart e.addr e.data
    if x.2 then x.1.emit (.coreTrap e.hart 7) else x.1

/-- FENCE of a hart (R374): its write buffer reaches the caches. -/
def State.drain (s : State) (h : Nat) : State :=
  { s with wbuf := s.wbuf.filter (fun e => e.hart != h) } |> (s.wbuf.filter (fun e => e.hart == h)).foldl (fun s e => s.drainOne e)

/-- A byte as hart `h` sees it: its own write buffer first. -/
def State.hartByte (s : State) (h a : Nat) : BitVec 8 :=
  match (s.wbuf.filter (fun e => e.hart == h && decide (e.addr ≤ a) && decide (a < e.addr + e.data.length))).getLast? with
  | some e => e.data.getD (a - e.addr) 0
  | none => s.cohByte a

/-- A buffered store without the bytes from `a` to `a + n - 1`, which a younger access of its hart has replaced. -/
def WbEnt.cut (e : WbEnt) (a n : Nat) : List WbEnt :=
  if e.cbo.isSome || decide (e.addr + e.data.length ≤ a) || decide (a + n ≤ e.addr) then [e] else
  (if e.addr < a then [{ e with data := e.data.take (a - e.addr) }] else [])
    ++ (if a + n < e.addr + e.data.length then [{ e with addr := a + n, data := e.data.drop (a + n - e.addr) }] else [])

def State.wbufCut (s : State) (h a n : Nat) : State :=
  { s with wbuf := s.wbuf.flatMap (fun e => if e.hart == h then e.cut a n else [e]) }

/-- Does a hart's write buffer hold a store to the block of `a`? -/
def State.wbufHas (s : State) (h a : Nat) : Bool :=
  s.wbuf.any (fun e => e.hart == h && e.cbo.isNone && decide (e.addr / 64 ≤ a / 64) && decide (a / 64 ≤ (e.addr + e.data.length - 1) / 64))

/-! Harts as units. -/

def State.hart (s : State) (h : Nat) : HartX := s.harts.get (fun _ => {}) h
def State.setHart (s : State) (h : Nat) (x : HartX) : State := { s with harts := SMap.set (fun _ => {}) s.harts h x }

/-- How many lines an instruction cache of 32 KiB holds (R366). -/
def icacheLines : Nat := 512

/-- An instruction line is fetched into a hart's instruction cache, as the hart sees memory. -/
def State.fillInstr (s : State) (h a : Nat) : State × Bool :=
  let x := s.cohRead (a / 64 * 64) 64
  if x.2 then x else
  let d := (List.range 64).map (fun i => x.1.hartByte h (a / 64 * 64 + i))
  let c := (x.1.hart h).icache
  let s := if c.length < icacheLines then x.1 else x.1.freeNext
  let c := if c.length < icacheLines then c else c.eraseIdx (Config.victim x.1.freeIx % c.length)
  (s.setHart h { s.hart h with icache := SMap.ins c (a / 64) d }, false)

/-- A hart is put into reset: its dirty lines, its write buffer and its posted writes are lost (R368). -/
def State.hartLost (s : State) (h : Nat) : State :=
  { s.setHart h {} with cache := s.cache.filter (fun e => !(e.2.dirty && e.2.owner == some h)), wbuf := s.wbuf.filter (fun e => e.hart != h),
                        ioBuf := s.ioBuf.filter (fun e => e.hart != h) }

end Sys2Proof.Machine
end

