-- ==== Sys2Proof/Machine/Events.lean ====
section
/-! DEFINITION. The event fabric (R358 to R364) and lock violations (R382, R427). -/

namespace Sys2Proof.Machine

/-- EVF.STAT in the error record; its rising bits fire EVFAULT (R364). -/
def siteEvf : Site := ⟨6, 0, 0, 1152⟩
def State.evfErr (s : State) (b : Nat) : State := s.raise R.EVF_STAT b siteEvf

/-- Is an access privileged (R376)? -/
def masterPriv : Master → Bool
  | .hart _ p => p
  | .guardian _ => true
  | .dma _ => false
  | .mac => false
  | .block => false
  | .jtag => false

/-- The master in LOCK_MASTER (R432). -/
def masterCode : Master → Nat
  | .hart h _ => h % 8
  | .guardian g => 8 + g % 2
  | .dma c => 10 + 16 * (c % 32)
  | .mac => 15
  | .block => 15
  | .jtag => 15

/-- A write to a locked or used field (R382, R427): source 9 fires; the first since a clear is captured. -/
def State.lockViolation (s : State) (m : Master) (addr : Nat) : State :=
  let s := if s.on R.ERRLOG_GERR (bit 0) then s else
    let s := s.sf R.ERRLOG_GERR (bit 0) 1
    let s := s.wr64 R.ERRLOG_LOCK_ADDR_LO R.ERRLOG_LOCK_ADDR_HI (BitVec.ofNat 64 addr)
    (s.wrN R.ERRLOG_LOCK_MASTER (masterCode m)).record ⟨4, 3, 0, 0⟩ 0 addr
  s.fire 9

/-- The consumer inputs that exist (R358). -/
def consOk (m : Nat) : Bool :=
  decide (m ≤ 5) || (decide (8 ≤ m) && decide (m ≤ 27)) || (decide (32 ≤ m) && decide (m ≤ 95))

/-- The consumer inputs that follow channel `n`. -/
def State.consOf (s : State) (n : Nat) : List Nat :=
  (List.range 128).filter (fun m => consOk m && s.on (R.EVF_CONS m) F.EVF_CONS_EN && s.gf (R.EVF_CONS m) F.EVF_CONS_CH == n)

/-- Channel `n` delivers an event (R360): EVENTS counts, and every consumer input that follows the channel receives it. -/
def State.deliver (s : State) (n : Nat) : State :=
  let s := (s.cnt (R.EVF_EVENTS n)).setChan n { last := some s.per, gap := s.gf (R.EVF_CH_CTL n) F.EVF_CH_CTL_MIN_GAP, pend := false }
  { s with consIn := s.consIn ++ s.consOf n }

/-- Is it within MIN_GAP of the channel's last delivery (R360)? A new MIN_GAP applies from the next delivery (R363). -/
def State.inGap (s : State) (n : Nat) : Bool :=
  match (s.chan n).last with
  | some t => decide (s.per < t + (s.chan n).gap)
  | none => false

/-- CHANNEL_EVENT_ARRIVE (R360): the oldest pulse on its way to channel `n` is delivered, held, or merged into a held one. -/
def channelEventArrive (n : Nat) (s : State) : State :=
  match s.chanIn.find? (fun e => e.1 == n) with
  | none => s
  | some e =>
    let s := { s with chanIn := erase1 e s.chanIn }
    let x := s.chan n
    if x.pend then s.cnt (R.EVF_OVERRUN n)
    else if s.inGap n then
      let s := (s.setChan n { x with pend := true }).cnt (R.EVF_OVERRUN n)
      (s.evfErr 0).sf R.EVF_STAT F.EVF_STAT_LAST_OVR n
    else s.deliver n

/-- PENDING_EVENT_DELIVER (R360): MIN_GAP cycles after the last delivery. -/
def pendingEventDeliver (n : Nat) (s : State) : State :=
  if (s.chan n).pend && !s.inGap n then s.deliver n else s

/-- A write of CH_FIRE[i] (R361). -/
def chFire (i : Nat) (v : Word) (s : State) : State :=
  times 32 (fun j s => if v.getLsbD j then s.pulse (32 * i + j) true else s) s

/-- A write of SW_FIRE[i] (R361). -/
def swFire (i : Nat) (v : Word) (s : State) : State :=
  times 32 (fun j s => if v.getLsbD j then s.fire (1216 + 32 * i + j) else s) s

/-- A write of CH_CTL[n] that the route lock lets through (R363, R364): a source or a MIN_GAP out of range is ignored. -/
def State.chCtlWrite (s : State) (n : Nat) (v : Word) : State :=
  let a := R.EVF_CH_CTL n
  let old := s.rd a
  let badSrc := decide (1279 < F.EVF_CH_CTL_SRC.get v)
  let badGap := F.EVF_CH_CTL_MIN_GAP.get v == 0
  let src := if badSrc then F.EVF_CH_CTL_SRC.get old else F.EVF_CH_CTL_SRC.get v
  let gap := if badGap then F.EVF_CH_CTL_MIN_GAP.get old else F.EVF_CH_CTL_MIN_GAP.get v
  let en := F.EVF_CH_CTL_EN.get v
  let s := s.when (badSrc || badGap) (·.evfErr 1)
  let s := if src != F.EVF_CH_CTL_SRC.get old || (en == 0 && F.EVF_CH_CTL_EN.get old == 1) then
      s.setChan n { s.chan n with pend := false } else s
  s.wrN a (src + 0x8000 * en + 0x10000 * gap)

/-- EVF_ROUTE_WRITE (R363): master `m` writes CH_CTL[i], or CONS[i]; LOCK.ROUTE locks both. -/
def evfRouteWrite (m : Master) (cons : Bool) (i : Nat) (v : Word) (s : State) : State :=
  if s.on R.EVF_LOCK (bit 0) then s.lockViolation m (if cons then R.EVF_CONS i else R.EVF_CH_CTL i)
  else if cons then (if consOk i then s.wr (R.EVF_CONS i) (v &&& 0x1ff) else s)
  else s.chCtlWrite i v

/-- LOCK.ROUTE is written 1 (R363). -/
def routeLock (m : Master) (s : State) : State :=
  if s.on R.EVF_LOCK (bit 0) then s.lockViolation m R.EVF_LOCK
  else (s.wr R.EVF_LOCK 1).sf R.EVF_STAT F.EVF_STAT_ROUTE_LOCKED 1

/-- An event of fixed input `i` reaches its target (R362). -/
def State.takeFixed (s : State) (i : Nat) (f : State → State) : State :=
  match s.fixedIn.find? (fun e => e.1 == i) with
  | some e => f { s with fixedIn := erase1 e s.fixedIn }
  | none => s

/-- WARN_BELLOWS (R249, R362). -/
def warnBellows (s : State) : State :=
  s.takeFixed 0 (fun s => if s.on R.BELLOWS_BCTL F.BELLOWS_BCTL_DISARM_ON_WARN then (s.belErr 5).disarm else s)

/-- WARN_AXES (R362): the AX_STOP input of every axis. -/
def warnAxes (s : State) : State := s.takeFixed 2 (fun s => times 16 (fun a s => s.stopRequest a) s)

end Sys2Proof.Machine
end

