-- ==== Sys2Proof/Machine/Periph.lean ====
section
/-! DEFINITION. The flash controller (R446), the UARTs (R447) and the I²C master (R448, R449). -/

namespace Sys2Proof.Machine

/-- `n` bytes of consecutive data registers from address `a` on: byte k stands in bits [8(k % 4) + 7 : 8(k % 4)] of word k / 4. -/
def State.regBytes (s : State) (a n : Nat) : List (BitVec 8) :=
  (List.range n).map (fun k => BitVec.ofNat 8 (s.gf (a + k / 4 * 4) ⟨8 * (k % 4), 8⟩))

/-- Bytes into consecutive data registers. -/
def State.putRegBytes (s : State) (a : Nat) (bs : List (BitVec 8)) : State :=
  bs.zipIdx.foldl (fun s e => s.sf (a + e.2 / 4 * 4) ⟨8 * (e.2 % 4), 8⟩ e.1.toNat) s

/-- A status register with SEQ in [15:0], BUSY in [16] and VALID in [31] as its transaction starts. -/
def State.busyStart (s : State) (a : Nat) : State := (s.sf a (bit 16) 1).sf a (bit 31) 0

/-- The same as its transaction ends. -/
def State.busyEnd (s : State) (a : Nat) : State := (s.wr a (seqBump (s.rd a))).sf a (bit 16) 0

/-! QSPI (R446). -/

def State.qspiErr (s : State) (b : Nat) : State := s.raise R.QSPI_QERR b ⟨26, 0, 0, 1195⟩

/-- QSPI_GO (R446): a GO during a transaction merges; QLEN above 256 is refused. -/
def qspiGo (s : State) : State :=
  if s.qspiRun.isSome then s else
  let n := s.gf R.QSPI_QLEN ⟨0, 9⟩
  if 256 < n then s.qspiErr 0 else
  let op := s.rd R.QSPI_QOP
  let data := if F.QSPI_QOP_WRITE.get op == 1 then s.regBytes (R.QSPI_QDATA 0) n else []
  let s := { s with qspiRun := some (op, n) }.busyStart R.QSPI_QSTAT
  (s.wr R.QSPI_QCMD 1).emit (.flash op (s.rd R.QSPI_QADDR) (s.rd R.QSPI_QCTL) data n)

/-- QSPI_DONE (R446, R449): what the flash sent, and whether the bus failed. -/
def qspiDone (data : List (BitVec 8)) (busErr : Bool) (s : State) : State :=
  match s.qspiRun with
  | none => s
  | some (op, n) =>
    let s := if F.QSPI_QOP_WRITE.get op == 1 then s
      else s.putRegBytes (R.QSPI_QDATA 0) (data.take n)
    let s := s.when busErr (·.qspiErr 1)
    (({ s with qspiRun := none }.busyEnd R.QSPI_QSTAT).wr R.QSPI_QCMD 0).fire 1194

/-! UART (R447). -/

def State.uart (s : State) (i : Nat) : UartX := s.uarts.get (fun _ => {}) i
def State.setUart (s : State) (i : Nat) (u : UartX) : State := { s with uarts := s.uarts.set (fun _ => {}) i u }
def State.uartErr (s : State) (i b : Nat) : State := s.raise (R.UART_UERR i) b ⟨25, 0, i, 1190 + 3 * i⟩

/-- USTAT[i]: the FIFOs' levels and the byte at the head of the receive FIFO. -/
def State.ustat (s : State) (i : Nat) : Nat :=
  let u := s.uart i
  u.tx.length + 256 * u.rx.length + 65536 * ((u.rx.head?.map BitVec.toNat).getD 0)

/-- UART_TX_PUSH (R447): ignored when the FIFO is full. -/
def uartTxPush (i : Nat) (s : State) : State :=
  let u := s.uart i
  if 16 ≤ u.tx.length then s
  else s.setUart i { u with tx := u.tx ++ [BitVec.ofNat 8 (s.gf (R.UART_UTX i) ⟨0, 8⟩)] }

/-- UART_RX_POP (R447). -/
def uartRxPop (i : Nat) (s : State) : State :=
  let u := s.uart i
  s.setUart i { u with rx := u.rx.drop 1 }

/-- UART_FLUSH (R447, R449): both FIFOs are emptied. -/
def uartFlush (i : Nat) (s : State) : State :=
  let had := !(s.uart i).tx.isEmpty
  (s.setUart i {}).when had (·.fire (1189 + 3 * i))

/-- UART_BYTE_RX (R447, R449): a byte with its framing and parity errors. -/
def uartByteRx (i : Nat) (b : BitVec 8) (framing parity : Bool) (s : State) : State :=
  if !s.on (R.UART_UCTL i) F.UART_UCTL_EN then s else
  let u := s.uart i
  let s := if 16 ≤ u.rx.length then s.uartErr i 0 else s.setUart i { u with rx := u.rx ++ [b] }
  let s := s.when framing (·.uartErr i 1)
  let s := s.when (parity && s.gf (R.UART_UCTL i) F.UART_UCTL_PARITY != 0) (·.uartErr i 2)
  s.fire (1188 + 3 * i)

/-- UART_BYTE_SENT (R447, R449). -/
def uartByteSent (i : Nat) (s : State) : State :=
  if !s.on (R.UART_UCTL i) F.UART_UCTL_EN then s else
  let u := s.uart i
  match u.tx with
  | [] => s
  | b :: rest =>
    let s := (s.setUart i { u with tx := rest }).emit (.uartTx i b (s.rd (R.UART_UCTL i)))
    s.when rest.isEmpty (·.fire (1189 + 3 * i))

/-! I²C (R448). -/

def State.iicErr (s : State) (b : Nat) : State := s.raise R.IIC_IERR b ⟨27, 0, 0, 1197⟩

/-- The fields ADDR, WLEN and RLEN of IXFER. -/
def ixWlen : Fld := ⟨8, 5⟩
def ixRlen : Fld := ⟨16, 5⟩

/-- IIC_GO (R448): a GO during a transaction merges; a length above 16 is refused. -/
def iicGo (s : State) : State :=
  if s.iicRun.isSome || !s.on R.IIC_ICTL (bit 10) then s else
  let x := s.rd R.IIC_IXFER
  if decide (16 < ixWlen.get x) || decide (16 < ixRlen.get x) then s.iicErr 3 else
  let s := { s with iicRun := some x }.busyStart R.IIC_ISTAT
  (s.wr R.IIC_ICMD 1).emit (.iic x (s.rd R.IIC_ICTL) (s.regBytes (R.IIC_IWDATA 0) (ixWlen.get x)))

/-- The end of a transaction with RESULT `r` (R448). -/
def State.iicEnd (s : State) (r : Nat) : State :=
  let s := { s with iicRun := none }.busyEnd R.IIC_ISTAT
  let s := (s.sf R.IIC_ISTAT F.IIC_ISTAT_RESULT r).wr R.IIC_ICMD 0
  (s.when (decide (0 < r)) (·.iicErr (r - 1))).fire 1196

/-- IIC_DONE (R448, R449): 0 OK with the bytes read, 1 NACK, 2 ARB_LOST. -/
def iicDone (result : Nat) (data : List (BitVec 8)) (s : State) : State :=
  match s.iicRun with
  | none => s
  | some x => (if result == 0 then s.putRegBytes (R.IIC_IRDATA 0) (data.take (ixRlen.get x)) else s).iicEnd result

/-- IIC_TIMEOUT (R448). -/
def iicTimeout (s : State) : State := if s.iicRun.isSome then s.iicEnd 3 else s

end Sys2Proof.Machine
end

