-- ==== Sys2Proof/Machine/Tpg.lean ====
section
/-! DEFINITION. The pulse generators (R353 to R357). Edge times are in quarters of a ns. -/

namespace Sys2Proof.Machine

def State.tp (s : State) (k : Nat) : TpX := s.tps.get (fun _ => {}) k
def State.setTp (s : State) (k : Nat) (x : TpX) : State := { s with tps := SMap.set (fun _ => {}) s.tps k x }

/-- Generator k's error register in the error record; its rising bits fire TFAULT (R357). -/
def siteTp (k : Nat) : Site := ⟨7, 0, k, 1145⟩
def State.tpErr (s : State) (k b : Nat) : State := s.raise (R.TPG_TERR k) b (siteTp k)

def State.tpState (s : State) (k : Nat) : Nat := s.gf (R.TPG_TSTAT k) F.TPG_TSTAT_STATE
def State.setTpState (s : State) (k st : Nat) : State := s.sf (R.TPG_TSTAT k) F.TPG_TSTAT_STATE st

/-- The time base on one CLK_TIME cycle (R338, R347): INCR, and 2⁻¹⁰ ns of slew. -/
def TimeBase.tick (t : TimeBase) (left : Int) : TimeBase :=
  let slews := decide (t.slewCyc < 1024 * left.natAbs)
  let d : BitVec 96 := if !slews then 0 else if 0 < left then 0x400000 else -0x400000
  { t with nt := t.nt + t.incr + d, mtime := t.mtime + 1, slewCyc := if slews then t.slewCyc + 1 else t.slewCyc }

/-- Network time in units of 2⁻³² ns. -/
def State.nt (s : State) : Int := s.time.nt.toInt

/-- Network time one CLK_TIME cycle later, slew and increment together (R347). -/
def State.nextNt (s : State) : Int := (s.time.tick (s.rdI R.PTP_SLEW_LEFT)).nt.toInt

/-- A time in quarters of a ns in the same units. -/
def qNt (q : Int) : Int := q * 2 ^ 30

/-- TP_OUT[k] takes its active or idle level (R353), with OUT_EN and POL as at the last ARM (R355). -/
def State.tpLevel (s : State) (k : Nat) (active : Bool) (edge : Option Int) : State :=
  if (s.tp k).outEn then
    (s.sf (R.TPG_TSTAT k) F.TPG_TSTAT_ACTIVE (b2n active)).emit (.tpOut k (active != (s.tp k).pol) edge) else s

/-- POL as it is in force sets the idle level of TP_OUT[k] (R353). -/
def State.tpPol (s : State) (k : Nat) : State :=
  let p := s.on (R.TPG_TCTL k) F.TPG_TCTL_POL
  let x := s.tp k
  if x.pol == p then s else (s.setTp k { x with pol := p }).emit (.tpOut k p none)

/-- A write of TCTL (R355, R356): in IDLE it takes effect at once, else at the next ARM. -/
def tpCtlWrite (k : Nat) (v : Word) (s : State) : State :=
  let s := s.wr (R.TPG_TCTL k) (v &&& 7)
  if s.tpState k == 0 then s.tpPol k else s

/-- OUT_EN as a takeover or a yield sets it (R410, R411): it acts at once, also on a generator that runs. -/
def State.tpSetOut (s : State) (k : Nat) (v : Bool) : State :=
  let s := s.sf (R.TPG_TCTL k) F.TPG_TCTL_OUT_EN (b2n v)
  let x := s.tp k
  if x.outEn == v then s
  else if x.active.isNone then s.setTp k { x with outEn := v }
  else if v then (s.setTp k { x with outEn := true }).tpLevel k true none
  else (s.tpLevel k false none).setTp k { x with outEn := false }

/-- Edges that will not fall are taken back from the quads that name the generator (R78, R354). -/
def State.tpTakeBack (s : State) (k : Nat) (es : List Int) : State :=
  times 32 (fun q s =>
    if s.gf (R.ACT_TRIG_CTL q) F.ACT_TRIG_CTL_TPG == k && !(s.port q).trigQ.isEmpty then
      s.setPort q { s.port q with trigQ := (s.port q).trigQ.filter (fun e => !es.contains e) }
    else s) s

/-- NEXT shows the next leading edge (R356). -/
def State.tpNext (s : State) (k : Nat) : State :=
  let x := s.tp k
  let e := match x.edges with
    | e :: _ => e.2
    | [] => x.s0 + x.j * x.per
  s.wr64 (R.TPG_NEXT_LO k) (R.TPG_NEXT_HI k) (BitVec.ofInt 64 (e / 4))

/-- The generator returns to IDLE and DONE fires (R355, R357). -/
def State.tpIdle (s : State) (k : Nat) : State :=
  let x := s.tp k
  let s := s.tpTakeBack k (x.edges.map (·.2))
  let s := if x.active.isSome then s.tpLevel k false none else s
  (((s.setTp k { pol := (s.tp k).pol }).setTpState k 0).calApply 6 k).fire 1144

/-- The series has ended when its last pulse has (R355). -/
def State.tpCheckEnd (s : State) (k : Nat) : State :=
  let x := s.tp k
  if s.tpState k == 2 && x.count != 0 && decide (x.count ≤ x.j) && x.edges.isEmpty && x.active.isNone then s.tpIdle k else s

/-- A pulse is skipped (R354). -/
def State.tpSkip (s : State) (k : Nat) : State := (s.cnt (R.TPG_SKIPPED k)).tpErr k 0

/-- RUNNING from S on. -/
def State.tpRun (s : State) (k : Nat) (s0 : Int) : State :=
  ((s.setTp k { s.tp k with s0 := s0, j := 0, edges := [], active := none, stop := false }).setTpState k 2).tpNext k

/-- TCMD.ARM (R355); START_MODE 0 runs at once. -/
def tpArm (k : Nat) (s : State) : State :=
  if s.tpState k != 0 then s else
  let q (lo : Nat) : Nat := s.gf (R.TPG_FRAC k) ⟨lo, 2⟩
  let start : Int := (s.rd64 (R.TPG_START_LO k) (R.TPG_START_HI k)).toInt * 4 + q 0
  let per := s.rdN (R.TPG_PERIOD k) * 4 + q 2
  let wid := s.rdN (R.TPG_WIDTH k) * 4 + q 4
  let count := s.rdN (R.TPG_COUNT k)
  let mode1 := s.on (R.TPG_TCTL k) F.TPG_TCTL_START_MODE
  if decide (32 ≤ wid) && (count == 1 || decide (wid + 32 ≤ per)) && (!mode1 || decide (1024 ≤ start)) then
    let s := s.tpPol k
    let s := (s.setTp k { per := per, wid := wid, count := count, mode1 := mode1, start := start,
                               outEn := s.on (R.TPG_TCTL k) F.TPG_TCTL_OUT_EN, pol := s.on (R.TPG_TCTL k) F.TPG_TCTL_POL }).setTpState k 1
    if mode1 then s else s.tpRun k start
  else s.tpErr k 2

/-- TP_START_INPUT (R355): an event at consumer input 8 + k. -/
def tpStartInput (k : Nat) (s : State) : State :=
  if !s.consIn.contains (8 + k) then s else
  let s := { s with consIn := erase1 (8 + k) s.consIn }
  if s.tpState k == 1 && (s.tp k).mode1 then s.tpRun k (s.ns * 4 + (s.tp k).start) else s

/-- TCMD.STOP (R355). -/
def tpStop (k : Nat) (s : State) : State :=
  if s.tpState k == 2 then s.setTp k { s.tp k with stop := true } else s

/-- TCMD.ABORT (R355). -/
def tpAbort (k : Nat) (s : State) : State :=
  if s.tpState k == 0 then s else s.tpIdle k

/-- A write of several bits of TCMD (R355): the rows whose state holds in that cycle, of which the later wins. -/
def tcmdWrite (k : Nat) (v : Word) (s : State) : State :=
  let b (f : Fld) : Bool := f.get v == 1
  if s.tpState k == 0 then s.when (b F.TPG_TCMD_ARM) (tpArm k)
  else if b F.TPG_TCMD_ABORT then tpAbort k s
  else s.when (b F.TPG_TCMD_STOP) (tpStop k)

/-- TP_HALT (R355, R362): fixed input 1. -/
def tpHalt (s : State) : State :=
  match s.fixedIn.find? (fun e => e.1 == 1) with
  | none => s
  | some e =>
    times 16 (fun k s => (if s.tpState k == 0 then s else s.tpIdle k).tpErr k 1) { s with fixedIn := erase1 e s.fixedIn }

/-- TP_EDGE_COMPUTE (R354): the next leading edge is computed and handed to the quads that name the generator, or skipped when it is less
than 256 ns away. -/
def tpEdgeCompute (k : Nat) (s : State) : State :=
  let x := s.tp k
  if s.tpState k != 2 || (x.count != 0 && decide (x.count ≤ x.j)) then s else
  let e := x.s0 + x.j * x.per
  let s := s.setTp k { x with j := x.j + 1 }
  if qNt e - s.nt < 256 * 2 ^ 32 then ((s.tpSkip k).tpNext k).tpCheckEnd k
  else
    let s := s.setTp k { s.tp k with edges := (s.tp k).edges ++ [(x.j, e)] }
    (times 32 (fun q s =>
      if s.on (R.ACT_TRIG_CTL q) F.ACT_TRIG_CTL_EN && s.gf (R.ACT_TRIG_CTL q) F.ACT_TRIG_CTL_TPG == k then
        s.setPort q { s.port q with trigQ := (s.port q).trigQ ++ [e] }
      else s) s).tpNext k

/-- TP_LEADING_EDGE (R353): in the CLK_TIME cycle whose time is the greatest at or below the edge, or later. -/
def tpLeadingEdge (k : Nat) (s : State) : State :=
  let x := s.tp k
  match x.edges with
  | [] => s
  | (j, e) :: rest =>
    if s.tpState k != 2 || x.active.isSome || s.nextNt ≤ qNt e then s else
    let s := s.setTp k { x with edges := rest, active := some (j, e + x.wid) }
    (((s.tpLevel k true (some e)).cnt (R.TPG_PULSES k)).fire (1128 + k)).tpNext k

/-- The active pulse ends: a staged tap correction applies, and the series may end (R353, R355). -/
def State.tpTrail (s : State) (k : Nat) (edge : Int) : State :=
  let x := s.tp k
  let s := (s.setTp k { x with active := none }).tpLevel k false (some edge)
  let s := s.calApply 6 k
  if x.stop then s.tpIdle k else s.tpCheckEnd k

/-- TP_TRAILING_EDGE (R353). -/
def tpTrailingEdge (k : Nat) (s : State) : State :=
  match (s.tp k).active with
  | some (_, t) => if s.nextNt ≤ qNt t then s else s.tpTrail k t
  | none => s

/-- The generators in a stepped time base (R354): edges stepped over are skipped, a pulse whose trailing edge was passed ends. -/
def State.tpStepped (s : State) : State :=
  times 16 (fun k s =>
    let x := s.tp k
    let gone := x.edges.filter (fun e => decide (qNt e.2 < s.nt))
    let s := (s.setTp k { x with edges := x.edges.filter (fun e => decide (s.nt ≤ qNt e.2)) }).tpTakeBack k (gone.map (·.2))
    let s := gone.foldl (fun s _ => s.tpSkip k) s
    let s := match x.active with
      | some (_, t) => if qNt t ≤ s.nt then s.tpTrail k t else s
      | none => s
    if s.tpState k == 2 then (s.tpNext k).tpCheckEnd k else s) s

end Sys2Proof.Machine
end

