-- ==== Sys2Proof/Machine/Time.lean ====
section
/-! DEFINITION. Network time (R338, R347 to R352, R357): frequency, step, slew, set, alarm, seconds, latch and capture. -/

namespace Sys2Proof.Machine

/-- PTP's error register in the error record; its rising bits fire PFAULT (R357). -/
def sitePtp : Site := ⟨6, 1, 0, 1125⟩
def State.ptpErr (s : State) (b : Nat) : State := s.raise R.PTP_PERR b sitePtp

def State.timeValid (s : State) : Bool := s.on R.PTP_PSTAT F.PTP_PSTAT_TIME_VALID

/-- The time base takes a value; a whole second passed backwards may be reached again (R350). -/
def State.setNt (s : State) (nt : BitVec 96) : State :=
  let s := { s with time := { s.time with nt := nt } }
  { s with time := { s.time with secSeen := min s.time.secSeen (s.ns / 1000000000) } }

/-- A write of INCR_NS (R347): an increment outside 7.992 to 8.008 ns is refused. -/
def incrNsWrite (v : Word) (s : State) : State :=
  let n := v.toNat % 16
  let inc := n * 2 ^ 32 + s.rdN R.PTP_INCR_FRAC
  if decide (7992 * 2 ^ 32 ≤ inc * 1000) && decide (inc * 1000 ≤ 8008 * 2 ^ 32) then
    let s := s.wrN R.PTP_INCR_NS n
    { s with time := { s.time with incr := BitVec.ofNat 96 inc } }
  else s.ptpErr 1

/-- PCMD.LATCH (R351). -/
def ptpLatch (s : State) : State :=
  let s := s.wr64 R.PTP_LATCH_LO R.PTP_LATCH_HI s.nsBits
  let s := s.wr R.PTP_LATCH_FRAC s.nsFrac
  s.wr R.PTP_LATCH_STAT (seqBump (s.rd R.PTP_LATCH_STAT))

/-- A STEP or SET is refused (R348). -/
def State.stepRefused (s : State) : State := ((s.cnt R.PTP_STEPS_REFUSED).ptpErr 0).fire 1122

/-- A STEP or SET is applied (R348): every block works in the new time. -/
def State.stepped (s : State) (nt : BitVec 96) : State := (((s.setNt nt).cnt R.PTP_STEPS).fire 1121).tpStepped

/-- PCMD.STEP (R347, R348). -/
def ptpStep (s : State) : State :=
  let adj := (s.rd64 R.PTP_ADJ_LO R.PTP_ADJ_HI).toInt
  if s.rdN R.PTP_STEP_MAX < adj.natAbs then s.stepRefused
  else s.stepped (s.time.nt + BitVec.ofInt 96 (adj * 2 ^ 32))

/-- PCMD.SET (R347, R348). -/
def ptpSet (s : State) : State :=
  if s.timeValid then s.stepRefused
  else (s.sf R.PTP_PSTAT F.PTP_PSTAT_TIME_VALID 1).stepped (s.rd64 R.PTP_SET_LO R.PTP_SET_HI ++ (0 : BitVec 32))

/-- SLEW_LEFT and SLEWING. -/
def State.setSlew (s : State) (n : Int) : State :=
  (s.wrI R.PTP_SLEW_LEFT n).sf R.PTP_PSTAT F.PTP_PSTAT_SLEWING (b2n (n != 0))

/-- PCMD.SLEW (R347). -/
def ptpSlew (s : State) : State :=
  let adj := (s.rd64 R.PTP_ADJ_LO R.PTP_ADJ_HI).toInt
  if 2 ^ 31 ≤ adj.natAbs then s.ptpErr 1
  else { (s.setSlew adj).cnt R.PTP_SLEWS with time := { s.time with slewCyc := 0 } }

/-- PCMD.SLEW_STOP (R347). -/
def slewStop (s : State) : State := { s.setSlew 0 with time := { s.time with slewCyc := 0 } }

/-- PCMD.INVALIDATE (R348). -/
def invalidate (s : State) : State := s.sf R.PTP_PSTAT F.PTP_PSTAT_TIME_VALID 0

/-- SLEW_STEP (R347): after 1,024 slewing cycles SLEW_LEFT moves 1 ns towards 0. -/
def slewStep (s : State) : State :=
  let l := s.rdI R.PTP_SLEW_LEFT
  if l == 0 || decide (s.time.slewCyc < 1024) then s else
  let s := s.setSlew (if 0 < l then l - 1 else l + 1)
  { s with time := { s.time with slewCyc := s.time.slewCyc - 1024 } }

/-- One CLK_TIME cycle of the model's clock: network time and MTIME go on and the lanes send what they have to send, unless the main domain is
in reset (R36, R61, R338, R367, R433). -/
def State.clockTick (s : State) : State :=
  let t := { s with cyc := s.cyc + 1, time := if s.mainReset then s.time else s.time.tick (s.rdI R.PTP_SLEW_LEFT) }
  if s.mainReset then t else (t.linkTick).keepIsland t

/-- A write of several bits of PCMD (R349): STEP or SET before LATCH. -/
def pcmdWrite (v : Word) (s : State) : State :=
  let b (f : Fld) : Bool := f.get v == 1
  let n := b2n (b F.PTP_PCMD_STEP) + b2n (b F.PTP_PCMD_SLEW) + b2n (b F.PTP_PCMD_SET)
  if decide (1 < n) || (b F.PTP_PCMD_SLEW && b F.PTP_PCMD_SLEW_STOP) then s.ptpErr 1 else
  let s := s.when (b F.PTP_PCMD_STEP) ptpStep
  let s := s.when (b F.PTP_PCMD_SET) ptpSet
  let s := s.when (b F.PTP_PCMD_SLEW) ptpSlew
  let s := s.when (b F.PTP_PCMD_SLEW_STOP) slewStop
  let s := s.when (b F.PTP_PCMD_INVALIDATE) invalidate
  s.when (b F.PTP_PCMD_LATCH) ptpLatch

/-- A write of STEP_MAX (R352). -/
def stepMaxWrite (v : Word) (s : State) : State :=
  let n := v.toNat % 2 ^ 30
  if decide (100 ≤ n) && decide (n ≤ 1000000000) then s.wrN R.PTP_STEP_MAX n else s.ptpErr 1

/-- ALARM (R350). -/
def alarm (s : State) : State :=
  if s.on R.PTP_PCTL F.PTP_PCTL_ALARM_EN && decide ((s.rd64 R.PTP_ALARM_LO R.PTP_ALARM_HI).toInt ≤ s.ns) then
    (s.sf R.PTP_PCTL F.PTP_PCTL_ALARM_EN 0).fire 1123
  else s

/-- SECOND (R350): the time base has reached a new whole second. -/
def second (s : State) : State :=
  let k := s.ns / 1000000000
  if s.time.secSeen < k then { s with time := { s.time with secSeen := k } }.fire 1120 else s

/-- CAPTURE (R351): an event at consumer input 24 + i. -/
def capture (i : Nat) (s : State) : State :=
  if !s.consIn.contains (24 + i) then s else
  let s := { s with consIn := erase1 (24 + i) s.consIn }
  let s := s.wr64 (R.PTP_CAP_LO i) (R.PTP_CAP_HI i) s.nsBits
  let s := s.wr (R.PTP_CAP_STAT i) (seqBump (s.rd (R.PTP_CAP_STAT i)))
  (s.cnt R.PTP_CAPTURES).fire 1124

end Sys2Proof.Machine
end

