-- ==== Sys2Proof/Machine/Control.lean ====
section
/-! DEFINITION. The control plane (R366 to R393): decode errors, snapshots, the harts and guardian cores as units, the mailbox doorbells,
TV fields, the interrupt controller, system SRAM. -/

namespace Sys2Proof.Machine

/-- An access of the wrong size or alignment inside a block window (R372, R391, R426): REG 3, code 2. -/
def State.sizeErr (s : State) (a : Nat) : State := (s.cnt R.SYS_DECODE_ERR).record ⟨0, 3, 0, 0⟩ 2 a

/-- An unprivileged access to a field of type P (R376). -/
def State.denied (s : State) : State := s.cnt R.SYS_PRIV_DENIED

/-! Snapshots (R380). -/

/-- SNAP_GO: a request while one is pending merges. -/
def snapGo (s : State) : State :=
  { (s.sf R.SYS_SNAP_CTL F.SYS_SNAP_CTL_GO 1).sf R.SYS_SNAP_CTL F.SYS_SNAP_CTL_VALID 0 with snapReq := true }

/-- SNAP_INPUT: consumer input 5. -/
def snapInput (s : State) : State :=
  if s.consIn.contains 5 then snapGo { s with consIn := erase1 5 s.consIn } else s

/-- The distance from a counter to its holding register; none where the address holds no counter. -/
def counterDist (a : Nat) : Option Nat :=
  match regInfo a with
  | some r => if r.cnt == 0 then none else some r.cnt
  | none => none

/-- Is the address a holding register `_S` in a block? -/
def RegBlock.holds (b : RegBlock) (a : Nat) : Bool :=
  decide (b.base ≤ a) &&
  match stripDims b.dims (a - b.base) with
  | some d => b.rows.any (fun r => r.cnt != 0 && decide (r.cnt ≤ d) && r.hit (d - r.cnt))
  | none => false

/-- Is the address a holding register `_S`? -/
def isHolding (a : Nat) : Bool := regBlocks.any (fun b => b.holds a)

/-- Every counter into its holding register (R380). -/
def State.copyCounters (s : State) : State :=
  let kept := s.regs.filter (fun e => !isHolding e.1)
  { s with regs := s.regs.foldl (fun m e =>
      match counterDist e.1 with
      | some d => m.set resetWord (e.1 + d) e.2
      | none => m) kept }

/-- SNAPSHOT_TAKEN. -/
def snapshotTaken (s : State) : State :=
  if !s.snapReq then s else
  let s := { s.copyCounters with snapReq := false }
  let n := s.gf R.SYS_SNAP_CTL F.SYS_SNAP_CTL_SEQ
  (s.wrN R.SYS_SNAP_CTL (0x8000 + 0x10000 * ((n + 1) % 65536))).fire 0

/-! TV fields (R381). -/

/-- The bitwise majority of three copies. -/
def majority (a b c : Word) : Word := (a &&& b) ||| (a &&& c) ||| (b &&& c)

/-- The bits in which copy `i` of the TV register at `a` differs from the value last written. -/
def State.tvDiff (s : State) (a i : Nat) : Word :=
  s.tvBad.foldl (fun x e => if e.1 == a && e.2.1 == i then x ^^^ e.2.2 else x) 0

/-- The value of a TV register. -/
def State.tvRead (s : State) (a : Nat) : Word :=
  let v := s.rd a
  majority (v ^^^ s.tvDiff a 0) (v ^^^ s.tvDiff a 1) (v ^^^ s.tvDiff a 2)

/-- A write of a TV register sets all three copies. -/
def State.tvWrite (s : State) (a : Nat) (v : Word) : State :=
  { s.wr a v with tvBad := s.tvBad.filter (fun e => e.1 != a) }

/-- The scrub of the TV register at `a`: each copy that differs from the majority is rewritten and counted. -/
def State.tvScrubAt (s : State) (a : Nat) : State :=
  let m := s.tvRead a
  let bad := ((List.range 3).filter (fun i => s.rd a ^^^ s.tvDiff a i != m)).length
  let s := s.tvWrite a m
  if bad == 0 || s.mainReset then s else (s.cntN R.SYS_TV_CORR bad).raise R.SYS_SYS_ERR 2 siteSys

/-- TV_SCRUB (R381): `upsets` are the bits of copies that have flipped since the last scrub. -/
def tvScrub (upsets : List (Nat × Nat × Word)) (s : State) : State :=
  (({ s with tvBad := s.tvBad ++ upsets }).tvScrubAt R.SYS_CORE_CTL).tvScrubAt R.GUARD_GCTL

/-! Harts and guardian cores (R368, R369, R392). -/

/-- One bit of a field of bits. -/
def State.setBit (s : State) (a : Nat) (f : Fld) (i : Nat) (v : Bool) : State := s.sf a (bit (f.lo + i)) (b2n v)

def State.hartRuns (s : State) (h : Nat) : Bool := s.on R.SYS_CORE_STAT (bit h)
def State.hartWfi (s : State) (h : Nat) : Bool := s.on R.SYS_CORE_STAT (bit (8 + h))
def State.hartDebug (s : State) (h : Nat) : Bool := s.on R.SYS_CORE_STAT (bit (16 + h))
def State.guardRuns (s : State) (g : Nat) : Bool := s.on R.GUARD_GSTAT (bit g)
def State.guardWfi (s : State) (g : Nat) : Bool := s.on R.GUARD_GSTAT (bit (2 + g))
def State.romWait (s : State) (g : Nat) : Bool := s.on R.GUARD_GSTAT (bit (5 + g))

/-- BOOT_ADDR (R391). -/
def State.bootAddr (s : State) : Nat := s.rd64N R.SYS_BOOT_ADDR_LO R.SYS_BOOT_ADDR_HI

/-- Hart `h` leaves or enters reset (R368). -/
def State.hartRun (s : State) (h : Nat) (run : Bool) : State :=
  let was := s.hartRuns h
  let s := if !run && was then s.hartLost h else s
  if run == was then s else
  let s := ((s.setBit R.SYS_CORE_STAT ⟨0, 8⟩ h run).setBit R.SYS_CORE_STAT ⟨8, 8⟩ h false).setBit R.SYS_CORE_STAT ⟨16, 8⟩ h false
  if run then s.emit (.hartStart h s.bootAddr) else s

/-- CORE_CTL_WRITE (R368, R378, R391): bit i of RUN changes only where bit 16 + i is 1. -/
def coreCtlWrite (m : Master) (v : Word) (s : State) : State :=
  if !masterPriv m then s.denied else
  let k := (v >>> 16) &&& 0xff
  let new := (s.tvRead R.SYS_CORE_CTL &&& ~~~k) ||| (v &&& k)
  let s := s.tvWrite R.SYS_CORE_CTL new
  times 8 (fun h s => s.hartRun h (new.getLsbD h)) s

/-- Guardian core `g` leaves reset and waits in its island ROM, or is held in reset (R369, R392). -/
def State.guardRun (s : State) (g : Nat) (run : Bool) : State :=
  if run == s.guardRuns g then s else
  ((s.setBit R.GUARD_GSTAT ⟨0, 2⟩ g run).setBit R.GUARD_GSTAT ⟨2, 2⟩ g run).setBit R.GUARD_GSTAT ⟨5, 2⟩ g run

/-- A write of GCTL (R369, R392). -/
def gctlWrite (v : Word) (s : State) : State :=
  let s := s.tvWrite R.GUARD_GCTL (v &&& 3)
  (s.guardRun 0 (v.getLsbD 0)).guardRun 1 (v.getLsbD 1)

/-- MTIMER_PENDING (R367). -/
def mtimerPending (h : Nat) (s : State) : State :=
  if s.rd64N (R.SYS_MTIMECMP_LO h) (R.SYS_MTIMECMP_HI h) ≤ s.time.mtime.toNat then s.emit (.timerIrq h) else s

/-- DOORBELL.TO_G_0 and TO_G_1 (R370): source 48 + g; a core that waits in its island ROM looks at its mailbox. -/
def doorbell (g : Nat) (s : State) : State :=
  { s with gBell := s.gBell.set g true, doorPer := s.doorPer.set g (some s.per) }.fire (48 + g)

def toG0 (s : State) : State := doorbell 0 s
def toG1 (s : State) : State := doorbell 1 s

/-- DOORBELL.TO_APP (R370), a field of type P. -/
def toApp (m : Master) (s : State) : State := 
  if masterPriv m then { s with doorPer := s.doorPer.set 2 (some s.per) }.fire 50 else s.denied

/-! The interrupt controller (R386 to R389). -/

def State.irqPriv (s : State) (src : Nat) : Bool := s.on (R.IRQC_PRIO src) F.IRQC_PRIO_PRIV
def irqTargetP (t : Nat) : Bool := decide (16 ≤ t) || t % 2 == 0
def State.irqPend (s : State) (src : Nat) : Bool := s.on (R.IRQC_PEND (src / 32)) (bit (src % 32))

/-- Does source `src` qualify at target `t` (R387)? -/
def State.irqHits (s : State) (t src : Nat) : Bool :=
  s.irqPend src && s.on (R.IRQC_ENABLE t (src / 32)) (bit (src % 32))
    && decide (s.gf (R.IRQC_THRESH t) ⟨0, 3⟩ < s.gf (R.IRQC_PRIO src) F.IRQC_PRIO_PRIO)

/-- The pending sources, ascending: those of the listed PEND registers. -/
def State.irqPending (s : State) : List Nat :=
  (s.regs.filter (fun e => decide (R.IRQC_PEND 0 ≤ e.1) && decide (e.1 < R.IRQC_PEND 40))).flatMap (fun e =>
    ((List.range 32).filter (fun j => e.2.getLsbD j)).map (fun j => (e.1 - R.IRQC_PEND 0) * 8 + j))

/-- TOP[t] (R387): the qualifying source of highest priority, on a tie the lowest number. -/
def State.irqTop (s : State) (t : Nat) : Option Nat :=
  (s.irqPending.filter (fun x => s.irqHits t x)).foldl (fun b x =>
    match b with
    | some y => if s.gf (R.IRQC_PRIO y) F.IRQC_PRIO_PRIO < s.gf (R.IRQC_PRIO x) F.IRQC_PRIO_PRIO then some x else some y
    | none => some x) none

/-- TOP[t] as it reads (R393). -/
def State.topWord (s : State) (t : Nat) : Nat :=
  match s.irqTop t with
  | some x => x + 0x800 * s.gf (R.IRQC_PRIO x) F.IRQC_PRIO_PRIO + 0x80000000
  | none => 0

/-- Is the interrupt line of target `t` asserted (R387)? -/
def State.irqLine (s : State) (t : Nat) : Bool := (s.irqTop t).isSome

/-- IRQ_COMPLETE (R388, R389, R393). -/
def irqComplete (m : Master) (t id : Nat) (s : State) : State :=
  let x := id % 2048
  if !masterPriv m && (irqTargetP t || (decide (x < 1280) && s.irqPriv x)) then s.denied
  else if x < 1280 then s.sf (R.IRQC_PEND (x / 32)) (bit (x % 32)) 0 else s

/-- The bits of word `i` of PEND and ENABLE that belong to sources with PRIV = 1 (R389). -/
def State.privMask (s : State) (i : Nat) : Word :=
  BitVec.ofNat 32 (((List.range 32).map (fun j => 2 ^ j * b2n (s.irqPriv (32 * i + j)))).sum)

/-! System SRAM (R390). -/

end Sys2Proof.Machine
end

