-- ==== Sys2Proof/Machine/Crypto.lean ====
section
/-! DEFINITION. SHA-256 and the verification of an ECDSA signature over the curve P-256, as the boot ROM uses them (R436 to R438, R441). The
spec names both and does not restate them: they are the public standards FIPS 180-4 and FIPS 186-4 (PRESUMED, log entry 40). -/

namespace Sys2Proof.Machine

/-! SHA-256. -/

/-- Bytes as a big-endian number. -/
def bigNat (bs : List (BitVec 8)) : Nat := bs.foldl (fun n b => 256 * n + b.toNat) 0

/-- `n` bytes of a number, big-endian. -/
def bigBytes (n v : Nat) : List (BitVec 8) := (leBytes n v).reverse

/-- The greatest root `r + …` below `2 ^ n` more whose `k`th power is at most `x`. -/
def rootUp (k x : Nat) : Nat → Nat → Nat
  | 0, r => r
  | n + 1, r => rootUp k x n (if (r + 2 ^ n) ^ k ≤ x then r + 2 ^ n else r)

/-- The first 32 bits of the fraction of the `k`th root of a number below 2 ^ 10. -/
def rootFrac (k p : Nat) : Word := BitVec.ofNat 32 (rootUp k (p * 2 ^ (32 * k)) 37 0)

/-- The first 64 primes. -/
def primes64 : List Nat := (List.range 312).filter (fun n => decide (2 ≤ n) && (List.range n).all (fun d => decide (d < 2) || n % d != 0))

/-- The round constants, from the cube roots of the first 64 primes. -/
def shaRounds : List Word := primes64.map (rootFrac 3)

/-- The hash under way: the last values of the two registers that a round computes, newest first. -/
structure Sha where
  as : List Word
  es : List Word
deriving DecidableEq, Repr

/-- Before the first block: the square roots of the first eight primes. -/
def Sha.start : Sha :=
  let r := (primes64.take 8).map (rootFrac 2)
  ⟨r.take 4, r.drop 4⟩

/-- Three rotations of a word, exclusive-ored. -/
def turns (i j k : Nat) (x : Word) : Word := x.rotateRight i ^^^ x.rotateRight j ^^^ x.rotateRight k

/-- A round with its constant and its message word together, in `kw`. -/
def Sha.round (v : Sha) (kw : Word) : Sha :=
  let a (i : Nat) : Word := v.as.getD i 0
  let e (i : Nat) : Word := v.es.getD i 0
  let t := kw + e 3 + turns 6 11 25 (e 0) + (e 2 ^^^ (e 0 &&& (e 1 ^^^ e 2)))
  ⟨(t + turns 2 13 22 (a 0) + ((a 0 &&& a 1) ||| (a 2 &&& (a 0 ||| a 1)))) :: v.as, (t + a 3) :: v.es⟩

/-- The message word 16 places on from the oldest of a window of 16. -/
def shaNext (win : List Word) : Word :=
  let low := win.getD 1 0
  let high := win.getD 14 0
  win.getD 0 0 + win.getD 9 0 + (low.rotateRight 7 ^^^ low.rotateRight 18 ^^^ low >>> 3)
    + (high.rotateRight 17 ^^^ high.rotateRight 19 ^^^ high >>> 10)

/-- The rounds left, over the window of message words. -/
def Sha.rounds (v : Sha) (win : List Word) : List Word → Sha
  | [] => v
  | k :: ks => (v.round (k + win.getD 0 0)).rounds (win.drop 1 ++ [shaNext win]) ks

/-- The 32-bit words of bytes, `n` of them. -/
def bigWords (n : Nat) (bs : List (BitVec 8)) : List Word :=
  (List.range n).map (fun i => BitVec.ofNat 32 (bigNat ((bs.drop (4 * i)).take 4)))

/-- One block of 64 bytes. -/
def Sha.block (v : Sha) (blk : List (BitVec 8)) : Sha :=
  let w := v.rounds (bigWords 16 blk) shaRounds
  ⟨v.as.zipWith (· + ·) w.as, v.es.zipWith (· + ·) w.es⟩

/-- SHA-256: 32 bytes. The message is padded with a one, zeros and its length in bits. -/
def sha256 (m : List (BitVec 8)) : List (BitVec 8) :=
  let p := m ++ [0x80] ++ List.replicate ((119 - m.length % 64) % 64) 0 ++ bigBytes 8 (8 * m.length)
  let v := (List.range (p.length / 64)).foldl (fun v i => v.block ((p.drop (64 * i)).take 64)) Sha.start
  (v.as ++ v.es).flatMap (fun w => bigBytes 4 w.toNat)

/-! ECDSA over P-256. -/

def ecP : Nat := 0xffffffff00000001000000000000000000000000ffffffffffffffffffffffff
def ecB : Nat := 0x5ac635d8aa3a93e7b3ebbd55769886bc651d06b0cc53b0f63bce3c3e27d2604b
def ecN : Nat := 0xffffffff00000000ffffffffffffffffbce6faada7179e84f3b9cac2fc632551
def ecG : Nat × Nat := (0x6b17d1f2e12c4247f8bce6e563a440f277037d812deb33a0f4a13945d898c296,
  0x4fe342e2fe1a7f9b8ee7eb4a7c0f9e162bce33576b315ececbb6406837bf51f5)

/-- `b` to the power `e` modulo `m`, for an exponent of at most `k` bits. -/
def powMod (m : Nat) : Nat → Nat → Nat → Nat
  | 0, _, _ => 1
  | k + 1, b, e =>
    let r := powMod m k (b * b % m) (e / 2)
    if e % 2 == 1 then r * b % m else r

/-- The inverse modulo a prime. -/
def invMod (m x : Nat) : Nat := powMod m 256 (x % m) (m - 2)

/-- The sum of two points of the curve; `none` is the point at infinity. -/
def ecAdd (a b : Option (Nat × Nat)) : Option (Nat × Nat) :=
  match a, b with
  | none, q => q
  | p, none => p
  | some (x1, y1), some (x2, y2) =>
    let third (l : Nat) : Option (Nat × Nat) :=
      let x := (l * l + 2 * ecP - x1 - x2) % ecP
      some (x, (l * (x1 + ecP - x) + ecP - y1) % ecP)
    if x1 != x2 then third ((y2 + ecP - y1) * invMod ecP (x2 + ecP - x1) % ecP)
    else if (y1 + y2) % ecP == 0 then none
    else third ((3 * x1 * x1 + ecP - 3) * invMod ecP (2 * y1) % ecP)

/-- A multiple of a point, for a factor of at most `k` bits. -/
def ecMul : Nat → Nat → Option (Nat × Nat) → Option (Nat × Nat)
  | 0, _, _ => none
  | k + 1, n, p =>
    let r := ecMul k (n / 2) (ecAdd p p)
    if n % 2 == 1 then ecAdd p r else r

/-- Is the point on the curve? -/
def ecOn (x y : Nat) : Bool :=
  decide (x < ecP) && decide (y < ecP) && y * y % ecP == (x * x * x + (ecP - 3) * x + ecB) % ecP

/-- Does the signature (r, s) verify under the public key for a digest? -/
def ecVerify (key : Nat × Nat) (r s : Nat) (digest : List (BitVec 8)) : Bool :=
  if !ecOn key.1 key.2 || r == 0 || s == 0 || decide (ecN ≤ r) || decide (ecN ≤ s) then false else
  let w := invMod ecN s
  let z := bigNat digest
  match ecAdd (ecMul 256 (z * w % ecN) (some ecG)) (ecMul 256 (r * w % ecN) (some key)) with
  | some (x, _) => x % ecN == r
  | none => false

end Sys2Proof.Machine
end

