-- ==== Sys2Proof/Machine/AeloreRx.lean ====
section
/-! DEFINITION. Aelore reception (R64 to R81, R85 to R92, R95, R96): the checks every packet passes, and what each kind of
packet does. -/

namespace Sys2Proof.Machine

/-- Does the port receive packets at present: a camera end; a host end past STRIPING; a listening port that holds a mask (R82,
R94)? Between a lane loss and the first IDLE after the acknowledge nothing is delivered (R89). -/
def State.rxOpen (s : State) (q : Nat) : Bool :=
  let x := s.port q
  !x.noDeliver &&
    (s.role q == 2 ||
     (s.role q == 1 && ((decide (psDiscover ≤ s.pst q) && decide (s.pst q ≤ psRun))
        || (s.listening q && s.pst q == psDown && x.hasMask))))

/-- The class of a received packet at quad `q`. -/
def State.classAt (s : State) (q : Nat) (h : BitVec 64) (p : Pkt) : PktClass :=
  pktClass (s.role q) (s.gf (R.ACT_PORT_CTL q) F.ACT_PORT_CTL_STREAM_VC) h p.payload p.cut

/-- What the interval of R89 swallows still says which line is under way: a LINE_START in it begins a line that is not delivered, a LINE_END
ends the line that was open. -/
def State.inInterval (s : State) (q : Nat) (h : BitVec 64) : State :=
  if hDt h == 2 then s.setPort q { s.port q with skip := true, openLine := false, caught := false }
  else if hDt h == 3 then s.setPort q { s.port q with skip := false, openLine := false, caught := false }
  else s

/-- Does the first stream packet after the interval of R89 belong to a line whose LINE_START fell in it? A LINE_END does unless its line was
open, a pixel packet when no line was open, or when two or more packets are missing and it starts again at column 0 (log entry 30). -/
def State.skips (s : State) (q : Nat) (h : BitVec 64) (pl : List (BitVec 8)) (d : Nat) : Bool :=
  let x := s.port q
  if hDt h == 3 then !(x.openLine && x.openNo == leAt pl 4 2)
  else isStreamDt (hDt h) && decide (0x10 ≤ hDt h) && (!x.openLine || (decide (2 ≤ d) && leAt pl 0 4 % 0x1000000 == 0))

/-- Is a class passed on with its CRC result even when the CRC fails (R96)? -/
def passBadCrc : PktClass → Bool
  | .frameStart | .frameEnd | .lineStart | .lineEnd | .pixel => true
  | .ring | .ctrlResp | .setAck | .null | .hostReq | .ctrlWrite | .ctrlRead | .setTagged | .bad => false

/-- A packet of class `cls` is received: header check (R69), SEQ (R71), data type, length and VC (R72, R73), CRC (R70), then
`body` with the header in use and the CRC result. A packet of another class is not this event and changes nothing; class `bad`
also stands for an uncorrectable header and for a repeated SEQ. A failed CRC counts in CRC_ERR also where the packet is dropped for another
reason; DROP_PKT counts the packet once (R96). -/
def State.rxPkt (s : State) (cls : PktClass) (q : Nat) (p : Pkt) (body : BitVec 64 → Bool → State → State) : State :=
  let x := s.port q
  if s.role q == 1 && x.noDeliver then
    match hdrCheck p.hdr with
    | some (h, _) => if s.classAt q h p == cls then s.inInterval q h else s
    | none => s
  else if !s.rxOpen q || x.hunt then s else
  match hdrCheck p.hdr with
  | none =>
    if cls == .bad then
      ((s.setPort q { x with hunt := true }).cnt (R.ACT_HDR_UNCORR q)).portErr q 0
    else s
  | some (h, corr) =>
    let c := s.classAt q h p
    let d := (hSeq h + 0x10000 - x.rxSeq) % 0x10000
    let rep := !x.gapFree && decide (0x8000 ≤ d)
    if c != cls && !(cls == .bad && rep) then s else
    let ok := (hLen h == 0 && !p.cut) || (!p.cut && p.payload.length == 4 * hLen h && crc32c p.payload == p.crc)
    let s := (s.when corr (·.cnt (R.ACT_HDR_CORR q))).cnt (R.ACT_PKT_RX q)
    let s := s.when (!ok) (fun s => (s.cnt (R.ACT_CRC_ERR q)).portErr q 1)
    if rep then s.dropPkt q else
    let skip := if x.gapFree && isStreamDt (hDt h) then s.skips q h p.payload d else x.skip
    let s := s.setPort q { x with rxSeq := (hSeq h + 1) % 0x10000, gapFree := false, shrunk := false, skip := skip }
    let s := s.when (!x.gapFree && d != 0) (fun s => (s.cntN (R.ACT_SEQ_GAP q) d).portErr q 2)
    if c == .bad then s.dropPkt q
    else if ok then body h true s
    else if passBadCrc c then body h false s
    else s.cnt (R.ACT_DROP_PKT q)

/-- Are stream packets delivered to the front end at present (R82)? -/
def State.delivering (s : State) (q : Nat) : Bool := s.pst q == psRun && (s.port q).deliver

/-- The tagged settings at a FRAME_START (R88): NO_ACK from TARGET_FRAME + 2 on, and the SETTING_ID check. -/
def State.tsFrame (s : State) (q fno sid : Nat) : State :=
  let x := s.port q
  let s := if x.tsWait && decide (2 ≤ fdiff fno (s.rdN (R.ACT_TS_TARGET q))) then
      (((s.setPort q { x with tsWait := false }).sf (R.ACT_TS_STAT q) F.ACT_TS_STAT_STATUS 3).sf (R.ACT_TS_STAT q)
        F.ACT_TS_STAT_SWITCHED_LATE 0).tsDone q
    else s
  match x.acked.find? (fun a => decide (0 ≤ fdiff fno a.2)) with
  | some a => s.when (a.1 != sid) (·.portErr q 12)
  | none => s

/-- An AT_FRAME request that two FRAME_STARTs find unanswered is sent again (R91); a listening port sends none (R94). -/
def State.atFrameCheck (s : State) (q : Nat) : State :=
  let x := s.port q
  match x.req with
  | some (m, true) =>
    if x.afFrames = 0 then s.setPort q { x with afFrames := 1 }
    else if s.listening q then s
    else ((s.setPort q { x with afFrames := 0 }).portErr q 4).sendStripe q m false true
  | _ => s

/-- What a FRAME_START does (R74, R77, R82, R88, R91). -/
def State.frameStartBody (q : Nat) (pl : List (BitVec 8)) (ok : Bool) (s : State) : State :=
  let fno := leAt pl 0 4
  let sid := leAt pl 6 2
  let s := s.wrN (R.ACT_LAST_FRAME q) fno
  let s := (s.tsFrame q fno sid).atFrameCheck q
  let s := s.when (s.pst q == psRun) (fun s => s.setPort q { s.port q with deliver := true })
  let s := s.setPort q { s.port q with openLine := false, caught := false, skip := false }
  s.when (s.delivering q) (·.toFe q (.frameStart fno (leAt pl 4 2) sid (leAt pl 8 4 % 0x40000) ok))

/-- What a FRAME_END does: a pending STOP ends RUN at the next one, delivered or not (R82). -/
def State.frameEndBody (q : Nat) (pl : List (BitVec 8)) (ok : Bool) (s : State) : State :=
  let s := s.when (s.delivering q) (·.toFe q (.frameEnd (leAt pl 0 4) (leAt pl 4 2) ok))
  if s.pst q == psRun && (s.port q).stopPend then
    s.portStep q (fun s => (s.setPort q { s.port q with stopPend := false, deliver := false }).setPst q psLinked)
  else s

/-- LINE_TIME of a line (R17, R80): by the trigger ring, by the arrival, or as sent. While the trigger numbering of the quad is not
aligned with the partner's, the free-running rule holds (R407). -/
def State.lineTime (s : State) (q : Nat) (trig : Bool) (seq : Nat) (tx : BitVec 64) : BitVec 64 × Bool :=
  let cable := (s.gf (R.ACT_CABLE_NS q) ⟨0, 16⟩ : Int)
  let arrival := s.ns - (Config.rxLatency (s.gf (R.LANE_QUAD_STAT q) F.LANE_QUAD_STAT_RATE_NOW)).toNat % 201
  let free := arrival - cable - s.rdN (R.ACT_RX_DESC q 8)
  if s.on (R.ACT_PORT_CTL q) F.ACT_PORT_CTL_USE_TX_TIME then
    (tx, trig && ((s.port q).trigRing.find? (fun e => e.1 == seq)).isNone)
  else if trig && !s.twAlign.contains q then
    match (s.port q).trigRing.find? (fun e => e.1 == seq) with
    | some e => (BitVec.ofInt 64 (e.2 + 40 + cable + s.rdN (R.ACT_RX_DESC q 7)), false)
    | none => (BitVec.ofInt 64 free, true)
  else (BitVec.ofInt 64 free, false)

/-- What a LINE_START does (R74, R79, R80). -/
def State.lineStartBody (q : Nat) (pl : List (BitVec 8)) (ok : Bool) (s : State) : State :=
  let fl := leAt pl 8 1
  let s := s.when (fl / 2 % 2 == 1) (·.cnt (R.ACT_TRIG_SKIPPED q))
  let t := s.lineTime q (fl % 2 == 1) (leAt pl 6 2) (BitVec.ofNat 64 (leAt pl 12 8))
  let s := s.when t.2 (·.portErr q 15)
  let s := s.setPort q { s.port q with caught := false, skip := false }
  if s.delivering q then
    (s.setPort q { s.port q with openLine := true, openNo := leAt pl 4 2 }).toFe q (.lineStart (leAt pl 0 4) (leAt pl 4 2) t.1 ok)
  else s

/-- What a LINE_END does (R74, R90); that of a line whose LINE_START fell in the interval of R89 is not delivered. -/
def State.lineEndBody (q : Nat) (pl : List (BitVec 8)) (ok : Bool) (s : State) : State :=
  let fl := leAt pl 6 1
  let s := s.when (fl % 2 == 1) (fun s => (s.cnt (R.ACT_OVERRUN_LINES q)).portErr q 10)
  let give := s.delivering q && !(s.port q).skip
  let s := s.setPort q { s.port q with openLine := false, caught := false, skip := false }
  s.when give (·.toFe q (.lineEnd (leAt pl 0 4) (leAt pl 4 2) (fl % 2 == 1) (fl / 2 % 2 == 1) (leAt pl 8 4) ok))

/-- What a pixel packet does (R67, R75); one of a line whose LINE_START fell in the interval of R89 is not delivered. -/
def State.pixelBody (q : Nat) (h : BitVec 64) (pl : List (BitVec 8)) (ok : Bool) (s : State) : State :=
  s.when (s.delivering q && !(s.port q).skip)
    (·.toFe q (.pixels (hDt h) (hAux h) (hFlags h % 2 == 1) (leAt pl 0 4 % 0x1000000) (pl.drop 4) ok))

/-- Does memory take `n` bytes of a ring from offset `off` on, those beyond its end at its base? -/
def State.ringOk (s : State) (base size off n : Nat) : Bool :=
  let k := min n (size - off)
  s.memOk (base + off) k && (k == n || s.memOk base (n - k))

/-- A packet goes to the receive ring, or is dropped into RING_DROP (R95). -/
def State.ringBody (q : Nat) (h : BitVec 64) (pl : List (BitVec 8)) (s : State) : State :=
  let entry := padTo 64 (leBytes 8 h.toNat ++ pl)
  let size := s.rdN (R.ACT_RING_SIZE q)
  let wr := s.rdN (R.ACT_RING_WR q) % size
  let base := s.rd64N (R.ACT_RING_BASE_LO q) (R.ACT_RING_BASE_HI q)
  let drop := fun (s : State) => (s.cnt (R.ACT_RING_DROP q)).portErr q 14
  if size == 0 then drop s
  else if (((s.rdN (R.ACT_RING_RD q) : Int) - wr - 64) % size) < entry.length then drop s
  else if !s.ringOk base size wr entry.length then (drop s).decodeErr (base + wr)
  else
    let x := s.ringPut base size wr entry
    if x.2 then drop x.1 else (x.1.wrN (R.ACT_RING_WR q) ((wr + entry.length) % size)).fire (193 + 3 * q)

/-- The words of a payload. -/
def words (bs : List (BitVec 8)) : List Nat := (List.range (bs.length / 4)).map (fun i => leAt bs (4 * i) 4)

/-- What a CTRL_RESP does (R82, R85, R87, R94): a listening port takes its descriptor from the first one with TAG 0xFFFF and COUNT 16; an
unknown TAG is dropped (R96). -/
def State.ctrlRespBody (q : Nat) (pl : List (BitVec 8)) (s : State) : State :=
  let x := s.port q
  let tag := leAt pl 0 2
  let status := leAt pl 3 1
  let ws := words (pl.drop 4)
  if s.listening q then
    if tag != 0xffff then s.dropPkt q
    else if leAt pl 2 1 == 16 && !x.hasDesc then s.portStep q (fun s => (s.takeDesc q ws).listenLink q)
    else s
  else if tag == 0xffff then
    if x.descTry != 0 && !x.descBusy then s.portStep q (·.descResp q status ws) else s.dropPkt q
  else if x.bcBusy && tag == (if x.bcTag == 0 then 0xfffe else x.bcTag - 1) then
    let a := R.ACT_BC_STAT q
    let rd := x.bcRead && status == 0
    let s := s.setPort q { x with bcBusy := false }
    let s := s.when rd (fun s => times (min 16 ws.length) (fun i s => s.wrN (R.ACT_BC_DATA q i) (ws.getD i 0)) s)
    let s := (s.sf a F.ACT_BC_STAT_STATUS status).sf a F.ACT_BC_STAT_BUSY 0
    let s := s.wr a (seqBump (s.rd a))
    (s.wrN (R.ACT_BC_CMD q) 0).fire (193 + 3 * q)
  else s.dropPkt q

/-- What a SET_ACK does (R85, R88): the status and EFFECT_FRAME of the setting outstanding, and its bank switch. -/
def State.setAckBody (q : Nat) (pl : List (BitVec 8)) (s : State) : State :=
  let x := s.port q
  let a := R.ACT_TS_STAT q
  let status := leAt pl 2 1
  let eff := leAt pl 4 4
  if !x.tsWait || leAt pl 0 2 != x.tsTag || decide (2 < status) then s.dropPkt q
  else if status == 2 then
    ((((s.setPort q { x with tsWait := false }).sf a F.ACT_TS_STAT_STATUS 2).sf a F.ACT_TS_STAT_SWITCHED_LATE 0).tsDone q).fire
      (193 + 3 * q)
  else
    let late := decide (0 ≤ fdiff (s.rdN (R.ACT_LAST_FRAME q)) eff)
    let s := s.setPort q { x with tsWait := false, acked := ((x.tsTag, eff) :: x.acked).take 8 }
    let s := match s.feOf q with
      | some n =>
        let ahead := ((s.feIn.get (fun _ => []) n).filter (fun i => match i with | FeItem.frameStart .. => true | _ => false)).length
        (s.setFe n { s.fe n with swTag := if late then none else some eff, swTagNext := if late then some ahead else none }).fePend n
      | none => s.tsDone q
    let s := (s.sf a F.ACT_TS_STAT_STATUS status).wrN (R.ACT_TS_EFFECT q) eff
    let s := s.sf a F.ACT_TS_STAT_SWITCHED_LATE (b2n late)
    let s := s.when late (fun s => (s.cnt (R.ACT_ACK_LATE q)).portErr q 11)
    s.fire (193 + 3 * q)

/-- A CTRL_RESP of this end: TAG, STATUS, data words (R85). -/
def State.respond (s : State) (q tag status : Nat) (ws : List Nat) : State :=
  s.sendPkt q 0x32 0 0 0 (leBytes 4 (tag + 0x10000 * ws.length + 0x1000000 * status) ++ (ws.map (leBytes 4)).flatten)

/-- A SET_ACK with REFUSED: EFFECT_FRAME is the TARGET_FRAME of the request (R85, R92). -/
def State.refuseTagged (s : State) (q : Nat) (pl : List (BitVec 8)) : State :=
  s.sendPkt q 0x34 0 0 0 (leBytes 4 (leAt pl 0 2 + 0x20000) ++ leBytes 4 (leAt pl 4 4))

/-- A host end answers a request it receives with NO_REG, or REFUSED for SET_TAGGED (R85); a listening port sends only IDLE. -/
def State.hostReqBody (q : Nat) (h : BitVec 64) (pl : List (BitVec 8)) (s : State) : State :=
  if s.listening q then s
  else if hDt h == 0x33 then s.refuseTagged q pl
  else s.respond q (leAt pl 0 2) 1 []

/-- The status of a write of one word at the camera end that this EG9 is (R84, R92). -/
def camWriteStatus (a : Nat) : Nat :=
  if a == 0x100 then 0 else if a == 0x104 || a == 0x108 || a == 0x10c || a == 0x110 then 2 else 1

/-- What a CTRL_WRITE does at the camera end: only STREAM_CTL.RUN is taken; nothing changes unless every word is OK (R86,
R92). The STATUS of a COUNT outside 1 to 64 (BAD_LEN) and of words that fail differently (that of the first) are the model's choice (log
entry 30). -/
def State.ctrlWriteBody (q : Nat) (pl : List (BitVec 8)) (s : State) : State :=
  let k := leAt pl 2 1
  let a := leAt pl 4 4
  if k == 0 || decide (64 < k) then s.respond q (leAt pl 0 2) 4 [] else
  match (List.range k).findSome? (fun i => if camWriteStatus (a + 4 * i) = 0 then none else some (camWriteStatus (a + 4 * i))) with
  | some e => s.respond q (leAt pl 0 2) e []
  | none =>
    let s := s.setPort q { s.port q with camRun := leAt pl 8 4 % 2 == 1 }
    (s.when (leAt pl 8 4 % 2 == 1) (times 4 (fun v s => s.outVcCheck q v))).respond q (leAt pl 0 2) 0 []

/-- A word that the camera end reads back: TX_DESC, and the registers of R84. -/
def State.camRead (s : State) (q a : Nat) : Option Nat :=
  if a % 4 != 0 then none
  else if a < 0x40 then some (s.rdN (R.ACT_TX_DESC q (a / 4)))
  else if a == 0x100 then some (b2n (s.port q).camRun)
  else if a == 0x104 || a == 0x108 || a == 0x10c then some ((s.port q).camRegs.getD ((a - 0x104) / 4) 0)
  else if a == 0x110 then some (b2n (s.port q).camRun + 16 * ((s.port q).txMask % 16))
  else none

/-- What a CTRL_READ does at the camera end (R84, R92). -/
def State.ctrlReadBody (q : Nat) (pl : List (BitVec 8)) (s : State) : State :=
  let k := leAt pl 2 1
  let a := leAt pl 4 4
  if k == 0 || decide (64 < k) then s.respond q (leAt pl 0 2) 4 [] else
  let ws : List (Option Nat) := (List.range k).map (fun i => s.camRead q (a + 4 * i))
  if ws.all (·.isSome) then
    s.respond q (leAt pl 0 2) 0 (ws.map (fun (w : Option Nat) => w.getD 0))
  else s.respond q (leAt pl 0 2) 1 []

/-! The commands. -/

def frameStartRx (q : Nat) (p : Pkt) (s : State) : State :=
  s.rxPkt .frameStart q p (fun _ ok s => State.frameStartBody q p.payload ok s)

def frameEndRx (q : Nat) (p : Pkt) (s : State) : State :=
  s.rxPkt .frameEnd q p (fun _ ok s => State.frameEndBody q p.payload ok s)

def lineStartRx (q : Nat) (p : Pkt) (s : State) : State :=
  s.rxPkt .lineStart q p (fun _ ok s => State.lineStartBody q p.payload ok s)

def lineEndRx (q : Nat) (p : Pkt) (s : State) : State :=
  s.rxPkt .lineEnd q p (fun _ ok s => State.lineEndBody q p.payload ok s)

def pixelPacketRx (q : Nat) (p : Pkt) (s : State) : State :=
  s.rxPkt .pixel q p (fun h ok s => State.pixelBody q h p.payload ok s)

def ringPacketRx (q : Nat) (p : Pkt) (s : State) : State :=
  s.rxPkt .ring q p (fun h _ s => State.ringBody q h p.payload s)

def ctrlRespRx (q : Nat) (p : Pkt) (s : State) : State :=
  s.rxPkt .ctrlResp q p (fun _ _ s => State.ctrlRespBody q p.payload s)

def setAckRx (q : Nat) (p : Pkt) (s : State) : State :=
  s.rxPkt .setAck q p (fun _ _ s => State.setAckBody q p.payload s)

/-- NULL packets are discarded (R73). -/
def nullPacketRx (q : Nat) (p : Pkt) (s : State) : State := s.rxPkt .null q p (fun _ _ s => s)

/-- A packet that is dropped and counted (R96). -/
def badPacketRx (q : Nat) (p : Pkt) (s : State) : State := s.rxPkt .bad q p (fun _ _ s => s)

def hostRequestRx (q : Nat) (p : Pkt) (s : State) : State :=
  s.rxPkt .hostReq q p (fun h _ s => State.hostReqBody q h p.payload s)

def ctrlWriteRx (q : Nat) (p : Pkt) (s : State) : State :=
  s.rxPkt .ctrlWrite q p (fun _ _ s => State.ctrlWriteBody q p.payload s)

def ctrlReadRx (q : Nat) (p : Pkt) (s : State) : State :=
  s.rxPkt .ctrlRead q p (fun _ _ s => State.ctrlReadBody q p.payload s)

def setTaggedRx (q : Nat) (p : Pkt) (s : State) : State :=
  s.rxPkt .setTagged q p (fun _ _ s => s.refuseTagged q p.payload)

/-- A packet is received as its class says. -/
def State.rxAny (s : State) (q : Nat) (p : Pkt) : State :=
  match hdrCheck p.hdr with
  | none => badPacketRx q p s
  | some (h, _) =>
    let x := s.port q
    if !x.gapFree && decide (0x8000 ≤ (hSeq h + 0x10000 - x.rxSeq) % 0x10000) then badPacketRx q p s else
    match s.classAt q h p with
    | .frameStart => frameStartRx q p s
    | .frameEnd => frameEndRx q p s
    | .lineStart => lineStartRx q p s
    | .lineEnd => lineEndRx q p s
    | .pixel => pixelPacketRx q p s
    | .ring => ringPacketRx q p s
    | .ctrlResp => ctrlRespRx q p s
    | .setAck => setAckRx q p s
    | .null => nullPacketRx q p s
    | .hostReq => hostRequestRx q p s
    | .ctrlWrite => ctrlWriteRx q p s
    | .ctrlRead => ctrlReadRx q p s
    | .setTagged => setTaggedRx q p s
    | .bad => badPacketRx q p s

/-- An IDLE unit (R65, R69, R89): the packet that it interrupts is handled by its class with a failed CRC result (R96); it ends the search after
an uncorrectable header, and resumes delivery after a completed re-stripe. -/
def idleUnitRx (q : Nat) (part : Option Pkt) (s : State) : State :=
  let s := match part with
    | some p => s.rxAny q { p with cut := true }
    | none => s
  let x := s.port q
  s.setPort q { x with hunt := false, noDeliver := x.noDeliver && !x.resumeAtIdle, resumeAtIdle := false }

/-- PORT_LANE_LOST (R89, R91): a lane of the active mask left READY and another remains, or a returning lane was lost again
before its acknowledge. -/
def portLaneLost (q : Nat) (s : State) : State :=
  if s.role q == 3 then s.twinLane q else
  let x := s.port q
  let act := s.activeMask q
  let rdy := s.readyMask q
  let surv := maskAnd act rdy
  if s.role q != 1 || s.listening q || !s.portUp q || surv == 0 then s
  else if surv != act then
    if x.req == some (surv, false) then s else
    s.portStep q (fun s =>
      let s := s.catchLine q
      let s := s.setPort q { s.port q with
        req := some (surv, false), tries := 1, afFrames := 0, noDeliver := true, resumeAtIdle := false, gapFree := true,
        descAgain := s.pst q == psDiscover && x.descTry != 0 }
      (s.sf (R.ACT_PORT_STAT q) F.ACT_PORT_STAT_RESTRIPING 1).sendStripe q surv false false)
  else
    match x.req with
    | some (m, true) =>
      let m' := maskOr act (maskAnd m rdy)
      if m' == m then s
      else s.portStep q (fun s =>
        (s.setPort q { x with req := some (m', true), tries := 1, afFrames := 0 }).sendStripe q m' false true)
    | _ => s

/-- ALL_LANES_LOST (R82): every active lane has left READY. A camera end then has no lanes in use until the next STRIPING
exchange. -/
def allLanesLost (q : Nat) (s : State) : State :=
  if s.role q == 3 then s.twinLane q else
  if s.role q == 2 && maskAnd (s.port q).rxMask (s.readyMask q) == 0 then
    s.portStep q (fun s => ((s.dropTx q).setPort q { (s.dropTx q).port q with rxMask := 0, pendAck := none, shrunk := false, rxPart := none }).setMask q 0)
  else
  if s.role q == 1 && s.portUp q && maskAnd (s.activeMask q) (s.readyMask q) == 0 then
    s.portStep q (fun s =>
      let was := s.pst q == psRun
      let s := s.portErr q 8
      let x := s.port q
      let s := s.setPort q { x with req := none, tries := 0, descTry := 0, descAgain := false, noDeliver := false,
                                    resumeAtIdle := false, hunt := false, deliver := false, stopPend := false,
                                    openLine := false, caught := false, skip := false, hasMask := false, rxPart := none }
      let s := s.dropTx q
      let s := s.sf (R.ACT_PORT_STAT q) F.ACT_PORT_STAT_WAS_RUN (b2n was)
      let s := s.sf (R.ACT_PORT_STAT q) F.ACT_PORT_STAT_RESTRIPING 0
      (s.setMask q 0).setPst q psDown)
  else s

end Sys2Proof.Machine
end

