-- ==== Sys2Proof/Machine/Stitch.lean ====
section
/-! DEFINITION. Stitching: the view configuration (R125, R126), rows and their timing (R127 to R131), the delay rings (R132), the
stitch table (R133 to R137, R140) and the table swap (R141). -/

namespace Sys2Proof.Machine

def State.view (s : State) (v : Nat) : ViewX := s.views.get (fun _ => {}) v
def State.setView (s : State) (v : Nat) (x : ViewX) : State := { s with views := s.views.set (fun _ => {}) v x }

/-- The view's error register in the error record; it fires FAULT (R151). -/
def siteView (v : Nat) : Site := ⟨15, 0, v, 387 + 4 * v⟩
def State.viewErr (s : State) (v b : Nat) : State := s.raise (R.STITCH_VIEW_ERR v) b (siteView v)
def State.vState (s : State) (v : Nat) : Nat := s.gf (R.STITCH_VIEW_STAT v) F.STITCH_VIEW_STAT_VSTATE

/-- DRIFT_STAT.RUNNING: EN in force and the view in RUN (R153). -/
def State.driftRunning (s : State) (v : Nat) : State :=
  s.sf (R.DRIFT_DRIFT_STAT v) F.DRIFT_DRIFT_STAT_RUNNING
    (b2n (s.on (R.DRIFT_DRIFT_CTL v) F.DRIFT_DRIFT_CTL_EN && s.vState v == 2))

/-- VSTATE changes and SYNC fires; a row of R127 that keeps the state fires nothing (R151). -/
def State.vGo (s : State) (v st : Nat) : State :=
  if s.vState v == st then s else
  ((s.sf (R.STITCH_VIEW_STAT v) F.STITCH_VIEW_STAT_VSTATE st).driftRunning v).fire (384 + 4 * v)

/-- OFS_MAX: the largest offset among the enabled slots (R129). -/
def ViewX.ofsMax (x : ViewX) : Nat := x.slots.foldl (fun m o => match o with | some e => max m e.2 | none => m) 0

/-- The slot that a front end fills. -/
def ViewX.slotOf (x : ViewX) (n : Nat) : Option Nat :=
  x.slots.findIdx? (fun o => match o with | some e => e.1 == n | none => false)

/-- The offset of slot `k`. -/
def ViewX.ofs (x : ViewX) (k : Nat) : Nat := match x.slots.getD k none with | some e => e.2 | none => 0

/-- D_s: how many lines slot `k` is delayed by (R132). -/
def ViewX.dly (x : ViewX) (k : Nat) : Nat := match x.slots.getD k none with | some e => x.ofsMax - e.2 | none => 0

/-- LSLOT_s in bytes (R132). -/
def lslot (linePx planes : Nat) : Nat := (linePx * planes * 3 + 8191) / 8192 * 4096

/-- The bytes of slot `k`'s delay ring; a slot without delay has none (R132). -/
def ViewX.ringSize (x : ViewX) (k : Nat) : Nat :=
  if x.dly k == 0 then 0 else (x.dly k + 4) * lslot (x.snap.getD k (0, 0)).1 x.planes

/-- The bytes of the rings of the slots below `k`. -/
def ViewX.ringOff (x : ViewX) (k : Nat) : Nat := ((List.range k).map x.ringSize).foldl (· + ·) 0

/-- The slots that a row waits for: enabled and not absent (R129). -/
def State.expected (s : State) (v k : Nat) : Bool :=
  ((s.view v).slots.getD k none).isSome && !s.on (R.STITCH_VIEW_STAT v) (bit (8 + k))

/-- Is every enabled slot absent (R127)? -/
def State.allAbsent (s : State) (v : Nat) : Bool := (List.range 8).all (fun k => !s.expected v k)

/-- The value of a column from one source (R134). -/
def lineSample (at' : Nat → Nat) (px x : Nat) : Nat :=
  let i := x / 256
  let f := x % 256
  let a := at' i
  let b := if i + 1 < px then at' (i + 1) else a
  (a * (256 - f) + b * f + 128) / 256

/-! Fields of a stitch entry (R133). -/
def entCol (e : BitVec 40) : Nat := (e.extractLsb' 0 24).toNat
def entSlot (e : BitVec 40) : Nat := (e.extractLsb' 24 3).toNat
def entNone (e : BitVec 40) : Bool := e.getLsbD 27
def entPair (e : BitVec 40) : Bool := e.getLsbD 28
def entWeight (e : BitVec 40) : Nat := (e.extractLsb' 32 8).toNat

/-- The entries of `k` output columns from pool position `pos` on, each with its partner (R133). -/
def tabWalk (tab : SMap (BitVec 40)) : Nat → Nat → List (BitVec 40 × Option (BitVec 40))
  | 0, _ => []
  | k + 1, pos =>
    let e := tab.get (fun _ => 0) (pos % 524288)
    if entPair e then (e, some (tab.get (fun _ => 0) ((pos + 1) % 524288))) :: tabWalk tab k (pos + 2)
    else (e, none) :: tabWalk tab k (pos + 1)

/-- The line that an entry may use (R134), and whether its column lies beyond the line. -/
def entSrc (ls : List (Option CLine)) (e : BitVec 40) : Option CLine × Bool :=
  if entNone e then (none, false) else
  match ls.getD (entSlot e) none with
  | none => (none, false)
  | some l => if entCol e / 256 < l.px then (some l, false) else (none, true)

/-- A sample of plane `p` of a line; a plane that the line does not carry has no stated value. -/
def planeAt (ix slot : Nat) (l : CLine) (p i : Nat) : Nat :=
  if p < l.planes then (l.data.getD p []).getD i 0
  else (Config.freeValue (ix + (4 * slot + p) * 16384 + i)).toNat % 4096

/-- What one output column takes (R134, R135): its planes, whether it is padded, the flags of the lines it uses, and a column
beyond LINE_PX. -/
structure ColOut where
  px : List Nat
  pad : Bool
  flags : Nat
  range : Bool
deriving DecidableEq, Repr

/-- One output column (R134). -/
def colOut (ix planes : Nat) (padVal : List Nat) (ls : List (Option CLine)) (c : BitVec 40 × Option (BitVec 40)) : ColOut :=
  let a := entSrc ls c.1
  let b := match c.2 with | some e => entSrc ls e | none => (none, false)
  let smp (e : BitVec 40) (l : CLine) (p : Nat) := lineSample (planeAt ix (entSlot e) l p) l.px (entCol e)
  let w := entWeight c.1
  let bad := a.2 || b.2
  let ps := List.range planes
  match a.1, b.1 with
  | some l, some m =>
    ⟨ps.map (fun p => (w * smp c.1 l p + (256 - w) * smp (c.2.getD 0) m p + 128) / 256),
      isPadded l.flags || isPadded m.flags, l.flags ||| m.flags, bad⟩
  | some l, none => ⟨ps.map (smp c.1 l), isPadded l.flags, l.flags, bad⟩
  | none, some m => ⟨ps.map (smp (c.2.getD 0) m), isPadded m.flags, m.flags, bad⟩
  | none, none => ⟨ps.map (fun p => padVal.getD p 0), true, 0, bad⟩

/-- The address of the ring slot of a delayed line (R132). -/
def ViewX.dlyAddr (x : ViewX) (k rowNo : Nat) : Nat :=
  x.dlyBase + x.ringOff k + rowNo % (x.dly k + 4) * lslot (x.snap.getD k (0, 0)).1 x.planes

/-- The bytes of a ring slot (R132). -/
def ViewX.dlyLen (x : ViewX) (k : Nat) : Nat := lslot (x.snap.getD k (0, 0)).1 x.planes

/-- `n` bytes of memory take values that the spec does not give. -/
def State.wrFree (s : State) (a n : Nat) : State :=
  let x := s.memPut a (s.freeBytes n)
  { x.1 with freeIx := x.1.freeIx + n }

/-- The stream of a row's pixels at KIND 2 (R92): identity, pixel packets of 16,384 columns each, line end. -/
def State.viewStream (s : State) (v : Nat) (lines : Nat) (first : Bool) (r : VRow) : State :=
  let x := s.view v
  let s := if first then
      let s := s.when (x.frameRows != 0) (fun s => s.streamOut 2 v ⟨0x01, 0, 0, leBytes 4 x.prevFrame ++ leBytes 2 x.frameRows
        ++ leBytes 6 0⟩)
      s.streamOut 2 v ⟨0x00, 0, 0, leBytes 4 r.frameNo ++ leBytes 2 lines ++ leBytes 2 0 ++ leBytes 4 x.width⟩
    else s
  let s := s.streamOut 2 v ⟨0x02, 0, 0, leBytes 4 r.frameNo ++ leBytes 2 r.lineNo ++ leBytes 6 0 ++ leBytes 8 r.time.toNat⟩
  let segs := (x.width + 16383) / 16384
  let s := times segs (fun i s => s.streamOut 2 v ⟨0x18, x.planes - 1, b2n (i + 1 == segs),
    pixelPayload 12 (16384 * i) ((r.px.drop (16384 * i)).take 16384).flatten⟩) s
  s.streamOut 2 v ⟨0x03, 0, 0, leBytes 4 r.frameNo ++ leBytes 2 r.lineNo ++ leBytes 2 0 ++ leBytes 4 x.width⟩

/-- The misses of a slot after a row (R129): a slot that reaches MISS_LIMIT becomes absent and fires SLOT. -/
def State.slotMiss (s : State) (v k : Nat) (present : Bool) : State :=
  let x := s.view v
  if (x.slots.getD k none).isNone then s else
  let n := if present then 0 else x.miss.getD k 0 + 1
  let s := s.setView v { x with miss := x.miss.set k n }
  if decide (x.missLimit ≤ n) && !s.on (R.STITCH_VIEW_STAT v) (bit (8 + k)) then
    (s.sf (R.STITCH_VIEW_STAT v) (bit (8 + k)) 1).fire (386 + 4 * v)
  else s

/-- A row is emitted (R129 to R137, R141). `stalls` names the slots whose delayed line is not read back in time; the line of a slot that is
absent is not used (R129, R134). -/
def State.rowOut (s : State) (v stalls : Nat) (timedOut : Bool) (r : StRow) : State :=
  let x := s.view v
  let sound := r.lines.map (fun o => match o with | some (l, false) => some l | _ => none)
  let stalled (k : Nat) : Bool := (sound.getD k none).isSome && x.dly k != 0 &&
    (flag stalls k || !s.dramOk (x.dlyAddr k r.no) || s.badRead (x.dlyAddr k r.no) (x.dlyLen k))
  let s := times 8 (fun k s => s.when ((sound.getD k none).isSome && x.dly k != 0) (fun s => (s.unitRead (x.dlyAddr k r.no) (x.dlyLen k)).1)) s
  let s := times 8 (fun k s => s.when (stalled k) (fun s => (s.cnt (R.STITCH_DLY_STALL v)).viewErr v 9)) s
  let ls := (List.range 8).map (fun k => if stalled k || !s.expected v k then none else sound.getD k none)
  let a := match x.slotOf x.anchor with | some k => sound.getD k none | none => none
  let lines := (s.fe x.anchor).cfg.frameLines
  let wrapped := decide (lines ≤ x.prevLine + 1)
  let lineNo := match a with | some l => l.lineNo | none => if wrapped then 0 else x.prevLine + 1
  let frameNo := match a with
    | some l => l.frameNo
    | none => if wrapped then (x.prevFrame + 1) % 0x100000000 else x.prevFrame
  let time := match a with
    | some l => l.time
    | none => BitVec.ofInt 64 (r.tr + (x.ofs ((x.slotOf x.anchor).getD 0) * x.period : Nat))
  let swap := lineNo == 0 && s.on (R.STITCH_VIEW_STAT v) F.STITCH_VIEW_STAT_SWAP_PENDING
  let base := if swap then s.rdN (R.STITCH_TAB_BASE_NEXT v) else x.tabBase
  let ents := tabWalk s.stTab x.width base
  let used := (ents.map (fun e => if e.2.isSome then 2 else 1)).foldl (· + ·) 0
  let cols := ents.map (colOut s.freeIx x.planes ((List.range 4).map (fun p => s.rdN (R.STITCH_PAD_VAL v p))) ls)
  let s := s.when (ls.any (fun o => match o with | some l => decide (l.planes < x.planes) | none => false))
    (fun s => { s with freeIx := s.freeIx + 524288 })
  let miss := (List.range 8).filter (fun k => (x.slots.getD k none).isSome && (ls.getD k none).isNone)
  let mask := (miss.map (fun k => 2 ^ k)).foldl (· + ·) 0
  let allPad := sound.all (·.isNone)
  let srcPad := ents.zip cols |>.any (fun e => e.2.pad && e.2.flags != 0)
  let srcFlag := cols.any (fun c => c.flags != 0)
  let flags := b2n (mask != 0) + 2 * b2n srcPad + 4 * b2n srcFlag + 8 * b2n a.isNone + 16 * b2n allPad + 32 * b2n r.resync
    + 64 * b2n swap + 128 * b2n x.torn + 256 * b2n timedOut
  let row : VRow := ⟨r.no, frameNo, lineNo, time, mask, flags, cols.map (·.px), cols.map (·.pad), [], []⟩
  let s := s.when swap (fun s =>
    (((s.wrN (R.STITCH_TAB_BASE v) base).sf (R.STITCH_VIEW_STAT v) F.STITCH_VIEW_STAT_SWAP_PENDING 0).cnt
      (R.STITCH_SWAPS v)).fire (385 + 4 * v))
  let s := s.when x.torn (·.cnt (R.STITCH_TORN_ROWS v))
  let s := s.when a.isNone (fun s => (s.cnt (R.STITCH_ANCHOR_GUESS v)).viewErr v 5)
  let s := s.when (mask != 0) (fun s => (s.cnt (R.STITCH_SEG_MISSING v)).viewErr v 2)
  let s := s.when allPad (·.cnt (R.STITCH_ROWS_ALL_PAD v))
  let s := s.when (cols.any (·.range)) (·.viewErr v 7)
  let s := s.viewStream v lines (lineNo == 0 || r.resync) row
  let s := s.setView v { x with rows := x.rows.drop 1, tabBase := base, torn := false, prevLine := lineNo, prevFrame := frameNo
                                frameRows := if lineNo == 0 || r.resync then 1 else x.frameRows + 1 }
  let s := (s.wrN (R.STITCH_ROW_NO v) r.no).wrN (R.STITCH_LAST_FRAME v) frameNo
  let s := (s.wrN (R.STITCH_TAB_USED v) used).cnt (R.STITCH_ROWS_OUT v)
  let s := { s with driftIn := s.driftIn.set (fun _ => []) v (s.driftIn.get (fun _ => []) v ++ [row]) }
  times 8 (fun k s => s.slotMiss v k (r.lines.getD k none).isSome) s

/-- Every open row is emitted (R127). -/
def State.rowsOut (s : State) (v stalls : Nat) : Nat → State
  | 0 => s
  | n + 1 =>
    match (s.view v).rows with
    | [] => s
    | r :: _ => (s.rowOut v stalls false r).rowsOut v stalls n

/-- The view leaves RUN for WAIT, its open rows emitted (R127). -/
def State.viewWait (s : State) (v stalls : Nat) : State := (s.rowsOut v stalls (s.view v).rows.length).vGo v 1

/-- Rows that are complete leave in order (R129); when no slot is left that rows wait for, the view waits (R127). -/
def State.rowsReady (s : State) (v stalls : Nat) : Nat → State
  | 0 => s
  | n + 1 =>
    if s.allAbsent v then s.viewWait v stalls else
    match (s.view v).rows with
    | [] => s
    | r :: _ =>
      if (List.range 8).all (fun k => !s.expected v k || (r.lines.getD k none).isSome) then
        (s.rowOut v stalls false r).rowsReady v stalls n
      else s

/-- Emission as far as the open rows allow. -/
def State.rowsSettle (s : State) (v stalls : Nat) : State := s.rowsReady v stalls ((s.view v).rows.length + 1)

/-- Row times from `t` on: a row that no line has timed lies one period after the row before it (R128). -/
def retime (period : Nat) : Int → List StRow → List StRow × Int
  | t, [] => ([], t)
  | t, r :: rs =>
    let r := if r.setBy.isSome then r else { r with tr := t }
    let q := retime period (r.tr + period) rs
    (r :: q.1, q.2)

/-- Opens the next `n` rows (R128). -/
def ViewX.openRows (x : ViewX) : Nat → ViewX
  | 0 => x
  | n + 1 => ({ x with rows := x.rows ++ [{ no := x.nextNo % 0x100000000, tr := x.nextTr }], nextNo := x.nextNo + 1
                       nextTr := x.nextTr + x.period : ViewX }).openRows n

/-- Does time `t` match a row time (R128): nearer than half a period? -/
def rowMatch (period : Nat) (t tr : Int) : Bool := decide (2 * (t - tr) < period) && decide (2 * (tr - t) < period)

/-- A line of slot `k` joins row `i` of the open rows (R128, R129, R132, R136). -/
def State.joinRow (s : State) (v k i : Nat) (l : CLine) : State :=
  let x := s.view v
  match x.rows[i]? with
  | none => s
  | some r =>
    if (r.lines.getD k none).isSome then (s.cnt (R.STITCH_DUP_CONTRIB v)).viewErr v 4 else
    let bad := (l.px, l.planes) != x.snap.getD k (0, 0)
    let anchor := x.slotOf x.anchor == some k
    let sets := anchor || (match r.setBy with
      | none => true
      | some j => x.slotOf x.anchor != some j && decide (k < j))
    let r' := { r with lines := r.lines.set k (some (l, bad)),
                       tr := if sets then l.time.toInt - (x.ofs k * x.period : Nat) else r.tr,
                       setBy := if sets then some k else r.setBy }
    let q := retime x.period (r'.tr + x.period) (x.rows.drop (i + 1))
    let s := s.setView v { x with rows := x.rows.take i ++ r' :: q.1, nextTr := q.2 }
    let s := s.when bad (·.viewErr v 10)
    let s := s.when (s.on (R.STITCH_VIEW_STAT v) (bit (8 + k))) (fun s =>
      let s := s.setView v { s.view v with miss := (s.view v).miss.set k 0 }
      (s.sf (R.STITCH_VIEW_STAT v) (bit (8 + k)) 0).fire (386 + 4 * v))
    s.when (x.dly k != 0) (fun s =>
      let a := x.dlyAddr k r.no
      let n := x.dlyLen k
      if s.dramOk a && s.dramOk (a + n - 1) then s.wrFree a n else s.decodeErr a)

/-- Rows that hold a line of slot `k`: those whose ring slot is taken (R132). -/
def ViewX.held (x : ViewX) (k : Nat) : Nat := (x.rows.filter (fun r => (r.lines.getD k none).isSome)).length

/-- A full ring forces the oldest open row out (R130). -/
def State.forceRow (s : State) (v k stalls : Nat) : State :=
  let x := s.view v
  match x.rows with
  | r :: _ =>
    if decide (x.dly k + 4 ≤ x.held k) then ((s.rowOut v stalls true r).cnt (R.STITCH_ROWS_FORCED v)).viewErr v 11 else s
  | [] => s

/-- A line of slot `k` reaches a view in RUN (R127 to R130). -/
def State.runLine (s : State) (v k stalls : Nat) (l : CLine) : State :=
  let s := s.forceRow v k stalls
  let x := s.view v
  let t := l.time.toInt - (x.ofs k * x.period : Nat)
  match x.rows.findIdx? (fun r => rowMatch x.period t r.tr) with
  | some i => (s.joinRow v k i l).rowsSettle v stalls
  | none =>
    let j := ((2 * (t - x.nextTr) + x.period) / (2 * (x.period : Int)))
    if j < 0 then (s.cnt (R.STITCH_LATE_CONTRIB v)).viewErr v 3
    else if !rowMatch x.period t (x.nextTr + j * x.period) then s
    else if decide (64 ≤ j) then
      (((s.rowsOut v stalls x.rows.length).cntN (R.STITCH_ROWS_LOST v) j.toNat).viewErr v 6).vGo v 1
    else
      let s := s.setView v (x.openRows (j.toNat + 1))
      (s.joinRow v k (x.rows.length + j.toNat) l).rowsSettle v stalls

/-- STITCH_LINE_IN (R127, R128): the oldest corrected line of front end `n` reaches the view that names it. -/
def stitchLineIn (n stalls : Nat) (s : State) : State :=
  match s.stIn.get (fun _ => []) n with
  | [] => s
  | l :: rest =>
    let s := { s with stIn := s.stIn.set (fun _ => []) n rest }
    match (List.range 4).find? (fun v => s.vState v != 0 && ((s.view v).slotOf n).isSome) with
    | none => s
    | some v =>
      let x := s.view v
      let k := (x.slotOf n).getD 0
      if s.vState v == 1 then
        if n == x.anchor && l.lineNo == 0 then
          let s := s.setView v { x with rows := [{ no := 0, tr := l.time.toInt - (x.ofs k * x.period : Nat), resync := true }]
                                        nextNo := 1, nextTr := l.time.toInt - (x.ofs k * x.period : Nat) + x.period }
          ((s.vGo v 2).joinRow v k 0 l).rowsSettle v stalls
        else s.cnt (R.STITCH_PRE_SYNC v)
      else s.runLine v k stalls l

/-- ROW_DEADLINE (R129, R130): the oldest row of a running view that is not complete at its deadline is emitted; the next row of
the grid is due even when no line has opened it. -/
def rowDeadline (v stalls : Nat) (s : State) : State :=
  if s.vState v != 2 then s else
  let x := if (s.view v).rows.isEmpty then (s.view v).openRows 1 else s.view v
  match x.rows with
  | [] => s
  | r :: _ =>
    if s.ns < r.tr + (x.ofsMax * x.period + x.timeout : Nat) then s else
    let s := ((s.setView v x).rowOut v stalls true r).cnt (R.STITCH_ROWS_TIMED_OUT v)
    (s.viewErr v 1).rowsSettle v stalls

/-! The configuration of a view (R125, R126). -/

/-- The slots that the registers hold. -/
def State.slotRegs (s : State) (v : Nat) : List (Option (Nat × Nat)) :=
  (List.range 8).map (fun k =>
    let w := s.rd (R.STITCH_SLOT v k)
    if F.STITCH_SLOT_EN.get w == 1 then some (F.STITCH_SLOT_FE.get w, F.STITCH_SLOT_OFS.get w) else none)

/-- The front ends of a slot list. -/
def slotFes (l : List (Option (Nat × Nat))) : List Nat := (l.filterMap id).map (·.1)

/-- Has a list no repeats? -/
def noDup (l : List Nat) : Bool := decide l.Nodup

/-- The view that an APPLY would put in force. -/
def State.viewRegs (s : State) (v : Nat) : ViewX :=
  let w := s.rd (R.STITCH_VIEW v)
  let slots := s.slotRegs v
  { width := s.rdN (R.STITCH_WIDTH v), period := s.rdN (R.STITCH_ROW_PERIOD_NS v), timeout := s.rdN (R.STITCH_ROW_TIMEOUT v)
    planes := F.STITCH_VIEW_PLANES.get w, anchor := F.STITCH_VIEW_ANCHOR.get w, missLimit := F.STITCH_VIEW_MISS_LIMIT.get w
    tabBase := s.rdN (R.STITCH_TAB_BASE v)
    dlyBase := s.rd64N (R.STITCH_DLY_BASE_LO v) (R.STITCH_DLY_BASE_HI v)
    slots := slots
    snap := slots.map (fun o => match o with
      | some e => (F.FE_GEOM_LINE_PX.get (s.rd (R.FE_GEOM e.1)), F.FE_FORMAT_OUT_PLANES.get (s.rd (R.FE_FORMAT e.1)))
      | none => (0, 0)) }

/-- The conditions of R125 and R126 on a view. -/
def State.viewOk (s : State) (v : Nat) (x : ViewX) (en : Bool) : Bool :=
  let others := (List.range 4).filter (· != v)
  let fes := slotFes x.slots
  let widths := (others.map (fun u => if s.vState u == 0 then 0 else (s.view u).width)).foldl (· + ·) 0
  fes.all (fun n => decide (n < 24)) && noDup fes
    && others.all (fun u => (slotFes (s.view u).slots).all (fun n => !fes.contains n))
    && fes.contains x.anchor
    && decide (64 ≤ x.width) && decide (x.width ≤ 131072)
    && (!en || decide (widths + x.width ≤ 393216))
    && x.period == s.rdN (R.FE_LINE_PERIOD_NS x.anchor)
    && decide (1 ≤ x.planes) && decide (x.planes ≤ 4) && decide (1 ≤ x.missLimit)
    && decide (5000 ≤ x.period) && decide (1000 ≤ x.timeout) && decide (x.timeout ≤ 1000000)
    && decide (x.tabBase < 524288) && decide (x.ringOff 8 ≤ s.rdN (R.STITCH_DLY_SIZE v))

/-- VIEW_CMD.APPLY (R126). -/
def viewApply (v : Nat) (s : State) : State :=
  let x := s.viewRegs v
  let en := s.on (R.STITCH_VIEW v) F.STITCH_VIEW_EN
  if !s.viewOk v x en then s.viewErr v 0 else
  let old := s.view v
  let s := s.when (decide (0 < old.rows.length)) (fun s => (s.cntN (R.STITCH_ROWS_LOST v) old.rows.length).viewErr v 6)
  let s := s.setView v { x with torn := old.torn, seedPend := old.seedPend || x.width != old.width }
  let s := s.when (x.width != old.width) (fun s =>
    ({ s with drift := s.drift.set (fun _ => []) v [] }).sf (R.DRIFT_DRIFT_STAT v) F.DRIFT_DRIFT_STAT_SEED_PENDING 1)
  let s := s.sf (R.STITCH_VIEW_STAT v) F.STITCH_VIEW_STAT_ABSENT 0
  let s := s.sf (R.STITCH_VIEW_STAT v) F.STITCH_VIEW_STAT_SLOTS_EN
    (((List.range 8).map (fun k => if (x.slots.getD k none).isSome then 2 ^ k else 0)).foldl (· + ·) 0)
  s.vGo v (if en then 1 else 0)

/-- VIEW_CMD.SWAP (R141); a pending one merges. -/
def viewSwap (v : Nat) (s : State) : State := s.sf (R.STITCH_VIEW_STAT v) F.STITCH_VIEW_STAT_SWAP_PENDING 1

/-- VIEW_CMD.CANCEL_SWAP (R141). -/
def viewCancelSwap (v : Nat) (s : State) : State := s.sf (R.STITCH_VIEW_STAT v) F.STITCH_VIEW_STAT_SWAP_PENDING 0

/-- A write to TAB_LO stages bits [31:0] (R140). -/
def stitchTabLoWrite (v : Word) (s : State) : State := { s with stStage := v }

/-- Does entry `a` lie in the table that view `v` reads (R140)? -/
def State.tabLive (s : State) (v a : Nat) : Bool :=
  s.vState v == 2 && decide ((a + 524288 - (s.view v).tabBase % 524288) % 524288 < s.rdN (R.STITCH_TAB_USED v))

/-- A write to TAB_HI stores the entry at TAB_ADDR and steps TAB_ADDR (R140). -/
def stitchTabHiWrite (v : Word) (s : State) : State :=
  let a := s.rdN R.STITCH_TAB_ADDR % 524288
  let s := { s with stTab := s.stTab.set (fun _ => 0) a (v.setWidth 8 ++ s.stStage) }
  let s := s.wrN R.STITCH_TAB_ADDR ((a + 1) % 524288)
  times 4 (fun u s => s.when (s.tabLive u a) (fun s => (s.setView u { s.view u with torn := true }).viewErr u 8)) s

end Sys2Proof.Machine
end

