-- ==== Sys2Proof/Machine/HearthBase.lean ====
section
/-! DEFINITION. The Hearth array, what its parts share: tiles, contexts and groups, the line store and its layout (R159 to R161,
R187), emission towards Moraine (R170, R205), class rows (R171). -/

namespace Sys2Proof.Machine

def State.tile (s : State) (t : Nat) : TileX := s.tiles.get (fun _ => {}) t
def State.setTile (s : State) (t : Nat) (x : TileX) : State := { s with tiles := s.tiles.set (fun _ => {}) t x }
def State.ctx (s : State) (t c : Nat) : HCtx := (s.tile t).ctxs.get (fun _ => {}) c
def State.setCtx (s : State) (t c : Nat) (x : HCtx) : State :=
  s.setTile t { s.tile t with ctxs := (s.tile t).ctxs.set (fun _ => {}) c x }
def State.group (s : State) (g : Nat) : GroupX := s.groups.get (fun _ => {}) g
def State.setGroup (s : State) (g : Nat) (x : GroupX) : State := { s with groups := s.groups.set (fun _ => {}) g x }

def State.cstatF (s : State) (t c : Nat) (f : Fld) (n : Nat) : State := s.sf (R.HEARTH_CTX_STAT t c) f n
def State.cState (s : State) (t c : Nat) : Nat := s.gf (R.HEARTH_CTX_STAT t c) F.HEARTH_CTX_STAT_STATE
def State.gState (s : State) (g : Nat) : Nat := s.gf (R.HEARTH_GSTAT g) F.HEARTH_GSTAT_GSTATE

/-! The states of CTX_STAT.STATE (R176). -/
def cxIdle : Nat := 0
def cxRunning : Nat := 1
def cxHalted : Nat := 2
def cxWaitFrame : Nat := 3

/-- The lowest-numbered tile of a group, whose sources carry the group's events (R175). -/
def GroupX.low (x : GroupX) : Nat := x.tiles.headD 0

/-- A tile's error register in the error record; it fires FAULT (R175). -/
def siteTile (t : Nat) : Site := ⟨17, 1, t, 419 + 4 * t⟩
/-- A group's error register in the error record; it fires FAULT of the group's lowest tile. -/
def State.siteGroup (s : State) (g : Nat) : Site := ⟨17, 0, g, 419 + 4 * (s.group g).low⟩
def State.tileErr (s : State) (t b : Nat) : State := s.raise (R.HEARTH_TERR t) b (siteTile t)
def State.groupErr (s : State) (g b : Nat) : State := s.raise (R.HEARTH_GERR g) b (s.siteGroup g)

/-! Geometry (R158 to R160). -/

/-- W_S, the slot width. -/
def GroupX.slotW (x : GroupX) : Nat := x.stripeW + 2 * x.apron
/-- SLOT_BYTES. -/
def GroupX.slotBytes (x : GroupX) : Nat := (64 + 16 * x.slotW + 63) / 64 * 64
/-- The line-store bytes of one context: its ring and its scratch. -/
def GroupX.ctxBytes (x : GroupX) : Nat := x.rowSlots * x.slotBytes + x.scratch * 64
/-- The group context `k` in force. -/
def GroupX.k (x : GroupX) (k : Nat) : Option GKCfg := x.ks.getD k none
/-- The number of stripes of a column range. -/
def stripeCount (w lo hi : Nat) : Nat := if hi < lo then 0 else (hi - lo) / w + 1
/-- The stripes that tile number `u` of the group holds for group context `k`. -/
def GroupX.tileStripes (x : GroupX) (u k : Nat) : List (Nat × Nat) :=
  match x.k k with
  | none => []
  | some c => ((List.range (stripeCount x.stripeW c.lo c.hi)).filter (fun i => i % x.tiles.length == u)).map (fun i => (k, i))
/-- The stripes of tile number `u` in context order: all group contexts in BY_STRIPE, one in BY_FRAME. -/
def GroupX.tileBinds (x : GroupX) (u : Nat) : List (Nat × Nat) :=
  if x.byFrame then (match x.bound with | some k => x.tileStripes u k | none => [])
  else ((List.range 4).map (x.tileStripes u)).flatten
/-- The first view column of a stripe. -/
def GroupX.stripeCol (x : GroupX) (k i : Nat) : Nat := match x.k k with | some c => c.lo + i * x.stripeW | none => 0
/-- The width of a stripe. -/
def GroupX.stripeWidth (x : GroupX) (k i : Nat) : Nat :=
  match x.k k with | some c => min x.stripeW (c.hi + 1 - (c.lo + i * x.stripeW)) | none => 0
/-- R_B, the bytes of a spilled row (R168). -/
def GroupX.spillBytes (x : GroupX) (c : GKCfg) : Nat := (64 + 16 * (c.hi - c.lo + 1 + 2 * x.apron) + 63) / 64 * 64

/-! The line store: bytes by offset. -/

/-- A block of bytes replaces what a byte map holds there. -/
def putBlock (m : SMap (BitVec 8)) (a : Nat) (bs : List (BitVec 8)) : SMap (BitVec 8) :=
  m.filter (fun e => decide (e.1 < a))
    ++ ((bs.zipIdx a).filter (fun e => e.1 != 0)).map (fun e => (e.2, e.1))
    ++ m.filter (fun e => decide (a + bs.length ≤ e.1))

def lsByte (m : SMap (BitVec 8)) (a : Nat) : BitVec 8 := m.get (fun _ => 0) a

/-- `n` bytes of the line store, little-endian. -/
def lsNat (m : SMap (BitVec 8)) (a n : Nat) : Nat := leNat ((List.range n).map (fun i => lsByte m (a + i)))

/-- The ring slot of row number `q` for context `c`. -/
def GroupX.slotAddr (x : GroupX) (c q : Nat) : Nat := c * x.ctxBytes + q % x.rowSlots * x.slotBytes

/-- The scratch of context `c`. -/
def GroupX.scratchAddr (x : GroupX) (c : Nat) : Nat := c * x.ctxBytes + x.rowSlots * x.slotBytes

/-- The value half-word of plane `p`, slot column `j`, in a slot (R161). -/
def GroupX.half (x : GroupX) (m : SMap (BitVec 8)) (slot p j : Nat) : Nat := lsNat m (slot + 64 + 2 * (p * x.slotW + j)) 2
/-- The reference half-word of the same place (R161). -/
def GroupX.refHalf (x : GroupX) (m : SMap (BitVec 8)) (slot p j : Nat) : Nat :=
  lsNat m (slot + 64 + 8 * x.slotW + 2 * (p * x.slotW + j)) 2

/-- The header of a row slot (R161). -/
structure SlotHdr where
  rowNo : Nat
  frameNo : Nat
  lineNo : Nat
  rowFlags : Nat
  time : BitVec 64
  view : Nat
  mask : Nat
  slotFlags : Nat
  col : Nat
  width : Nat
  apron : Nat
deriving DecidableEq, Repr

/-- The 64 header bytes of a slot (R161). -/
def SlotHdr.bytes (h : SlotHdr) : List (BitVec 8) :=
  leBytes 4 h.rowNo ++ leBytes 4 h.frameNo ++ leBytes 2 h.lineNo ++ leBytes 2 h.rowFlags ++ leBytes 8 h.time.toNat
    ++ leBytes 1 h.view ++ leBytes 1 h.mask ++ leBytes 2 h.slotFlags ++ leBytes 4 h.col ++ leBytes 2 h.width
    ++ leBytes 1 h.apron ++ List.replicate 33 0

/-- The bytes of a slot from its header and its columns, each as four (value, reference) half-words. -/
def slotImage (h : SlotHdr) (cols : List (List (Nat × Nat))) : List (BitVec 8) :=
  let plane (f : Nat × Nat → Nat) (p : Nat) := (cols.map (fun c => leBytes 2 (f (c.getD p (0, 0))))).flatten
  h.bytes ++ ((List.range 4).map (plane (·.1))).flatten ++ ((List.range 4).map (plane (·.2))).flatten

/-- The half-words of one view column of a row (R159, R161): a column outside the view follows EDGE_MODE; planes that the view has
not read 0. -/
def rowColumn (edge width : Nat) (padVal : List Nat) (planes : Nat) (r : VRow) (vc : Int) : List (Nat × Nat) :=
  let inside := decide (0 ≤ vc) && decide (vc < width)
  let c := if vc < 0 then 0 else min vc.toNat (width - 1)
  (List.range 4).map (fun p =>
    if planes ≤ p then (0, 0)
    else if !inside && edge == 1 then (padVal.getD p 0 + 0x1000 + 0x4000, 0)
    else ((r.px.getD c []).getD p 0 + 0x1000 * b2n (r.pad.getD c false) + 0x2000 * b2n (r.cov.getD c false)
      + (if inside then 0 else 0x4000), (r.ref.getD c []).getD p 0))

/-- The columns of a row from view column `lo` on. -/
def State.rowColumns (s : State) (edge v : Nat) (r : VRow) (lo : Int) (n : Nat) : List (List (Nat × Nat)) :=
  let x := s.view v
  let pads := (List.range 4).map (fun p => s.rdN (R.STITCH_PAD_VAL v p))
  (List.range n).map (fun j => rowColumn edge x.width pads x.planes r (lo + j))

/-- The slot columns of a stripe of `w` columns filled up to the slot width (R187). -/
def fillColumns (edge slotW : Nat) (pads : List Nat) (planes : Nat) (cols : List (List (Nat × Nat))) : List (List (Nat × Nat)) :=
  let k := slotW - cols.length
  let last := cols.getLastD []
  let filler := (List.range 4).map (fun p =>
    if planes ≤ p then (0, 0)
    else if edge == 1 then (pads.getD p 0 + 0x1000 + 0x4000, 0)
    else (let h := last.getD p (0, 0); ((⟨14, 1⟩ : Fld).put (BitVec.ofNat 32 h.1) 1 |>.toNat, h.2)))
  cols ++ List.replicate k filler

/-- An empty ring (R187). -/
def GroupX.emptySlot (x : GroupX) : List (BitVec 8) :=
  let h : SlotHdr := ⟨0xffffffff, 0, 0, 0, 0, 0, 0, 0, 0, 0, 0⟩
  let img := slotImage h (List.replicate x.slotW (List.replicate 4 (0x4000, 0)))
  img ++ List.replicate (x.slotBytes - img.length) 0

/-! Emission (R170, R205). -/

/-- Row marks at the head of a tile's queue travel on: they wait only behind the fragments before them. -/
def State.flowMarks (s : State) (t : Nat) : Nat → State
  | 0 => s
  | n + 1 =>
    match (s.tile t).queue with
    | .mark v g k i r :: q =>
      let s := s.setTile t { s.tile t with queue := q }
      ({ s with mvIn := s.mvIn ++ [HItem.mark v g k i r] }).flowMarks t n
    | _ => s

/-- A row mark into a tile's emit order: behind the fragments that still wait for a place (R205). -/
def State.putMark (s : State) (t v g k i row : Nat) : State :=
  let x := s.tile t
  let m : HItem := .mark v g k i row
  let s := s.setTile t (if x.backlog.isEmpty then { x with queue := x.queue ++ [m] } else { x with backlog := x.backlog ++ [(4, m)] })
  s.flowMarks t (s.tile t).queue.length

/-- The records in a tile's fragment queue. -/
def TileX.frags (x : TileX) : Nat := (x.queue.filter (fun i => match i with | .frag _ => true | .mark .. => false)).length

/-- CLK_PIX cycles of 1.2 GHz since clock cycle `a`. -/
def State.pixSince (s : State) (a : Nat) : Nat := (s.cyc - a) * 48 / 5

/-- A fragment of context `c` enters the tile's queue, or waits for a place in it and stalls the context (R170). -/
def State.putFrag (s : State) (t c : Nat) (f : HFrag) : State :=
  let x := s.tile t
  let s := s.cnt (R.HEARTH_FRAGS_OUT t)
  let s := s.when (f.cut || f.trunc) (·.cnt (R.HEARTH_FRAGS_CUT t))
  if x.backlog.isEmpty && decide (x.frags < 64) then s.setTile t { s.tile t with queue := x.queue ++ [.frag f] }
  else
    let s := s.setTile t { s.tile t with backlog := x.backlog ++ [(c, .frag f)] }
    s.when (s.ctx t c).stallAt.isNone (fun s => s.setCtx t c { s.ctx t c with stallAt := some s.cyc })

/-- Does a context wait for a place in the queue? -/
def State.stalled (s : State) (t c : Nat) : Bool := (s.tile t).backlog.any (fun e => e.1 == c)

/-- The stall of a context ends, however it ends: its cycles count (R170). -/
def State.countStall (s : State) (t c : Nat) : State :=
  match (s.ctx t c).stallAt with
  | some a => (s.cntN (R.HEARTH_FRAG_STALL_CYC t) (s.pixSince a)).setCtx t c { s.ctx t c with stallAt := none }
  | none => s

/-- Items of the backlog that need no place follow into the queue, and one record takes the place that is free (R170, R205). -/
def fillQueue (q : List HItem) : List (Nat × HItem) → List HItem × List (Nat × HItem)
  | [] => (q, [])
  | (_, .mark v g k i r) :: bs => fillQueue (q ++ [.mark v g k i r]) bs
  | (_, .frag f) :: bs =>
    let ms := bs.takeWhile (fun e => match e.2 with | .mark .. => true | .frag _ => false)
    (q ++ [.frag f] ++ ms.map (·.2), bs.drop ms.length)

/-! Class rows (R171). -/

def State.classOf (s : State) (v : Nat) : List ClassRow := s.classRows.get (fun _ => []) v
def State.setClass (s : State) (v : Nat) (l : List ClassRow) : State := { s with classRows := s.classRows.set (fun _ => []) v l }

/-- A stripe has finished or dropped row `no` of a view: the oldest class row of that number that waits for it. -/
def State.classDone (s : State) (v g k i no : Nat) : State :=
  let rec go : List ClassRow → List ClassRow
    | [] => []
    | r :: rs => if r.rowNo == no && r.waiting.contains (g, k, i) then
        { r with waiting := r.waiting.filter (· != (g, k, i)) } :: rs else r :: go rs
  s.setClass v (go (s.classOf v))

/-- Every stripe of group context `k`, of `n` stripes, is through with row `no` of view `v`. -/
def State.classSkip (s : State) (v g k n no : Nat) : State := (List.range n).foldl (fun s i => s.classDone v g k i no) s

/-- No stripe of a group is waited for any more. -/
def State.classDrop (s : State) (g : Nat) (p : Nat × Nat → Bool) : State :=
  times 4 (fun v s => s.setClass v ((s.classOf v).map (fun r =>
    { r with waiting := r.waiting.filter (fun e => !(e.1 == g && p e.2)) }))) s

/-- The stripes of every CLASS_EN group context on a view. -/
def State.classStripes (s : State) (v : Nat) : List (Nat × Nat × Nat) :=
  ((List.range 16).map (fun g =>
    let x := s.group g
    if s.gState g == 0 || !x.classEn then [] else
    ((List.range 4).map (fun k => match x.k k with
      | some c => if c.view == v then (List.range (stripeCount x.stripeW c.lo c.hi)).map (fun i => (g, k, i)) else []
      | none => [])).flatten)).flatten

/-- A row leaves Drift (R149): Moraine's horizon waits for it (R205), a class row is opened where a group sends class codes (R171),
and the row is on its way to every context bound to its view, in BY_FRAME to the group (R166). -/
def State.toHearth (s : State) (v : Nat) (r : VRow) : State :=
  let l : List LeftRow := SMap.get (fun _ => []) s.leftDrift v ++ [(⟨r.rowNo, s.ns, []⟩ : LeftRow)]
  let s := { s with leftDrift := SMap.set (fun _ => []) s.leftDrift v l }
  let w := s.classStripes v
  let s := s.when (!w.isEmpty) (fun s => s.setClass v (s.classOf v ++ [(⟨r.rowNo, r.frameNo, r.lineNo, r.time, [], w⟩ : ClassRow)]))
  times 16 (fun g s =>
    let x := s.group g
    if s.gState g == 0 then s else
    times 4 (fun k s =>
      match x.k k with
      | none => s
      | some c =>
        if c.view != v then s
        else if x.byFrame then s.setGroup g { s.group g with gin := (s.group g).gin ++ [(k, r)] }
        else x.tiles.foldl (fun s t => times 4 (fun j s =>
          match (s.ctx t j).bind with
          | some (_, k', _) => if k' == k then s.setCtx t j { s.ctx t j with inq := (s.ctx t j).inq ++ [r] } else s
          | none => s) s) s) s) s

end Sys2Proof.Machine
end

