-- ==== Sys2Proof/Machine/HearthLabel.lean ====
section
/-! DEFINITION. The run and label unit of a Hearth context: runs (R193), labels (R195, R196), records (R169), cuts (R198). -/

namespace Sys2Proof.Machine

/-- Saturating addition of unsigned numbers below `2 ^ w`. -/
def satAdd (w a b : Nat) : Nat := min (2 ^ w - 1) (a + b)

/-- Feature sums add, each saturating at 32 bits. -/
def featAdd (a b : List Nat) : List Nat := (List.range 4).map (fun k => satAdd 32 (a.getD k 0) (b.getD k 0))

/-- A tag joins a pair of tags (R193, R196): a class already held adds its size, else the first free slot takes it, else it is
not counted. -/
def tagAdd (ts : List Tag) (t : Tag) : List Tag :=
  if !t.v then ts else
  match ts.findIdx? (fun u => u.v && u.cls == t.cls) with
  | some i => ts.modify i (fun u => { u with size := satAdd 16 u.size t.size })
  | none =>
    match ts.findIdx? (fun u => !u.v) with
    | some i => ts.set i { t with size := min t.size 0xffff }
    | none => ts

/-- A label's tags take those of a run or of another label in order (R196). -/
def tagsMerge (a b : List Tag) : List Tag := b.foldl tagAdd a

/-! Runs (R193). -/

/-- The open run is closed: it becomes a run of the current row. -/
def HCtx.closeRun (x : HCtx) : HCtx :=
  match x.openRun with
  | some r => { x with cur := x.cur ++ [r], openRun := none }
  | none => x

/-- A foreground column: a run opens at it or the open run extends to it, and takes its class, features and pad mark. -/
def HCtx.runColumn (x : HCtx) (j cls : Nat) (feat : List Nat) (pad : Bool) : HCtx :=
  let x := match x.openRun with
    | some r => if r.e + 1 == j then x else x.closeRun
    | none => x
  let r := match x.openRun with | some r => { r with e := j } | none => ({ s := j, e := j } : HRun)
  let r := { r with tags := if cls == 0 then r.tags else tagAdd r.tags ⟨true, cls, 1⟩
                    feat := featAdd r.feat feat, pad := r.pad || pad }
  { x with openRun := some r }

/-! Labels. -/

/-- What the label unit needs of the row at hand (R195). -/
structure RowEnv where
  id : RowId
  stripeCol : Nat
  width : Nat
  apron : Nat
  viewWidth : Nat
  flagged : Bool
  spilled : Bool
deriving DecidableEq, Repr

/-- Two labels fold into the first (R195). -/
def HLabel.fold (a b : HLabel) : HLabel :=
  { a with colMin := min a.colMin b.colMin, colMax := max a.colMax b.colMax, area := satAdd 24 a.area b.area
           tags := tagsMerge a.tags b.tags, feat := featAdd a.feat b.feat, edgeL := a.edgeL || b.edgeL
           edgeR := a.edgeR || b.edgeR, padTouch := a.padTouch || b.padTouch
           rowFlagged := a.rowFlagged || b.rowFlagged, spilled := a.spilled || b.spilled }

/-- A label takes a run of the row (R195, step 3). -/
def HLabel.take (l : HLabel) (e : RowEnv) (r : HRun) : HLabel :=
  let cs := e.stripeCol + r.s - e.apron
  let ce := e.stripeCol + r.e - e.apron
  { l with area := satAdd 24 l.area (r.e + 1 - r.s), colMin := min l.colMin cs, colMax := max l.colMax ce, last := e.id
           feat := featAdd l.feat r.feat, tags := tagsMerge l.tags r.tags
           edgeL := l.edgeL || (r.s == e.apron && decide (0 < e.stripeCol))
           edgeR := l.edgeR || (r.e + 1 == e.apron + e.width && decide (e.stripeCol + e.width < e.viewWidth))
           padTouch := l.padTouch || r.pad, rowFlagged := l.rowFlagged || e.flagged, spilled := l.spilled || e.spilled }

/-- The label unit in the middle of an LROW: labels, previous runs with their labels, current runs that have theirs, merges, and
the labels truncated so far. -/
structure Lu where
  labels : SMap HLabel
  prev : List (Nat × Nat × Nat)
  done : List (HRun × Nat) := []
  merges : Nat := 0
  trunc : List HLabel := []
deriving DecidableEq, Repr

def Lu.label (u : Lu) (i : Nat) : HLabel := match u.labels.find? (fun e => e.1 == i) with | some e => e.2 | none => {}

/-- Is label `i` older than label `j`: a lower first ROW_NO, or on a tie a lower ID (R195)? -/
def Lu.older (u : Lu) (i j : Nat) : Bool :=
  let a := (u.label i).first.row
  let b := (u.label j).first.row
  decide (a < b) || (a == b && decide (i < j))

/-- The oldest of some labels. -/
def Lu.oldest (u : Lu) : List Nat → Option Nat
  | [] => none
  | i :: is => match u.oldest is with
    | some j => some (if u.older j i then j else i)
    | none => some i

/-- Folds label `b` into label `a` (R195). -/
def Lu.merge (u : Lu) (a b : Nat) : Lu :=
  if a == b then u else
  let re (i : Nat) := if i == b then a else i
  { u with labels := (SMap.del u.labels b).ins a ((u.label a).fold (u.label b))
           prev := u.prev.map (fun p => (p.1, p.2.1, re p.2.2)), done := u.done.map (fun d => (d.1, re d.2))
           merges := u.merges + 1 }

/-- The lowest free ID. -/
def freeId (l : SMap HLabel) : Option Nat := (List.range 4096).find? (fun i => !l.any (fun e => e.1 == i))

/-- With no free ID the oldest open label that no run of the row has reached is truncated (R195). -/
def Lu.makeRoom (u : Lu) : Lu :=
  if (freeId u.labels).isSome then u else
  match u.oldest ((u.labels.filter (fun e => !e.2.closed && !u.done.any (fun d => d.2 == e.1))).map (·.1)) with
  | some i => { u with trunc := u.trunc ++ [u.label i], labels := SMap.del u.labels i
                       prev := u.prev.filter (fun p => p.2.2 != i) }
  | none => u

/-- Does a current run touch a previous one (R195, step 1)? -/
def touches (conn : Bool) (r : HRun) (p : Nat × Nat × Nat) : Bool :=
  let d := b2n conn
  decide (p.1 ≤ r.e + d) && decide (r.s ≤ p.2.1 + d)

/-- Labels one current run (R195, step 2). -/
def Lu.run (u : Lu) (conn : Bool) (e : RowEnv) (r : HRun) : Lu :=
  let ids := ((u.prev.filter (touches conn r)).map (fun p => p.2.2)).dedup
  match u.oldest ids with
  | some a =>
    let u := ids.foldl (fun u b => u.merge a b) u
    { u with done := u.done ++ [(r, a)] }
  | none =>
    let u := u.makeRoom
    match freeId u.labels with
    | some i =>
      let c := e.stripeCol + r.s - e.apron
      { u with labels := u.labels.ins i { first := e.id, last := e.id, colMin := c, colMax := c }, done := u.done ++ [(r, i)] }
    | none => u

/-- LROW (R195): the context after it, the labels that were truncated, the labels closed and the cycles it holds the context
for (R183). -/
def HCtx.lrowRun (x : HCtx) (conn : Bool) (e : RowEnv) : HCtx × List HLabel × Nat × Nat :=
  let x := x.closeRun
  let rp := x.prev.length
  let u := x.cur.foldl (fun u r => u.run conn e r) { labels := x.labels, prev := x.prev : Lu }
  let labels := u.done.foldl (fun (m : SMap HLabel) d => match m.find? (fun p => p.1 == d.2) with
    | some p => m.ins d.2 (p.2.take e d.1)
    | none => m) u.labels
  let shut (p : Nat × HLabel) : Bool := !p.2.closed && !u.done.any (fun d => d.2 == p.1)
  let n := (labels.filter shut).length
  let labels := labels.map (fun p => if shut p then (p.1, { p.2 with closed := true }) else p)
  ({ x with labels := labels, prev := u.done.map (fun d => (d.1.s, d.1.e, d.2)), cur := [], lrow := true, conn := conn
            returned := [] },
    u.trunc, n, 10 + 2 * (x.cur.length + rp) + 3 * u.merges)

/-- The record of a label (R169). -/
def State.mkFrag (s : State) (t c : Nat) (l : HLabel) (cut trunc : Bool) : HFrag :=
  match (s.ctx t c).bind with
  | none => {}
  | some (g, k, i) =>
    { view := match (s.group g).k k with | some e => e.view | none => 0
      tile := t, gctx := k, group := g, stripe := i, spilled := l.spilled, rowFlagged := l.rowFlagged
      edgeL := l.edgeL, edgeR := l.edgeR, cut := cut, trunc := trunc, padTouch := l.padTouch, first := l.first, last := l.last
      colMin := l.colMin, colMax := l.colMax, area := l.area
      span := min 0xffff ((BitVec.ofNat 32 l.last.row - BitVec.ofNat 32 l.first.row).toNat)
      tags := l.tags, feat := l.feat.map (fun f => min f 0xffff) }

/-- The 64 bytes of a fragment record (R169). -/
def HFrag.bytes (f : HFrag) : List (BitVec 8) :=
  let tag (n : Nat) : Tag := f.tags.getD n {}
  leBytes 1 (f.view + 4 * f.tile) ++ leBytes 1 (f.gctx + 4 * f.group + 64 * b2n f.spilled + 128 * b2n f.rowFlagged)
    ++ leBytes 2 (f.stripe + 2048 * b2n f.edgeL + 4096 * b2n f.edgeR + 8192 * b2n f.cut + 16384 * b2n f.trunc
      + 32768 * b2n f.padTouch)
    ++ leBytes 4 f.first.frame ++ leBytes 2 f.first.line ++ leBytes 2 f.last.line ++ leBytes 4 f.last.frame
    ++ leBytes 8 f.first.time.toNat ++ leBytes 8 f.last.time.toNat ++ leBytes 4 f.colMin ++ leBytes 4 f.colMax
    ++ leBytes 4 f.area ++ leBytes 4 f.first.row ++ leBytes 2 f.span
    ++ leBytes 1 ((tag 0).cls + 16 * (tag 1).cls) ++ leBytes 1 (b2n (tag 0).v + 2 * b2n (tag 1).v)
    ++ leBytes 2 (tag 0).size ++ leBytes 2 (tag 1).size ++ (f.feat.map (leBytes 2)).flatten

/-- A context's fragments are closed with CUT (R198). -/
def State.ctxCut (s : State) (t c : Nat) : State :=
  let x := s.ctx t c
  let opened := (x.labels.filter (fun p => !p.2.closed)).map (fun p => s.mkFrag t c p.2 true false)
  let shut := (x.labels.filter (fun p => p.2.closed)).map (fun p => s.mkFrag t c p.2 false false)
  let s := (opened ++ shut).foldl (fun s f => s.putFrag t c f) s
  s.setCtx t c { s.ctx t c with labels := [], cur := [], prev := [], openRun := none, returned := [] }

/-- What LGET reads of a label (R196); none for a field that the spec does not list. -/
def HLabel.field (l : HLabel) (f : Nat) : Option Nat :=
  let tag (n : Nat) : Tag := l.tags.getD n {}
  if f == 0 then some l.area
  else if f == 1 then some l.colMin
  else if f == 2 then some l.colMax
  else if f == 3 then some ((BitVec.ofNat 32 l.last.row - BitVec.ofNat 32 l.first.row).toNat)
  else if f == 4 then some l.first.row
  else if f == 5 then some ((tag 0).cls + 16 * (tag 1).cls + 256 * b2n (tag 0).v + 512 * b2n (tag 1).v)
  else if f == 6 then some (tag 0).size
  else if f == 7 then some (tag 1).size
  else if f ≤ 11 then some (l.feat.getD (f - 8) 0)
  else if f == 12 then some (if l.closed then 2 else 1)
  else if f == 13 then some (b2n l.edgeL + 2 * b2n l.edgeR + 4 * b2n l.padTouch + 8 * b2n l.rowFlagged + 16 * b2n l.spilled)
  else none

/-- May LSET write a field (R196)? -/
def labelWritable (f : Nat) : Bool := decide (5 ≤ f) && decide (f ≤ 11)

/-- LSET of a writable field (R196). -/
def HLabel.setField (l : HLabel) (f : Nat) (v : Word) : HLabel :=
  let n := v.toNat
  if f == 5 then { l with tags := [⟨n / 256 % 2 == 1, n % 16, (l.tags.getD 0 {}).size⟩,
                                    ⟨n / 512 % 2 == 1, n / 16 % 16, (l.tags.getD 1 {}).size⟩] }
  else if f == 6 then { l with tags := l.tags.modify 0 (fun t => { t with size := n % 0x10000 }) }
  else if f == 7 then { l with tags := l.tags.modify 1 (fun t => { t with size := n % 0x10000 }) }
  else { l with feat := l.feat.set (f - 8) n }

end Sys2Proof.Machine
end

