-- ==== Sys2Proof/Machine/Hearth.lean ====
section
/-! DEFINITION. The Hearth array: delivery of rows (R162), entries (R163), halts (R164), sharing a group by frame (R166 to R168),
tile memories (R172), swaps (R173) and APPLY (R174). -/

namespace Sys2Proof.Machine

/-! Contexts of a group. -/

/-- The group that a tile belongs to. -/
def State.tileGroup (s : State) (t : Nat) : Option Nat :=
  if s.on (R.HEARTH_TSTAT t) F.HEARTH_TSTAT_IN_GROUP then some (s.gf (R.HEARTH_TSTAT t) F.HEARTH_TSTAT_GROUP) else none

/-- The contexts of a group that are bound to a stripe. -/
def State.boundCtxs (s : State) (g : Nat) : List (Nat × Nat) :=
  ((s.group g).tiles.map (fun t => ((List.range 4).filter (fun c => (s.ctx t c).bind.isSome)).map (fun c => (t, c)))).flatten

/-- Fires GROUP on the group's lowest tile (R175). -/
def State.groupEvent (s : State) (g : Nat) : State := s.fire (418 + 4 * (s.group g).low)

/-- The rows that still stand in a context's ring are dropped (R162, R164): counted, marked, no longer waited for. -/
def State.dropHeld (s : State) (t c : Nat) : State :=
  let x := s.ctx t c
  match x.bind with
  | some (g, k, i) =>
    let v := match (s.group g).k k with | some e => e.view | none => 0
    let s := x.rows.foldl (fun (s : State) (h : HRow) =>
      (((s.cnt (R.HEARTH_ROWS_DROPPED t)).tileErr t 3).putMark t v g k i h.no).classDone v g k i h.no) s
    s.setCtx t c { s.ctx t c with rows := [], gap := x.gap || !x.rows.isEmpty }
  | none => s

/-- A context is bound to stripe `i` of group context `k` (R174, R187): registers clear, its ring is emptied. With `keep` it goes on with the
program and the CLUT bank that it has, switched or not (R167, R173). -/
def State.bindCtx (s : State) (keep : Bool) (g t c k i : Nat) : State :=
  let s := s.countStall t c
  let x := s.group g
  let old := s.ctx t c
  let kept := keep && old.bind.isSome
  let sw := s.gf (R.HEARTH_CTX_STAT t c) F.HEARTH_CTX_STAT_SWITCHED
  let bank := if kept then s.gf (R.HEARTH_CTX_STAT t c) F.HEARTH_CTX_STAT_CLUT_BANK else s.gf (R.HEARTH_GSTAT g) F.HEARTH_GSTAT_CLUT_BANK
  let s := s.setCtx t c { bind := some (g, k, i), prog := if kept then old.prog else x.prog, entry := if kept then old.entry else x.entry
                          cLast := old.cLast }
  let ring := (List.replicate x.rowSlots x.emptySlot).flatten
  let s := s.setTile t { s.tile t with ls := putBlock (s.tile t).ls (c * x.ctxBytes) ring }
  let w := 1 + 2 * k + 8 * i + 0x4000 * cxWaitFrame + 0x80000 * bank + 0x100000 * (if kept then sw else 0)
  (s.wrN (R.HEARTH_CTX_STAT t c) w).wrN (R.HEARTH_CTX_PC t c) 0

/-- A context is bound to nothing. -/
def State.unbindCtx (s : State) (t c : Nat) : State :=
  (((s.countStall t c).setCtx t c {}).wrN (R.HEARTH_CTX_STAT t c) 0).wrN (R.HEARTH_CTX_PC t c) 0

/-- Every context of a group is bound as the configuration says (R158). -/
def State.bindGroup (s : State) (keep : Bool) (g : Nat) : State :=
  let x := s.group g
  (x.tiles.zipIdx).foldl (fun s e =>
    let bs := x.tileBinds e.2
    let s := times 4 (fun c s => match bs[c]? with
      | some b => s.bindCtx keep g e.1 c b.1 b.2
      | none => s.unbindCtx e.1 c) s
    s.wrN (R.HEARTH_TSTAT e.1) (g + 16 + 32 * min 4 bs.length)) s

/-! Program and CLUT swaps (R173). -/

/-- Has a context taken all that the pending swap holds by now (R173)? -/
def State.swapTaken (s : State) (g t c : Nat) : Bool :=
  let st := R.HEARTH_GSTAT g
  let x := s.ctx t c
  s.on (R.HEARTH_CTX_STAT t c) F.HEARTH_CTX_STAT_SWITCHED
    && (!s.on st F.HEARTH_GSTAT_SWAP_PROG_P || (x.prog, x.entry) == (s.group g).next)
    && (!s.on st F.HEARTH_GSTAT_SWAP_CLUT_P
      || s.gf (R.HEARTH_CTX_STAT t c) F.HEARTH_CTX_STAT_CLUT_BANK != s.gf st F.HEARTH_GSTAT_CLUT_BANK)

/-- The swap completes once every context of the group has switched (R173). -/
def State.swapFinish (s : State) (g : Nat) : State :=
  let st := R.HEARTH_GSTAT g
  let x := s.group g
  let cs := s.boundCtxs g
  if !(s.on st F.HEARTH_GSTAT_SWAP_PENDING && x.begun && cs.all (fun e => s.swapTaken g e.1 e.2)) then s else
  let s := s.when (s.on st F.HEARTH_GSTAT_SWAP_PROG_P) (fun s =>
    let s := s.setGroup g { s.group g with prog := x.next.1, entry := x.next.2 }
    (s.wrN (R.HEARTH_PROG g) (x.next.1.1 + 0x10000 * x.next.1.2)).wrN (R.HEARTH_ENTRY g) (x.next.2.1 + 0x10000 * x.next.2.2))
  let s := s.when (s.on st F.HEARTH_GSTAT_SWAP_CLUT_P) (fun s =>
    s.sf st F.HEARTH_GSTAT_CLUT_BANK (1 - s.gf st F.HEARTH_GSTAT_CLUT_BANK))
  let s := ((s.sf st F.HEARTH_GSTAT_SWAP_PENDING 0).sf st F.HEARTH_GSTAT_SWAP_PROG_P 0).sf st F.HEARTH_GSTAT_SWAP_CLUT_P 0
  let s := cs.foldl (fun s e => s.cstatF e.1 e.2 F.HEARTH_CTX_STAT_SWITCHED 0) s
  ((s.setGroup g { s.group g with begun := false }).cnt (R.HEARTH_SWAPS g)).groupEvent g

/-! Rows into rings (R159 to R162). -/

/-- A stripe-row on its way to a slot. -/
structure RowImg where
  no : Nat
  frame : Nat
  line : Nat
  flags : Nat
  time : BitVec 64
  mask : Nat
  spilled : Bool
  cols : List (List (Nat × Nat))
deriving DecidableEq, Repr

/-- The view of a group context. -/
def GroupX.viewOf (x : GroupX) (k : Nat) : Nat := match x.k k with | some c => c.view | none => 0
/-- FRAME_ROWS of a group context. -/
def GroupX.frameRows (x : GroupX) (k : Nat) : Nat := match x.k k with | some c => c.frameRows | none => 0

/-- A stripe-row is dropped (R162): it is counted, the next row written carries ROW_GAP, and its row mark goes out (R205). -/
def State.dropRow (s : State) (t c no : Nat) : State :=
  let x := s.ctx t c
  match x.bind with
  | none => s
  | some (g, k, i) =>
    let s := s.setCtx t c { x with seq := x.seq + 1, gap := true }
    let s := (s.cnt (R.HEARTH_ROWS_DROPPED t)).tileErr t 3
    let v := (s.group g).viewOf k
    (s.putMark t v g k i no).classDone v g k i no

/-- Writes a stripe-row into its slot. -/
def State.putRow (s : State) (t c : Nat) (r : RowImg) : State :=
  let x := s.ctx t c
  match x.bind with
  | none => s
  | some (g, k, i) =>
    let gx := s.group g
    let w := gx.stripeWidth k i
    let v := gx.viewOf k
    let pads := (List.range 4).map (fun p => s.rdN (R.STITCH_PAD_VAL v p))
    let hdr : SlotHdr := ⟨r.no, r.frame, r.line, r.flags, r.time, v, r.mask,
      b2n x.gap + 4 * b2n r.spilled + 8 * b2n (r.line == 0) + 16 * b2n (r.line + 1 == gx.frameRows k), gx.stripeCol k i, w, gx.apron⟩
    let img := slotImage hdr (fillColumns gx.edge gx.slotW pads (s.view v).planes r.cols)
    let s := s.setTile t { s.tile t with ls := putBlock (s.tile t).ls (gx.slotAddr c r.no) img }
    s.setCtx t c { x with seq := x.seq + 1, gap := false, lastNo := r.no, rows := x.rows ++ [⟨x.seq + 1, r.no, r.line == 0⟩] }

/-- A stripe-row arrives at its context (R162, R174): it is dropped while the context is halted or the slot is held; a waiting
context starts at a FRAME_FIRST row. -/
def State.arrive (s : State) (t c : Nat) (r : RowImg) : State :=
  let x := s.ctx t c
  match x.bind with
  | none => s
  | some (g, k, i) =>
    let st := s.cState t c
    if st == cxHalted then s.dropRow t c r.no
    else if st == cxWaitFrame && r.line != 0 then s.classDone ((s.group g).viewOf k) g k i r.no
    else
      let s := s.when (st == cxWaitFrame) (fun s =>
        let s := s.cstatF t c F.HEARTH_CTX_STAT_STATE cxIdle
        s.when (s.gState g == 1) (fun s => (s.sf (R.HEARTH_GSTAT g) F.HEARTH_GSTAT_GSTATE 2).groupEvent g))
      if x.rows.any (fun h => decide (h.seq + (s.group g).lh + 2 ≤ x.seq + 1)) then s.dropRow t c r.no else s.putRow t c r

/-- The stripe-row of a context, from a row of its view. -/
def State.liveImg (s : State) (g k i : Nat) (r : VRow) : RowImg :=
  let x := s.group g
  ⟨r.rowNo, r.frameNo, r.lineNo, r.flags, r.time, r.mask, false,
    s.rowColumns x.edge (x.viewOf k) r ((x.stripeCol k i : Nat) - (x.apron : Int)) (x.stripeWidth k i + 2 * x.apron)⟩

/-! Ownership of a group (R166 to R168). -/

def State.held (s : State) (g k : Nat) : Nat := s.gf (R.HEARTH_GSTAT g) ⟨16 + 4 * k, 4⟩
def State.setHeld (s : State) (g k n : Nat) : State := s.sf (R.HEARTH_GSTAT g) ⟨16 + 4 * k, 4⟩ n
def State.owner (s : State) (g : Nat) : Option Nat :=
  if s.on (R.HEARTH_GSTAT g) F.HEARTH_GSTAT_OWNER_VALID then some (s.gf (R.HEARTH_GSTAT g) F.HEARTH_GSTAT_OWNER) else none
def State.setOwner (s : State) (g k : Nat) : State :=
  (s.sf (R.HEARTH_GSTAT g) F.HEARTH_GSTAT_OWNER k).sf (R.HEARTH_GSTAT g) F.HEARTH_GSTAT_OWNER_VALID 1

/-- The group's contexts are to serve group context `k` next: at once when they do, else after what they still hold (R167). -/
def State.serve (s : State) (g k : Nat) : State :=
  let x := s.group g
  let s := s.setOwner g k
  if x.bound == some k then (s.boundCtxs g).foldl (fun s e => s.setCtx e.1 e.2 { s.ctx e.1 e.2 with rp := 0 }) s
  else s.setGroup g { x with changing := some k }

/-- The oldest spilled frame is replayed (R166). -/
def State.startReplay (s : State) (g : Nat) : State :=
  let x := s.group g
  match x.spills with
  | [] => s
  | f :: _ => (s.setGroup g { x with replay := true }).serve g f.k

/-- Has every context of the group finished all it holds? A halted one holds nothing. -/
def State.drained (s : State) (g : Nat) : Bool :=
  (s.boundCtxs g).all (fun e =>
    let x := s.ctx e.1 e.2
    x.inq.isEmpty && (s.cState e.1 e.2 == cxHalted || (x.rows.isEmpty && x.inv.isNone)))

/-- Ownership passes (R167): open fragments are cut, rows that a halted context still holds are dropped, and the contexts are bound to the
stripes of the new owner; a swap under way goes on (R173). -/
def State.changeOwner (s : State) (g k : Nat) : State :=
  let s := (s.boundCtxs g).foldl (fun s e => (s.ctxCut e.1 e.2).dropHeld e.1 e.2) s
  ((s.setGroup g { s.group g with bound := some k, changing := none }).bindGroup true g).swapFinish g

/-- What is due in a group before the next row: the end of a replay (R166), a change of owner (R167). -/
def State.groupTurn (s : State) (g : Nat) : State :=
  let x := s.group g
  let s := match x.spills with
    | f :: rest =>
      if x.replay && x.changing.isNone && f.done
          && (s.boundCtxs g).all (fun e => decide (f.rows.length ≤ (s.ctx e.1 e.2).rp)) then
        let s := (s.cnt (R.HEARTH_FRAMES_REPLAYED g)).setHeld g f.k (s.held g f.k - 1)
        let s := s.setGroup g { s.group g with spills := rest, replay := false }
        if rest.isEmpty then s.sf (R.HEARTH_GSTAT g) F.HEARTH_GSTAT_OWNER_VALID 0 else s.startReplay g
      else s
    | [] => s
  match (s.group g).changing with
  | some k => if s.drained g then s.changeOwner g k else s
  | none => s

/-- A whole frame is dropped (R166). -/
def State.dropFrame (s : State) (g : Nat) : State := ((s.cnt (R.HEARTH_FRAMES_DROPPED g)).groupErr g 2).groupEvent g

/-- A frame that does not run is spilled while its area has room, else it is dropped (R166). -/
def State.spillFrame (s : State) (g k : Nat) (c : GKCfg) : State :=
  let x := s.group g
  let x := { x with spills := x.spills.map (fun (f : SpillFr) => if f.k = k then { f with done := true } else f) }
  if s.held g k < c.spillFrames then
    let i := x.spillNext.getD k 0
    let s := s.setGroup g { x with live := x.live.set k 1, spills := x.spills ++ [⟨k, i, [], false⟩]
                                   spillNext := x.spillNext.set k ((i + 1) % c.spillFrames) }
    ((s.setHeld g k (s.held g k + 1)).cnt (R.HEARTH_FRAMES_SPILLED g)).groupErr g 1
  else (s.setGroup g { x with live := x.live.set k 2 }).dropFrame g

/-- The first row of a frame decides what becomes of the frame (R166). -/
def State.frameStart (s : State) (g k : Nat) (c : GKCfg) : State :=
  let x := s.group g
  let runs (s : State) : State := s.setGroup g { s.group g with live := (s.group g).live.set k 0 }
  if x.replay then s.spillFrame g k c
  else match s.owner g with
    | none => (runs s).serve g k
    | some o =>
      if o != k then s.spillFrame g k c
      else if x.spills.isEmpty then runs s
      else (s.spillFrame g k c).startReplay g

/-- The bytes of a spilled row: the layout of R161 over the group context's columns and aprons. -/
def State.spillImage (s : State) (x : GroupX) (c : GKCfg) (r : VRow) : List (BitVec 8) :=
  let n := c.hi - c.lo + 1 + 2 * x.apron
  let hdr : SlotHdr := ⟨r.rowNo, r.frameNo, r.lineNo, r.flags, r.time, c.view, r.mask, 4 + 8 * b2n (r.lineNo == 0)
    + 16 * b2n (r.lineNo + 1 == c.frameRows), c.lo, (c.hi - c.lo + 1) % 2048, x.apron⟩
  slotImage hdr (s.rowColumns x.edge c.view r ((c.lo : Nat) - (x.apron : Int)) n)

/-- A row of a live frame goes where the frame goes. -/
def State.routeRow (s : State) (g k : Nat) (c : GKCfg) (r : VRow) : State :=
  let x := s.group g
  let mode := x.live.getD k 2
  if mode == 0 then
    (s.boundCtxs g).foldl (fun s e => s.setCtx e.1 e.2 { s.ctx e.1 e.2 with inq := (s.ctx e.1 e.2).inq ++ [r] }) s
  else if mode == 1 then
    let skip (s : State) : State := s.classSkip c.view g k (stripeCount x.stripeW c.lo c.hi) r.rowNo
    match x.spills.find? (fun f => f.k == k && !f.done) with
    | none => skip s
    | some f =>
      if decide (c.frameRows ≤ f.rows.length) then skip s else
      let rb := x.spillBytes c
      let a := c.spillBase + (f.idx * c.frameRows + f.rows.length) * rb
      let ok := s.dramOk a && s.dramOk (a + rb - 1)
      let y := if ok then s.memPut a (s.spillImage x c r) else (s.decodeErr a, true)
      let f' := { f with rows := f.rows ++ [(r.rowNo, !y.2)], done := r.lineNo + 1 == c.frameRows }
      y.1.setGroup g { x with spills := x.spills.map (fun h => if h = f then f' else h) }
  else s.classSkip c.view g k (stripeCount x.stripeW c.lo c.hi) r.rowNo

/-- The rows that have reached a BY_FRAME group are taken in order (R166); a row whose frame runs waits for a change of owner. -/
def State.groupSettle (s : State) (g : Nat) : Nat → State
  | 0 => s.groupTurn g
  | n + 1 =>
    let s := s.groupTurn g
    match (s.group g).gin with
    | [] => s
    | (k, r) :: rest =>
      match (s.group g).k k with
      | none => s.setGroup g { s.group g with gin := rest }
      | some c =>
        let s := s.when (r.lineNo == 0) (·.frameStart g k c)
        let s := s.groupTurn g
        let x := s.group g
        if x.live.getD k 2 == 0 && x.changing.isSome then s else
        let s := (s.setGroup g { x with gin := rest }).routeRow g k c r
        let s := s.when (x.live.getD k 2 == 0 && r.lineNo + 1 == c.frameRows && !x.spills.isEmpty) (·.startReplay g)
        s.groupSettle g n

/-- What is due in the group of a tile. -/
def State.settleTile (s : State) (t : Nat) : State :=
  match s.tileGroup t with
  | some g => s.when (s.group g).byFrame (fun s => s.groupSettle g ((s.group g).gin.length + 1))
  | none => s

/-- HEARTH_ROW_DELIVER (R162): the oldest row on its way to a context arrives. -/
def hearthRowDeliver (t c : Nat) (s : State) : State :=
  let s := s.settleTile t
  let x := s.ctx t c
  match x.bind, x.inq with
  | some (g, k, i), r :: rest => (s.setCtx t c { x with inq := rest }).arrive t c (s.liveImg g k i r)
  | _, _ => s

/-- The stripe of a spilled row in memory (R168). -/
def State.spilledImg (s : State) (g k i a : Nat) : RowImg :=
  let x := s.group g
  let n := match x.k k with | some c => c.hi - c.lo + 1 + 2 * x.apron | none => 0
  let half (off p j : Nat) := s.rdMem (a + off + 2 * (p * n + i * x.stripeW + j)) 2
  ⟨s.rdMem a 4, s.rdMem (a + 4) 4, s.rdMem (a + 8) 2, s.rdMem (a + 10) 2, BitVec.ofNat 64 (s.rdMem (a + 12) 8), s.rdMem (a + 21) 1,
    true, (List.range (x.stripeWidth k i + 2 * x.apron)).map (fun j =>
      (List.range 4).map (fun p => (half 64 p j, half (64 + 8 * n) p j)))⟩

/-- SPILL_REPLAY_ROW (R168): the next row of the frame under replay, once it is written and the context's slot is free. A row that memory
did not take or cannot give back counts as dropped. -/
def spillReplayRow (t c : Nat) (s : State) : State :=
  let s := s.settleTile t
  let x := s.ctx t c
  match x.bind with
  | none => s
  | some (g, k, i) =>
    let gx := s.group g
    match gx.spills, gx.k k with
    | f :: _, some cfg =>
      if !gx.replay || gx.changing.isSome || f.k != k || decide (f.rows.length ≤ x.rp) then s else
      let a := cfg.spillBase + (f.idx * cfg.frameRows + x.rp) * gx.spillBytes cfg
      let row := f.rows.getD x.rp (0, false)
      let blocked := s.cState t c != cxHalted && x.rows.any (fun h => decide (h.seq + gx.lh + 2 ≤ x.seq + 1))
      if row.2 && blocked then s else
      let y := if row.2 then s.unitRead a (gx.spillBytes cfg) else (s, true)
      let s := y.1.setCtx t c { x with rp := x.rp + 1 }
      (if y.2 then s.dropRow t c row.1 else s.arrive t c (s.spilledImg g k i a)).settleTile t
    | _, _ => s

/-! Entries (R163). -/

/-- Is the row at the head of a context's ring ready (R163, R167)? -/
def State.rowReady (s : State) (t c : Nat) : Bool :=
  let x := s.ctx t c
  match x.bind, x.rows with
  | some (g, _, _), h :: _ =>
    let gx := s.group g
    decide (h.seq + gx.lh ≤ x.seq) || (gx.changing.isSome && x.inq.isEmpty)
  | _, _ => false

/-- May a context run an invocation now? -/
def State.ctxReady (s : State) (t c : Nat) : Bool :=
  s.cState t c == cxIdle && s.rowReady t c && !s.stalled t c

/-- The context that the tile visits next, in round-robin order, while none runs (R163). -/
def State.nextCtx (s : State) (t : Nat) : Option Nat :=
  if (List.range 4).any (fun c => s.cState t c == cxRunning) then none
  else ((List.range 4).map (fun i => ((s.tile t).lastCtx + 1 + i) % 4)).find? (s.ctxReady t)

/-- An invocation begins at a word of the program in force. -/
def State.startInv (s : State) (t c pc : Nat) (row : Bool) (h : HRow) : State :=
  let s := s.setTile t { s.tile t with lastCtx := c }
  let dog := match (s.ctx t c).bind with | some (g, _, _) => s.rdN (R.HEARTH_WDOG g) | none => 0
  let s := s.setCtx t c { s.ctx t c with inv := some (row, h), pc := pc, cyc := 0, rdy := [], vres := none, after := none
                                         wdog := dog, runNext := none, lrow := false, openRun := none }
  (s.cstatF t c F.HEARTH_CTX_STAT_STATE cxRunning).wrN (R.HEARTH_CTX_PC t c) pc

/-- Does a pending swap wait for a context? -/
def State.swapDue (s : State) (g t c : Nat) : Bool :=
  s.on (R.HEARTH_GSTAT g) F.HEARTH_GSTAT_SWAP_PENDING && !s.swapTaken g t c

/-- Does a context owe an ENTRY_FRAME before the row entry of row `h` (R163, R173)? -/
def State.frameDue (s : State) (g t c : Nat) (h : HRow) : Bool := h.first && (!(s.ctx t c).frameDone || s.swapDue g t c)

/-- A context switches under a pending swap (R173), and the swap completes when every context of the group has switched. -/
def State.ctxSwitch (s : State) (g t c : Nat) : State :=
  let st := R.HEARTH_GSTAT g
  if !s.swapDue g t c then s else
  let x := s.group g
  let s := s.ctxCut t c
  let s := s.when (s.on st F.HEARTH_GSTAT_SWAP_PROG_P) (fun s =>
    s.setCtx t c { s.ctx t c with prog := x.next.1, entry := x.next.2 })
  let s := s.when (s.on st F.HEARTH_GSTAT_SWAP_CLUT_P) (fun s =>
    s.cstatF t c F.HEARTH_CTX_STAT_CLUT_BANK (1 - s.gf st F.HEARTH_GSTAT_CLUT_BANK))
  let s := (s.cstatF t c F.HEARTH_CTX_STAT_SWITCHED 1).setGroup g { s.group g with begun := true }
  let all' := ((s.boundCtxs g).filter (fun e => e.1 == t)).all (fun e => s.swapTaken g e.1 e.2)
  (s.when all' (·.fire (416 + 4 * t))).swapFinish g

/-- CTX_FRAME_ENTRY (R163, R173). -/
def ctxFrameEntry (t c : Nat) (s : State) : State :=
  let x := s.ctx t c
  match x.bind, x.rows with
  | some (g, _, i), h :: _ =>
    if s.nextCtx t != some c || !s.frameDue g t c h then s else
    let s := s.ctxSwitch g t c
    let s := s.when (i == 0) (·.cnt (R.HEARTH_FRAMES_RUN g))
    s.startInv t c (s.ctx t c).entry.1 false h
  | _, _ => s

/-- The last row of an ending frame stands in for look-ahead rows that will not come, flagged REPL (R167). -/
def State.replRows (s : State) (t c : Nat) (h : HRow) : State :=
  let x := s.ctx t c
  match x.bind with
  | none => s
  | some (g, _, _) =>
    let gx := s.group g
    times gx.lh (fun j s =>
      if decide (h.seq + j + 1 ≤ x.seq) then s else
      let m := (s.tile t).ls
      let src := gx.slotAddr c x.lastNo
      let bs := (List.range gx.slotBytes).map (fun b => lsByte m (src + b))
      let bs := bs.modify 22 (fun b => b ||| 2)
      s.setTile t { s.tile t with ls := putBlock m (gx.slotAddr c ((h.no + j + 1) % 0x100000000)) bs }) s

/-- CTX_ROW_ENTRY (R163, R167). -/
def ctxRowEntry (t c : Nat) (s : State) : State :=
  let s := s.settleTile t
  let x := s.ctx t c
  match x.bind, x.rows with
  | some (g, _, _), h :: _ =>
    if s.nextCtx t != some c || s.frameDue g t c h then s else
    (s.replRows t c h).startInv t c x.entry.2 true h
  | _, _ => s

/-- The row entry of a context's oldest row has ended (R163, R165, R205): its cycles are counted with those of the rows that the tile's other
contexts ended within one row period, its row mark follows its fragments, and its class codes are complete. -/
def State.rowDone (s : State) (t c : Nat) (h : HRow) (cycles : Nat) : State :=
  let x := s.ctx t c
  match x.bind with
  | none => s
  | some (g, k, i) =>
    let v := (s.group g).viewOf k
    let s := s.setCtx t c { x with rows := x.rows.drop 1, frameDone := false, inv := none, cLast := some (x.cRow + cycles, s.cyc), cRow := 0 }
    let s := (s.wrN (R.HEARTH_CTX_ROW t c) h.no).cnt (R.HEARTH_ROWS_RUN t)
    let held := (List.range 4).filter (fun j => (s.ctx t j).bind.isSome)
    let ran := held.filterMap (fun j => match (s.ctx t j).cLast with
      | some (n, a) => if 8 * (s.cyc - a) < (s.view v).period then some n else none
      | none => none)
    let sum := (ran.map (fun n => n + (if held.length = 1 then 0 else 8))).foldl (· + ·) 0
    let s := s.when (decide (s.rdN (R.HEARTH_ROW_CYC_MAX t) < sum)) (·.wrN (R.HEARTH_ROW_CYC_MAX t) (min sum 0xffffff))
    ((s.putMark t v g k i h.no).classDone v g k i h.no).settleTile t

/-! Halts (R164, R199). -/

/-- A context halts with a FAULT code. -/
def State.ctxHaltWith (s : State) (t c code : Nat) : State :=
  let s := (s.countStall t c).ctxCut t c
  let s := s.setCtx t c { s.ctx t c with vres := none, after := none, haltReq := false, dogReq := false }
  let s := s.cstatF t c F.HEARTH_CTX_STAT_STATE cxHalted
  let s := s.cstatF t c F.HEARTH_CTX_STAT_FAULT code
  let s := (s.wrN (R.HEARTH_CTX_PC t c) ((s.ctx t c).pc % 2048)).cnt (R.HEARTH_CTX_FAULTS t)
  let s := s.when (code != 5) (·.tileErr t 0)
  s.fire (417 + 4 * t)

/-- The cycles of the invocation so far, a stall in progress included (R182). -/
def State.invCycles (s : State) (t c : Nat) : Nat :=
  let x := s.ctx t c
  match x.after, x.stallAt with
  | some _, some a => x.cyc + s.pixSince a
  | _, _ => x.cyc

/-- WDOG_EXPIRY (R164): the invocation has taken more than WDOG cycles, as WDOG stood when it began (R177). A halt comes before either slot
of a word (R199): while a word is under way, its slots not both issued or its fragments waiting for a place, the halt waits for the next one
(DESIGN CHOICE, log entry 35). -/
def wdogExpiry (t c : Nat) (s : State) : State :=
  let x := s.ctx t c
  if !(s.cState t c == cxRunning && x.wdog != 0 && decide (x.wdog < s.invCycles t c)) then s
  else if x.vres.isSome || x.after.isSome then s.setCtx t c { x with dogReq := true }
  else s.ctxHaltWith t c 4

/-- CTX_CMD.RESUME (R164): the context waits for the next FRAME_FIRST row; the rows that still stand in its ring are dropped. -/
def ctxResume (t c : Nat) (s : State) : State :=
  if s.cState t c != cxHalted then s else
  let s := s.dropHeld t c
  let s := s.setCtx t c { s.ctx t c with inv := none, frameDone := false, cRow := 0 }
  (s.cstatF t c F.HEARTH_CTX_STAT_STATE cxWaitFrame).cstatF t c F.HEARTH_CTX_STAT_FAULT 0

/-- CTX_CMD.CONTINUE (R164): only after code 5; a program counter past the program halts the context again with code 3. -/
def ctxContinue (t c : Nat) (s : State) : State :=
  if s.cState t c == cxHalted && s.gf (R.HEARTH_CTX_STAT t c) F.HEARTH_CTX_STAT_FAULT == 5 then
    if (s.ctx t c).inv.isSome && decide ((s.ctx t c).prog.2 ≤ (s.ctx t c).pc) then s.ctxHaltWith t c 3 else
    (s.cstatF t c F.HEARTH_CTX_STAT_STATE (if (s.ctx t c).inv.isSome then cxRunning else cxIdle)).cstatF t c
      F.HEARTH_CTX_STAT_FAULT 0
  else s

/-- CTX_CMD.HALT (R164, R199): a running context halts with code 5 once both slots of the word in issue have taken effect. -/
def ctxHalt (t c : Nat) (s : State) : State :=
  if s.cState t c != cxRunning then s else
  let x := s.ctx t c
  if x.vres.isSome || x.after.isSome then s.setCtx t c { x with haltReq := true } else s.ctxHaltWith t c 5

/-! The configuration of a group (R157, R158, R174). -/

/-- The tiles that TILES_LO and TILES_HI name, ascending. -/
def State.groupTiles (s : State) (g : Nat) : List Nat :=
  let m := s.rd64N (R.HEARTH_TILES_LO g) (R.HEARTH_TILES_HI g)
  (List.range 64).filter (fun t => m / 2 ^ t % 2 == 1)

/-- Base and length, or the two entries, of a program register. -/
def progPair (w : Word) : Nat × Nat := ((⟨0, 11⟩ : Fld).get w, (⟨16, 12⟩ : Fld).get w)

/-- The configuration that the registers hold. -/
def State.groupRegs (s : State) (g : Nat) : GroupX :=
  let l := s.rd (R.HEARTH_LAYOUT g)
  let r := s.rd (R.HEARTH_RING g)
  { tiles := s.groupTiles g, stripeW := F.HEARTH_LAYOUT_STRIPE_W.get l, apron := F.HEARTH_LAYOUT_APRON.get l
    edge := F.HEARTH_LAYOUT_EDGE_MODE.get l, rowSlots := F.HEARTH_RING_ROW_SLOTS.get r, lh := F.HEARTH_RING_L_H.get r
    scratch := F.HEARTH_RING_SCRATCH.get r, byFrame := s.on (R.HEARTH_GCTL g) F.HEARTH_GCTL_MODE
    classEn := s.on (R.HEARTH_GCTL g) F.HEARTH_GCTL_CLASS_EN
    prog := progPair (s.rd (R.HEARTH_PROG g)), entry := progPair (s.rd (R.HEARTH_ENTRY g))
    ks := (List.range 4).map (fun k =>
      let w := s.rd (R.HEARTH_CTX_CTL g k)
      let v := F.HEARTH_CTX_CTL_VIEW.get w
      if F.HEARTH_CTX_CTL_EN.get w == 0 then none else
      some ⟨v, s.rdN (R.HEARTH_COL_LO g k), s.rdN (R.HEARTH_COL_HI g k), F.HEARTH_CTX_CTL_SPILL_FRAMES.get w,
        s.rd64N (R.HEARTH_SPILL_BASE_LO g k) (R.HEARTH_SPILL_BASE_HI g k), (s.fe (s.view v).anchor).cfg.frameLines⟩) }

/-- The checks of R173 on a program and its entries. -/
def progOk (p e : Nat × Nat) : Bool :=
  decide (1 ≤ p.2) && decide (p.1 + p.2 ≤ 2048) && decide (e.1 < p.2) && decide (e.2 < p.2)

/-- Do two program ranges overlap? -/
def progOverlap (p q : Nat × Nat) : Bool := decide (p.1 < q.1 + q.2) && decide (q.1 < p.1 + p.2)

/-- Do the column ranges of two group contexts overlap? -/
def colsOverlap (a b : GKCfg) : Bool := a.view == b.view && decide (a.lo ≤ b.hi) && decide (b.lo ≤ a.hi)

/-- Do no two group contexts overlap? -/
def colsApart : List GKCfg → Bool
  | [] => true
  | c :: cs => cs.all (fun d => !colsOverlap c d) && colsApart cs

/-- The conditions of R174 on a group. -/
def State.groupOk (s : State) (g : Nat) (x : GroupX) (en : Bool) : Bool :=
  let others := (List.range 16).filter (fun h => h != g && s.gState h != 0)
  let mine := x.ks.filterMap id
  let per (u : Nat) : Nat := if x.byFrame then
      ((List.range 4).map (fun k => (x.tileStripes u k).length)).foldl max 0
    else ((List.range 4).map (fun k => (x.tileStripes u k).length)).foldl (· + ·) 0
  let tiles := List.range x.tiles.length
  decide (64 ≤ x.stripeW) && decide (x.stripeW ≤ 1024) && x.stripeW % 32 == 0 && decide (x.apron ≤ 32)
    && (!en || !x.tiles.isEmpty)
    && (!en || others.all (fun h => (s.group h).tiles.all (fun t => !x.tiles.contains t)))
    && mine.all (fun c => s.vState c.view != 0 && decide (c.lo ≤ c.hi) && decide (c.hi < (s.view c.view).width))
    && colsApart mine
    && (!en || others.all (fun h => ((s.group h).ks.filterMap id).all (fun d => mine.all (fun c => !colsOverlap c d))))
    && decide (2 ≤ x.rowSlots) && decide (x.rowSlots ≤ 64) && decide (x.lh + 2 ≤ x.rowSlots)
    && tiles.all (fun u => decide (per u ≤ 4) && decide (per u * x.ctxBytes ≤ 393216))
    && progOk x.prog x.entry
    && (!x.byFrame || (List.range 4).all (fun k => match x.k k with
        | some c => c.spillFrames == 0 || decide (c.spillFrames * c.frameRows * x.spillBytes c ≤ s.rdN (R.HEARTH_SPILL_SIZE g k))
        | none => true))

/-- GCMD.APPLY (R174). -/
def groupApply (g : Nat) (s : State) : State :=
  let x := s.groupRegs g
  let en := s.on (R.HEARTH_GCTL g) F.HEARTH_GCTL_EN
  if !s.groupOk g x en then s.groupErr g 0 else
  let old := s.group g
  let bank := s.gf (R.HEARTH_GSTAT g) F.HEARTH_GSTAT_CLUT_BANK
  let s := (s.boundCtxs g).foldl (fun s e => s.ctxCut e.1 e.2) s
  let s := (s.classDrop g (fun _ => true)).cntN (R.HEARTH_FRAMES_DROPPED g) old.spills.length
  let s := s.when (s.gState g != 0) (fun s => old.tiles.foldl (fun s t =>
    let s := times 4 (fun c s => s.unbindCtx t c) s
    (s.setTile t { s.tile t with bank := bank }).wrN (R.HEARTH_TSTAT t) 0) s)
  let s := s.setGroup g x
  let s := s.wrN (R.HEARTH_GSTAT g) (b2n en + 32 * bank)
  let s := s.when en (·.bindGroup false g)
  s.groupEvent g

/-- GCMD.SWAP_PROG (R173). -/
def swapProg (g : Nat) (s : State) : State :=
  let p := progPair (s.rd (R.HEARTH_PROG_NEXT g))
  let e := progPair (s.rd (R.HEARTH_ENTRY_NEXT g))
  let x := s.group g
  if !progOk p e || progOverlap p x.prog then s.groupErr g 3 else
  let s := s.setGroup g { x with next := (p, e) }
  (s.sf (R.HEARTH_GSTAT g) F.HEARTH_GSTAT_SWAP_PENDING 1).sf (R.HEARTH_GSTAT g) F.HEARTH_GSTAT_SWAP_PROG_P 1

/-- GCMD.SWAP_CLUT (R173). -/
def swapClut (g : Nat) (s : State) : State :=
  (s.sf (R.HEARTH_GSTAT g) F.HEARTH_GSTAT_SWAP_PENDING 1).sf (R.HEARTH_GSTAT g) F.HEARTH_GSTAT_SWAP_CLUT_P 1

/-- GCMD.CANCEL_SWAP (R173): no effect once a context has switched. -/
def groupCancelSwap (g : Nat) (s : State) : State :=
  if (s.group g).begun then s else
  ((s.sf (R.HEARTH_GSTAT g) F.HEARTH_GSTAT_SWAP_PENDING 0).sf (R.HEARTH_GSTAT g) F.HEARTH_GSTAT_SWAP_PROG_P 0).sf
    (R.HEARTH_GSTAT g) F.HEARTH_GSTAT_SWAP_CLUT_P 0

/-- A write of ROW_CYC_MAX (R165): the rows observed so far no longer count. -/
def rowCycWrite (t : Nat) (v : Word) (s : State) : State :=
  times 4 (fun c s => s.setCtx t c { s.ctx t c with cLast := none }) (s.wr (R.HEARTH_ROW_CYC_MAX t) (v &&& 0xffffff))

/-! Class rows (R171). -/

/-- CLASS_ROW_RELEASE (R171): the oldest class row of a view that no stripe works on any more goes to stream-out as KIND 3. -/
def classRowRelease (v : Nat) (s : State) : State :=
  match s.classOf v with
  | [] => s
  | r :: rest =>
    if !r.waiting.isEmpty then s else
    let s := s.setClass v rest
    let w := (s.view v).width
    let prev := s.classPrev.get (fun _ => (0, 0)) v
    let first := r.lineNo == 0 || prev.2 == 0
    let s := s.when (first && prev.2 != 0) (fun s => s.streamOut 3 v ⟨0x01, 0, 0, leBytes 4 prev.1 ++ leBytes 2 prev.2 ++ leBytes 6 0⟩)
    let s := s.when first (fun s => s.streamOut 3 v ⟨0x00, 0, 0, leBytes 4 r.frameNo
      ++ leBytes 2 (s.fe (s.view v).anchor).cfg.frameLines ++ leBytes 2 0 ++ leBytes 4 w⟩)
    let s := { s with classPrev := s.classPrev.set (fun _ => (0, 0)) v (r.frameNo, if first then 1 else prev.2 + 1) }
    let s := s.streamOut 3 v ⟨0x02, 0, 0, leBytes 4 r.frameNo ++ leBytes 2 r.lineNo ++ leBytes 6 0 ++ leBytes 8 r.time.toNat⟩
    let s := s.streamOut 3 v ⟨0x19, 0, 1, pixelPayload 4 0 ((List.range w).map (r.codes.get (fun _ => 0)))⟩
    s.streamOut 3 v ⟨0x03, 0, 0, leBytes 4 r.frameNo ++ leBytes 2 r.lineNo ++ leBytes 2 0 ++ leBytes 4 w⟩

/-! Tile memories (R172). -/

/-- The tiles that a write to a window of tile `t` reaches. -/
def State.windowTiles (s : State) (t : Nat) (bc : Bool) : List Nat :=
  if !bc then [t] else match s.tileGroup t with | some g => (s.group g).tiles | none => [t]

/-- Is IMEM word `w` of a tile protected (R172)? -/
def State.imemLive (s : State) (t w : Nat) : Bool :=
  match s.tileGroup t with
  | none => false
  | some g =>
    let x := s.group g
    let holds (p : Nat × Nat) : Bool := decide (p.1 ≤ w) && decide (w < p.1 + p.2)
    holds x.prog || (s.on (R.HEARTH_GSTAT g) F.HEARTH_GSTAT_SWAP_PROG_P && holds x.next.1)

/-- Bytes at byte offset `off` of a memory kept as 32-bit words, little-endian. -/
def putWords (m : SMap Word) (off : Nat) (bs : List (BitVec 8)) : SMap Word :=
  bs.zipIdx.foldl (fun m e =>
    let k := off + e.2
    SMap.set (fun _ => 0) m (k / 4) ((⟨8 * (k % 4), 8⟩ : Fld).put (SMap.get (fun _ => 0) m (k / 4)) e.1.toNat)) m

/-- One byte of such a memory. -/
def wordByte (m : SMap Word) (off : Nat) : BitVec 8 :=
  BitVec.ofNat 8 ((⟨8 * (off % 4), 8⟩ : Fld).get (SMap.get (fun _ => 0) m (off / 4)))

/-- Bytes within one IMEM word, at byte offset `off`, into the tiles that a window reaches (R172). -/
def imemPut (t : Nat) (bc : Bool) (off : Nat) (bs : List (BitVec 8)) (s : State) : State :=
  (s.windowTiles t bc).foldl (fun s u =>
    if s.imemLive u (off / 8) then s.tileErr u 1
    else s.setTile u { s.tile u with imem := putWords (s.tile u).imem off bs }) s

/-- IMEM_WRITE (R172): 32 bits at half word `i`, low half first. -/
def imemWrite (t : Nat) (bc : Bool) (i : Nat) (w : Word) (s : State) : State := imemPut t bc (4 * i) (leBytes 4 w.toNat) s

/-- The CLUT bank in force in a tile (R154, R172). -/
def State.tileBank (s : State) (t : Nat) : Nat :=
  match s.tileGroup t with
  | some g => s.gf (R.HEARTH_GSTAT g) F.HEARTH_GSTAT_CLUT_BANK
  | none => (s.tile t).bank

/-- Bytes into the CLUT bank not in force (R172); ignored while a CLUT swap is pending. -/
def clutPut (t : Nat) (bc : Bool) (off : Nat) (bs : List (BitVec 8)) (s : State) : State :=
  (s.windowTiles t bc).foldl (fun s u =>
    let busy := match s.tileGroup u with
      | some g => s.on (R.HEARTH_GSTAT g) F.HEARTH_GSTAT_SWAP_CLUT_P
      | none => false
    if busy then s.tileErr u 2
    else s.setTile u { s.tile u with clut := putBlock (s.tile u).clut ((1 - s.tileBank u) * 65536 + off) bs }) s

/-- CLUT_WRITE (R172): four entries of the bank not in force. -/
def clutWrite (t : Nat) (bc : Bool) (i : Nat) (w : Word) (s : State) : State := clutPut t bc (4 * i) (leBytes 4 w.toNat) s

/-- Bytes into the line store (R172): taken only while the tile's group is OFF. -/
def linePut (t off : Nat) (bs : List (BitVec 8)) (s : State) : State :=
  match s.tileGroup t with
  | some _ => s
  | none => s.setTile t { s.tile t with ls := putBlock (s.tile t).ls off bs }

/-- LINE_STORE_WRITE (R172). -/
def lineStoreWrite (t i : Nat) (w : Word) (s : State) : State := linePut t (4 * i) (leBytes 4 w.toNat) s

end Sys2Proof.Machine
end

