-- ==== Sys2Proof/Machine/Moraine.lean ====
section
/-! DEFINITION. Moraine: the object table (R202, R203), horizons (R205), fragments and joins (R206 to R209), fusing (R210 to R213),
retirement (R224, R225), configuration (R228, R229), and the check blocks of the twin (R408). -/

namespace Sys2Proof.Machine

/-- Moraine's error register in the error record; it fires FAULT (R230). -/
def siteMv : Site := ⟨18, 0, 0, 677⟩
def State.mvErr (s : State) (b : Nat) : State := s.raise R.MORAINE_MERR b siteMv

/-- A Moraine register as it is in force (R229). -/
def State.mv (s : State) (a : Nat) : Word := s.mvCfg.get resetWord a
def State.mvF (s : State) (a : Nat) (f : Fld) : Nat := f.get (s.mv a)
def State.mvI (s : State) (a : Nat) : Int := (s.mv a).toInt
def State.mvN (s : State) (a : Nat) : Nat := (s.mv a).toNat
def State.joinRows (s : State) (v : Nat) : Nat := s.mvF (R.MVIEW_VCTL v) F.MVIEW_VCTL_JOIN_ROWS

/-! Entries (R202, R203). -/

def State.obj (s : State) (e : Nat) : Obj := s.objs.get (fun _ => {}) e
def Obj.objId (o : Obj) (e : Nat) : Nat := e + 0x10000 * o.gen

/-- The states of an entry. -/
def obFree : Nat := 0
def obOpen : Nat := 1
def obWait : Nat := 2
def obDecided : Nat := 3

/-- OBJ_USED, OBJ_PEAK and NO_FREE follow the table (R225). -/
def State.objCount (s : State) : State :=
  let n := (s.objs.filter (fun e => e.2.state != obFree)).length
  let s := s.wrN R.MORAINE_OBJ_USED n
  let s := s.when (decide (s.rdN R.MORAINE_OBJ_PEAK < n)) (·.wrN R.MORAINE_OBJ_PEAK n)
  s.sf R.MORAINE_MSTAT F.MORAINE_MSTAT_NO_FREE (b2n (decide (65536 ≤ n)))

def State.setObj (s : State) (e : Nat) (o : Obj) : State := { s with objs := s.objs.set (fun _ => {}) e o }

/-- An entry becomes FREE. -/
def State.freeObj (s : State) (e : Nat) : State :=
  ((s.setObj e { s.obj e with state := obFree, kept := [], deciding := false })).objCount

/-- The side that an object is on while it has one (R202), and the side used of a decided object (R217). -/
def Obj.side (o : Obj) : OSide := match o.a with | some x => x | none => o.b.getD {}
def Obj.isB (o : Obj) : Bool := o.a.isNone
/-- The object with the side that `side` gives replaced. -/
def Obj.setSide (o : Obj) (x : OSide) : Obj := if o.isB then { o with b := some x } else { o with a := some x }

/-- The centre column of a box. -/
def OSide.centre (x : OSide) : Nat := (x.colMin + x.colMax) / 2

/-- The entries with a property, ascending. -/
def State.entries (s : State) (p : Obj → Bool) : List Nat := (s.objs.filter (fun e => p e.2)).map (·.1)

/-- The lowest free entry (R202). -/
def lowestFree : SMap Obj → Nat → Option Nat
  | [], n => if n < 65536 then some n else none
  | (k, o) :: m, n => if n < k then some n else if o.state == obFree then some k else lowestFree m (k + 1)

/-- When a decided entry retires (R224). -/
def Obj.retireAt (o : Obj) : Int := o.eject.toInt + (o.pulse * 1000 : Nat)

/-- A 64-bit time earlier than another. -/
def before (a b : BitVec 64) : Bool := decide (a.toInt < b.toInt)

/-- The later of two times. -/
def later (a b : BitVec 64) : BitVec 64 := if before a b then b else a

/-! Tags (R208, R213). -/

/-- A tag joins a slot list under R208: same class and side adds sizes and keeps the earlier row, else the lowest free slot takes
it, else it is lost. -/
def otagAdd (ts : List OTag) (t : OTag) : List OTag × Bool :=
  if !t.v then (ts, false) else
  match ts.findIdx? (fun u => u.v && u.cls == t.cls && u.sideB == t.sideB) with
  | some i => (ts.modify i (fun u =>
      let z := satAdd 16 u.size t.size
      if before t.time u.time then { u with size := z, fe := t.fe, frame := t.frame, line := t.line, time := t.time }
      else { u with size := z }), false)
  | none =>
    match ts.findIdx? (fun u => !u.v) with
    | some i => (ts.set i { t with size := min t.size 0xffff }, false)
    | none => (ts, true)

/-- A tag joins under R213: a class already held keeps the larger size and the earlier row with its FE and side. -/
def otagFuse (ts : List OTag) (t : OTag) : List OTag × Bool :=
  if !t.v then (ts, false) else
  match ts.findIdx? (fun u => u.v && u.cls == t.cls) with
  | some i => (ts.modify i (fun u =>
      let r := if before t.time u.time then t else u
      { r with size := max u.size t.size }), false)
  | none =>
    match ts.findIdx? (fun u => !u.v) with
    | some i => (ts.set i t, false)
    | none => (ts, true)

/-- An object takes tags one by one; each lost one is counted. -/
def State.takeTags (s : State) (add : List OTag → OTag → List OTag × Bool) (o : Obj) (ts : List OTag) : State × Obj :=
  ts.foldl (fun p t =>
    let r := add p.2.tags t
    if r.2 then ((p.1.cnt R.MORAINE_TAGS_LOST).mvErr 4, { p.2 with tagLost := true })
    else (p.1, { p.2 with tags := r.1 })) (s, o)

/-- The front end that a view's port map gives for a column (R208): entry ranges follow each other. -/
def State.portOf (s : State) (v col : Nat) : Nat :=
  let r := (List.range 8).foldl (fun (acc : Nat × Option Nat) i =>
    let w := s.mv (R.MVIEW_PORT_MAP v i)
    if (⟨31, 1⟩ : Fld).get w == 0 then acc else
    let stop := (⟨0, 18⟩ : Fld).get w
    if acc.2.isNone && decide (acc.1 ≤ col) && decide (col ≤ stop) then (stop + 1, some ((⟨24, 5⟩ : Fld).get w))
    else (stop + 1, acc.2)) (0, none)
  r.2.getD 31

/-- The tags of a fragment as tags of an object. -/
def State.fragTags (s : State) (f : HFrag) (b : Bool) : List OTag :=
  let fe := s.portOf f.view ((f.colMin + f.colMax) / 2)
  f.tags.map (fun t => ⟨t.v, t.cls, b, fe, t.size, f.first.frame, f.first.line, f.first.time⟩)

/-! Joins (R206, R207). -/

def fragLast (f : HFrag) : Nat := (f.first.row + f.span) % 0x100000000

/-- Is a fragment kept for later joins (R206)? -/
def isEdge (f : HFrag) : Bool := f.edgeL || f.edgeR || f.cut || f.trunc

/-- Do the row ranges, each widened by `j` at both ends, overlap? -/
def rowsMeet (j : Nat) (f g : HFrag) : Bool :=
  decide (fdiff f.first.row (fragLast g) ≤ 2 * j) && decide (fdiff g.first.row (fragLast f) ≤ 2 * j)

/-- The edge rule. -/
def edgeRule (j : Nat) (f g : HFrag) : Bool :=
  ((f.edgeR && g.edgeL && g.colMin == f.colMax + 1) || (g.edgeR && f.edgeL && f.colMin == g.colMax + 1)) && rowsMeet j f g

/-- The cut rule with `g` the earlier fragment. -/
def cutAfter (j : Nat) (g f : HFrag) : Bool :=
  (g.cut || g.trunc) && decide (0 ≤ fdiff f.first.row g.first.row) && decide (fdiff f.first.row (fragLast g) ≤ 1 + j)

/-- The cut rule. -/
def cutRule (j : Nat) (f g : HFrag) : Bool :=
  f.tile == g.tile && f.group == g.group && f.gctx == g.gctx && f.stripe == g.stripe
    && decide (f.colMin ≤ g.colMax) && decide (g.colMin ≤ f.colMax) && (cutAfter j g f || cutAfter j f g)

/-- Does fragment `f` meet a fragment kept for an entry? -/
def Obj.meets (o : Obj) (j : Nat) (f : HFrag) : Bool := o.kept.any (fun g => edgeRule j f g || cutRule j f g)

/-- The first-row triple takes an earlier row. -/
def Obj.firstRow (o : Obj) (frame line : Nat) (t : BitVec 64) : Obj :=
  if before t o.time then { o with frame := frame, line := line, time := t } else o

/-- A fragment joins an entry (R207), tags apart. -/
def Obj.takeFrag (o : Obj) (f : HFrag) : Obj :=
  let x := o.side
  let x := { x with colMin := min x.colMin f.colMin, colMax := max x.colMax f.colMax, area := satAdd 24 x.area f.area
                    last := later x.last f.last.time }
  let o := (o.setSide x).firstRow f.first.frame f.first.line f.first.time
  let row := if 0 < fdiff (fragLast f) o.lastRow then fragLast f else o.lastRow
  { o with feat := featAdd o.feat f.feat, frags := satAdd 16 o.frags 1, lastRow := row, cut := o.cut || f.cut || f.trunc
           rowFlagged := o.rowFlagged || f.rowFlagged, spilled := o.spilled || f.spilled, padTouch := o.padTouch || f.padTouch }

/-- The surviving entry takes the other's side (R207), tags apart. -/
def Obj.takeObj (o p : Obj) : Obj :=
  let x := o.side
  let y := p.side
  let x := { x with colMin := min x.colMin y.colMin, colMax := max x.colMax y.colMax, area := satAdd 24 x.area y.area
                    last := later x.last y.last }
  let o := (o.setSide x).firstRow p.frame p.line p.time
  let row := if 0 < fdiff p.lastRow o.lastRow then p.lastRow else o.lastRow
  { o with feat := featAdd o.feat p.feat, frags := satAdd 16 o.frags p.frags, lastRow := row, cut := o.cut || p.cut
           rowFlagged := o.rowFlagged || p.rowFlagged, spilled := o.spilled || p.spilled
           padTouch := o.padTouch || p.padTouch, late := o.late || p.late, tagLost := o.tagLost || p.tagLost
           kept := o.kept ++ p.kept }

/-- Entry `e` survives and takes entry `f` (R207). -/
def State.mergeObjs (s : State) (e f : Nat) : State :=
  let p := s.obj f
  let r := s.takeTags otagAdd ((s.obj e).takeObj p) p.tags
  (r.1.setObj e r.2).freeObj f

/-- The entry with the earlier FIRST_LINE_TIME, or on a tie the lower one. -/
def State.eldest (s : State) : List Nat → Option Nat
  | [] => none
  | e :: es => match s.eldest es with
    | none => some e
    | some f => some (if before (s.obj f).time (s.obj e).time || ((s.obj f).time == (s.obj e).time && decide (f < e)) then f else e)

/-- How many fragments the store of joins holds (R206). -/
def State.keptCount (s : State) : Nat := (s.objs.map (fun e => e.2.kept.length)).foldl (· + ·) 0

/-- A fragment is kept for later joins, unless the store is full (R206). -/
def State.keepFrag (s : State) (e : Nat) (f : HFrag) : State :=
  if !isEdge f then s
  else if decide (32768 ≤ s.keptCount) then (s.cnt R.MORAINE_EDGE_FULL).mvErr 5
  else s.setObj e { s.obj e with kept := (s.obj e).kept ++ [f] }

/-! Closing and fusing (R209 to R213). -/

/-- An entry goes to decision (R226). -/
def State.toDecide (s : State) (e : Nat) : State :=
  { s.setObj e { s.obj e with kept := [], deciding := true } with decideQ := s.decideQ ++ [e] }

/-- The view whose X, T and FUSE_WAIT values apply to a side: the one of side A (R210, R212). -/
def State.viewA (s : State) (o : Obj) : Nat :=
  if o.isB then s.mvF (R.MVIEW_VCTL o.side.view) F.MVIEW_VCTL_PARTNER else o.side.view

/-- |cb − pred| and the distance in time of two sides, A then B, and whether they match (R210). -/
def State.pairMatch (s : State) (a b : Obj) : Int × Int × Bool :=
  let v := a.side.view
  let pred : Int := ((a.side.centre : Int) * s.mvI (R.MVIEW_X_SCALE v)) / 65536 + s.mvI (R.MVIEW_X_OFFS v)
  let dx : Int := (((b.side.centre : Int) - pred).natAbs : Nat)
  let dt : Int := ((b.time.toInt - a.time.toInt - s.mvI (R.MVIEW_T_OFFS v)).natAbs : Nat)
  (dx, dt, decide (dx ≤ s.mvN (R.MVIEW_X_TOL v)) && decide (dt ≤ s.mvN (R.MVIEW_T_TOL v)))

/-- Two matching sides become one object in the entry of side A (R211, R213). -/
def State.fuse (s : State) (ea eb : Nat) : State :=
  let a := s.obj ea
  let b := s.obj eb
  let r := s.takeTags otagFuse a b.tags
  let o := { r.2 with
    b := b.b, fused := true, feat := featAdd a.feat b.feat, frags := satAdd 16 a.frags b.frags, late := a.late || b.late
    cut := a.cut || b.cut, rowFlagged := a.rowFlagged || b.rowFlagged, spilled := a.spilled || b.spilled
    padTouch := a.padTouch || b.padTouch, tagLost := r.2.tagLost || b.tagLost }
  (((r.1.setObj ea o).freeObj eb).cnt R.MORAINE_OBJ_FUSED).toDecide ea

/-- The better of two fusion candidates: nearest in columns, then in time, then the lower entry (R211). -/
def bestPair : List (Int × Int × Nat) → Option (Int × Int × Nat)
  | [] => none
  | c :: cs => match bestPair cs with
    | none => some c
    | some d => some (if decide (c.1 < d.1) || (c.1 == d.1 && (decide (c.2.1 < d.2.1) || (c.2.1 == d.2.1 && decide (c.2.2 ≤ d.2.2))))
        then c else d)

/-- A side closes (R209): in a view with FUSE_EN it looks for its partner among the sides in WAIT, else it goes to decision. -/
def State.closeSide (s : State) (e : Nat) (direct : Bool) : State :=
  let o := s.obj e
  let v := o.side.view
  let s := s.setObj e { o with kept := [], state := obWait }
  if direct || s.mvF (R.MVIEW_VCTL v) F.MVIEW_VCTL_FUSE_EN == 0 then s.toDecide e else
  let p := s.mvF (R.MVIEW_VCTL v) F.MVIEW_VCTL_PARTNER
  let cands := (s.entries (fun q => q.state == obWait && !q.deciding && q.side.view == p)).filterMap (fun f =>
    let q := s.obj f
    let m := if o.isB then s.pairMatch q o else s.pairMatch o q
    if f != e && q.isB != o.isB && m.2.2 then some (m.1, m.2.1, f) else none)
  match bestPair cands with
  | some (_, _, f) => if o.isB then s.fuse f e else s.fuse e f
  | none => s

/-- The sides of a view that the horizon has passed close (R209). -/
def State.closeDue (s : State) (v q : Nat) : State :=
  (s.entries (fun o => o.state == obOpen && o.side.view == v && decide (0 ≤ fdiff q (o.lastRow + 1 + s.joinRows v)))).foldl
    (fun s e => if (s.obj e).state == obOpen then s.closeSide e false else s) s

/-- Check blocks that the horizon has passed by 1,024 rows close (R408). -/
def State.closeBlocks (s : State) (v q : Nat) : State :=
  { s with checkBlks := s.checkBlks.map (fun b =>
      if b.view == v && b.closed.isNone && decide (1024 ≤ fdiff q b.lastRow) then { b with closed := some s.ns } else b) }

/-- A check block differs from the partner's, or closed on one device only (R408). -/
def State.mismatch (s : State) : State := ((s.cnt R.TWIN_SUM_MISMATCH).raise R.TWIN_TERR 4 ⟨23, 0, 0, 38⟩).fire 37

/-- The partner's entries whose block has closed here too are compared (R408). -/
def State.compareBlks (s : State) : State :=
  s.peerBlks.foldl (fun s p =>
    match s.checkBlks.find? (fun b => b.view == p.view && b.frame == p.frame && b.blk == p.blk && b.closed.isSome) with
    | some b =>
      let s := { s with peerBlks := erase1 p s.peerBlks, checkBlks := erase1 b s.checkBlks }
      (s.cnt R.TWIN_SUM_BLOCKS).when (b.sum != p.sum || b.frags != p.frags) (·.mismatch)
    | none => s) s

/-- The horizon of a view advances to row `q` (R205). -/
def State.advance (s : State) (v q : Nat) (rest : List LeftRow) : State :=
  let s := { s with horizon := s.horizon.set (fun _ => none) v (some q), leftDrift := s.leftDrift.set (fun _ => []) v rest }
  ((s.closeDue v q).closeBlocks v q).compareBlks

/-- The stripes of a view that contexts are bound to. -/
def State.boundStripes (s : State) (v : Nat) : List (Nat × Nat × Nat) :=
  ((List.range 16).map (fun g => (s.boundCtxs g).filterMap (fun e =>
    match (s.ctx e.1 e.2).bind with
    | some (g', k, i) => if (s.group g').viewOf k == v then some (g', k, i) else none
    | none => none))).flatten

/-- ROW_MARK_IN (R205): a row mark at the head of Moraine's input; a row that every bound context has marked advances the
horizon. -/
def rowMarkIn (s : State) : State :=
  match s.mvIn with
  | .mark v g k i row :: rest =>
    let s := { s with mvIn := rest }
    let rows := s.leftDrift.get (fun _ => []) v
    match rows.findIdx? (fun r => r.row == row && !r.marks.contains (g, k, i)) with
    | none => s
    | some j =>
      let rows := rows.modify j (fun r => { r with marks := r.marks ++ [(g, k, i)] })
      let marks := (rows.getD j ⟨0, 0, []⟩).marks
      if (s.boundStripes v).all (fun b => marks.contains b) then s.advance v row (rows.drop (j + 1))
      else { s with leftDrift := s.leftDrift.set (fun _ => []) v rows }
  | _ => s

/-- HORIZON_TIMEOUT (R205): HORIZON_NS after the oldest row of a view left Drift. -/
def horizonTimeout (v : Nat) (s : State) : State :=
  match s.leftDrift.get (fun _ => []) v with
  | r :: rest =>
    if s.ns < r.at' + s.rdN R.MORAINE_HORIZON_NS then s else (s.mvErr 9).advance v r.row rest
  | [] => s

/-! Fragments. -/

/-- The CRC-32C of a fragment record with bytes 16–31 and 44–47 taken as 0 (R408). -/
def fragSum (f : HFrag) : BitVec 32 :=
  crc32c ((f.bytes.zipIdx).map (fun e => if (decide (16 ≤ e.2) && decide (e.2 < 32)) || (decide (44 ≤ e.2) && decide (e.2 < 48))
    then 0 else e.1))

/-- A paired device sums a fragment into its check block (R408); one that comes after its block has closed is left out. -/
def State.checkFrag (s : State) (f : HFrag) : State :=
  if s.gf R.TWIN_TSTAT F.TWIN_TSTAT_ROLE < 2 then s else
  let blk := f.first.line / 256
  match s.checkBlks.findIdx? (fun b => b.view == f.view && b.frame == f.first.frame && b.blk == blk) with
  | some i =>
    match s.checkBlks[i]? with
    | some b => if b.closed.isSome then s.cnt R.TWIN_SUM_LATE
        else { s with checkBlks := s.checkBlks.set i { b with sum := b.sum + fragSum f, frags := b.frags + 1 } }
    | none => s
  | none => { s with checkBlks := s.checkBlks ++
      [⟨f.view, f.first.frame, blk, fragSum f, 1, (f.first.row + 255 - f.first.line % 256) % 0x100000000, none, false⟩] }

/-- A new object takes the lowest free entry; with none free the DECIDED entry that retires first is retired early (R225). -/
def State.newEntry (s : State) : State × Option Nat :=
  match lowestFree s.objs 0 with
  | some e => (s, some e)
  | none =>
    let dec := s.entries (fun o => o.state == obDecided)
    let first := dec.foldl (fun (m : Option Nat) e => match m with
      | none => some e
      | some f => if (s.obj e).retireAt < (s.obj f).retireAt then some e else m) none
    match first with
    | some e => (((s.freeObj e).cnt R.MORAINE_EARLY_RETIRE).fire 676, some e)
    | none => (((s.cnt R.MORAINE_FRAGS_DROPPED).fire 676).mvErr 1, none)

/-- A fragment that joins nothing starts an object (R207, R209). -/
def State.startObj (s : State) (f : HFrag) (late : Bool) : State :=
  let r := s.newEntry
  match r.2 with
  | none => r.1
  | some e =>
    let s := r.1
    let side : OSide := ⟨f.view, f.colMin, f.colMax, f.area, f.last.time⟩
    let b := s.mvF (R.MVIEW_VCTL f.view) F.MVIEW_VCTL_ROLE_B == 1
    let o : Obj := {
      gen := ((s.obj e).gen + 1) % 0x10000, state := obOpen, late := late
      a := if b then none else some side, b := if b then some side else none
      cut := f.cut || f.trunc, rowFlagged := f.rowFlagged, spilled := f.spilled, padTouch := f.padTouch
      frame := f.first.frame, line := f.first.line, time := f.first.time, frags := 1, feat := f.feat, lastRow := fragLast f }
    let p := s.takeTags otagAdd o (s.fragTags f b)
    let s := ((p.1.setObj e p.2).cnt R.MORAINE_OBJ_CREATED).objCount
    if late then s.closeSide e false else s.keepFrag e f

/-- Would a fragment that joins these sides place the last line time more than 2³⁰ ns after the FIRST_LINE_TIME (R209)? -/
def State.tooLong (s : State) (f : HFrag) (met : List Nat) : Bool :=
  let t0 := met.foldl (fun t e => if before (s.obj e).time t then (s.obj e).time else t) f.first.time
  let t1 := met.foldl (fun t e => later (s.obj e).side.last t) f.last.time
  decide ((2 : Int) ^ 30 < t1.toInt - t0.toInt)

/-- A side closes with CUT set (R209). -/
def State.cutSide (s : State) (e : Nat) : State := (s.setObj e { s.obj e with cut := true }).closeSide e false

/-- While the sides that a fragment would join are together too long, the eldest closes with CUT set. -/
def State.trimMet (s : State) (f : HFrag) : Nat → List Nat → State × List Nat
  | 0, met => (s, met)
  | n + 1, met =>
    if !s.tooLong f met then (s, met) else
    match s.eldest met with
    | some e => (s.cutSide e).trimMet f n (met.filter (· != e))
    | none => (s, met)

/-- FRAGMENT_IN (R205 to R209): a fragment at the head of Moraine's input joins, merges or starts an object. -/
def fragmentIn (s : State) : State :=
  match s.mvIn with
  | .frag f :: rest =>
    let s := { s with mvIn := rest }
    if !s.on R.MORAINE_MCTL F.MORAINE_MCTL_EN then s else
    let s := s.cnt R.MORAINE_FRAGS_IN
    let v := f.view
    if s.mvF (R.MVIEW_VCTL v) F.MVIEW_VCTL_EN == 0 then (s.cnt R.MORAINE_FRAGS_DROPPED).mvErr 2 else
    let s := s.checkFrag f
    let j := s.joinRows v
    let late := match s.horizon.get (fun _ => none) v with
      | some h => decide (0 ≤ fdiff h (fragLast f + 1 + j))
      | none => false
    let s := s.when late (fun s => (s.cnt R.MORAINE_FRAGS_LATE).mvErr 3)
    let met := s.entries (fun o => o.state == obOpen && o.side.view == v && o.meets j f)
    let s := (met.filter (fun e => s.tooLong f [e])).foldl (fun s e => s.cutSide e) s
    let x := s.trimMet f met.length (met.filter (fun e => (s.obj e).state == obOpen))
    let s := x.1
    let met := x.2.filter (fun e => (s.obj e).state == obOpen)
    match s.eldest met with
    | none => s.startObj f late
    | some e =>
      let s := (met.filter (· != e)).foldl (fun s g => s.mergeObjs e g) s
      let b := (s.obj e).isB
      let p := s.takeTags otagAdd ((s.obj e).takeFrag f) (s.fragTags f b)
      ((p.1.setObj e p.2).cnt R.MORAINE_FRAGS_JOINED).keepFrag e f
  | _ => s

/-- The fusion window of an entry in WAIT closes at this time (R212). -/
def State.windowEnd (s : State) (o : Obj) : Int :=
  let v := s.viewA o
  let t := s.mvI (R.MVIEW_T_OFFS v)
  o.time.toInt + (if o.isB then -t else t) + s.mvN (R.MVIEW_T_TOL v) + s.mvN (R.MVIEW_FUSE_WAIT v)

/-- FUSION_WINDOW_EXPIRY (R212): a side in WAIT is decided alone. -/
def fusionWindowExpiry (e : Nat) (s : State) : State :=
  let o := s.obj e
  if o.state != obWait || o.deciding || decide (s.ns < s.windowEnd o) then s else
  ((s.setObj e { o with pMissed := true }).cnt R.MORAINE_PARTNER_MISSED).fire 679 |>.toDecide e

/-- ENTRY_RETIRE (R224). -/
def entryRetire (e : Nat) (s : State) : State :=
  let o := s.obj e
  if o.state == obDecided && decide (o.retireAt ≤ s.ns) then s.freeObj e else s

/-! Configuration (R228, R229). -/

/-- Do two views form a pair (R210), as the registers stand? -/
def State.pairOk (s : State) (v : Nat) : Bool :=
  let w (u : Nat) := s.rd (R.MVIEW_VCTL u)
  let p := F.MVIEW_VCTL_PARTNER.get (w v)
  p != v && F.MVIEW_VCTL_PARTNER.get (w p) == v && F.MVIEW_VCTL_FUSE_EN.get (w p) == 1
    && F.MVIEW_VCTL_ROLE_B.get (w p) != F.MVIEW_VCTL_ROLE_B.get (w v)

/-- Do the COL_ENDs of the enabled entries of a port map not fall? -/
def portMapOk : List Word → Nat → Bool
  | [], _ => true
  | w :: ws, m =>
    if (⟨31, 1⟩ : Fld).get w == 0 then portMapOk ws m
    else decide (m ≤ (⟨0, 18⟩ : Fld).get w) && portMapOk ws ((⟨0, 18⟩ : Fld).get w)

/-- The conditions of R229 on a view's registers. -/
def State.mviewOk (s : State) (v : Nat) : Bool :=
  let w := s.rd (R.MVIEW_VCTL v)
  let span := (⟨8, 7⟩ : Fld).get (s.rd (R.MVIEW_SPAN v))
  let range := s.rd (R.MVIEW_VALVE_RANGE v)
  let lo := (⟨0, 11⟩ : Fld).get range
  let hi := (⟨16, 11⟩ : Fld).get range
  (F.MVIEW_VCTL_FUSE_EN.get w == 0 || s.pairOk v) && decide (F.MVIEW_VCTL_FB.get w ≤ 23)
    && decide (1 ≤ span) && decide (span ≤ 64) && decide (0 < s.rdI (R.MVIEW_FT_STEP v))
    && decide ((s.rdI (R.MVIEW_T_OFFS v)).natAbs + s.rdN (R.MVIEW_T_TOL v) < 2 ^ 29)
    && decide (lo ≤ hi) && decide (hi ≤ 2047)
    && portMapOk ((List.range 8).map (fun i => s.rd (R.MVIEW_PORT_MAP v i))) 0

/-- The registers that APPLY puts in force. -/
def mvAddrs : List Nat :=
  R.MORAINE_MCTL :: ((List.range 4).map (fun v => (List.range 24).map (fun i => R.MVIEW_VCTL v + 4 * i))).flatten

/-- MCMD.APPLY (R229): a view turned off has its open sides closed and decided at once. -/
def moraineApply (s : State) : State :=
  if s.gf R.MORAINE_MCTL F.MORAINE_MCTL_DEFAULT_VERDICT == 0 || !(List.range 4).all (fun v => s.mviewOk v) then s.mvErr 0 else
  let offs := (List.range 4).filter (fun v => s.mvF (R.MVIEW_VCTL v) F.MVIEW_VCTL_EN == 1 && !s.on (R.MVIEW_VCTL v) F.MVIEW_VCTL_EN)
  let s := { s with mvCfg := mvAddrs.foldl (fun m a => SMap.set resetWord m a (s.rd a)) s.mvCfg }
  (s.entries (fun o => o.state == obOpen && offs.contains o.side.view)).foldl (fun s e => s.closeSide e true) s

/-- MCMD.SWAP_RULES (R228); one that is pending takes it in. -/
def swapRules (s : State) : State := s.sf R.MORAINE_MSTAT F.MORAINE_MSTAT_SWAP_RULES_P 1
/-- MCMD.SWAP_FT (R228). -/
def swapFt (s : State) : State := s.sf R.MORAINE_MSTAT F.MORAINE_MSTAT_SWAP_FT_P 1

/-- MCMD.CLEAR (R229): only while EN = 0. -/
def moraineClear (s : State) : State :=
  if s.on R.MORAINE_MCTL F.MORAINE_MCTL_EN then s.mvErr 0 else
  { (s.entries (fun o => o.state != obFree)).foldl (fun s e => s.freeObj e) s with decideQ := [] }

/-! The object table as software reads it (R203, R204). -/

/-- The 14 bytes of a tag slot. -/
def OTag.bytes (t : OTag) (first : BitVec 64) : List (BitVec 8) :=
  leBytes 1 (t.cls + 16 * b2n t.v + 32 * b2n t.sideB) ++ leBytes 1 t.fe ++ leBytes 2 t.size ++ leBytes 4 t.frame ++ leBytes 2 t.line
    ++ leBytes 4 (if t.v then (t.time - first).toNat else 0)

/-- How many tags an object holds. -/
def Obj.ntags (o : Obj) : Nat := (o.tags.filter (·.v)).length

/-- The 8 bytes of a side's box. -/
def boxBytes (x : Option OSide) : List (BitVec 8) :=
  let x := x.getD {}
  leBytes 8 (x.colMin + 0x40000 * x.colMax + 0x1000000000 * x.area)

/-- The 128 bytes of an entry (R203). -/
def Obj.bytes (o : Obj) (e : Nat) : List (BitVec 8) :=
  leBytes 4 (o.objId e)
    ++ leBytes 1 (o.state + 8 * b2n o.a.isSome + 16 * b2n o.b.isSome + 32 * b2n o.fused + 64 * b2n o.pMissed + 128 * b2n o.late)
    ++ leBytes 1 ((o.a.getD {}).view + 4 * (o.b.getD {}).view + 16 * b2n o.cut + 32 * b2n o.rowFlagged + 64 * b2n o.spilled
      + 128 * b2n o.padTouch)
    ++ leBytes 1 (o.verdict + 4 * o.ntags + 16 * b2n o.tagLost + 32 * b2n o.dflt) ++ leBytes 1 o.rule
    ++ leBytes 4 o.frame ++ leBytes 2 o.line ++ leBytes 2 o.frags ++ leBytes 8 o.time.toNat
    ++ leBytes 8 (o.a.getD {}).last.toNat ++ leBytes 8 (o.b.getD {}).last.toNat ++ boxBytes o.a ++ boxBytes o.b
    ++ leBytes 8 o.eject.toNat
    ++ leBytes 4 (o.vFirst + 0x10000 * o.vLast + 0x8000000 * b2n o.clipped + 0x10000000 * b2n o.clamped + 0x20000000 * b2n o.handed)
    ++ (o.feat.map (leBytes 4)).flatten ++ (o.tags.map (fun t => t.bytes o.time)).flatten ++ leBytes 2 o.pulse

end Sys2Proof.Machine
end

