-- ==== Sys2Proof/Machine/Decide.lean ====
section
/-! DEFINITION. Decisions of Moraine: the rules (R214, R215), verdicts and hand-over (R216), ejection time and valve span (R217 to
R219), defect records (R220 to R223), and the bank swaps that take effect at a decision (R228). -/

namespace Sys2Proof.Machine

/-! Rules (R214, R215). -/

/-- The eight flags of FLAG_MASK and FLAG_VAL. -/
def Obj.flags (o : Obj) : Nat :=
  b2n o.fused + 2 * b2n o.pMissed + 4 * b2n o.cut + 8 * b2n o.rowFlagged + 16 * b2n o.spilled + 32 * b2n o.padTouch
    + 64 * b2n o.late + 128 * b2n o.tagLost

/-- AREA_A + AREA_B. -/
def Obj.area (o : Obj) : Nat := (o.a.getD {}).area + (o.b.getD {}).area

/-- The value that METRIC selects. -/
def Obj.metric (o : Obj) (m : Nat) : Nat :=
  if m ≤ 3 then o.feat.getD m 0
  else if m == 4 then o.area
  else if o.area == 0 then 0
  else (16 * o.feat.getD (m - 5) 0 + o.area / 2) / o.area % 0x100000000

/-- Does the object hold a side in a view of the mask? -/
def Obj.inViews (o : Obj) (mask : Nat) : Bool :=
  (match o.a with | some x => flag mask x.view | none => false) || (match o.b with | some x => flag mask x.view | none => false)

/-- The CLASS_MASK test. -/
def Obj.classMatch (o : Obj) (mask minSize : Nat) : Bool :=
  mask == 0 || o.tags.any (fun t => t.v && t.cls != 0 && flag mask t.cls && decide (minSize ≤ t.size))
    || (flag mask 0 && o.ntags == 0)

/-- Word `j` of rule `i` in the bank in force. -/
def State.ruleWord (s : State) (i j : Nat) : Word :=
  s.rules.get (fun _ => 0) (1024 * s.gf R.MORAINE_MSTAT F.MORAINE_MSTAT_RULE_BANK + 4 * i + j)

/-- Does rule `i` match (R215)? -/
def State.ruleMatch (s : State) (o : Obj) (i : Nat) : Bool :=
  let w0 := s.ruleWord i 0
  let w1 := s.ruleWord i 1
  let w2 := s.ruleWord i 2
  let fm := (⟨16, 8⟩ : Fld).get w1
  let fv := (⟨24, 8⟩ : Fld).get w1
  let vm := (⟨8, 4⟩ : Fld).get w0
  let metric := (⟨0, 4⟩ : Fld).get w2
  let cmp := (⟨4, 2⟩ : Fld).get w2
  let th := (s.ruleWord i 3).toNat
  (⟨0, 1⟩ : Fld).get w0 == 1 && (⟨1, 2⟩ : Fld).get w0 != 0 && decide (metric ≤ 8)
    && (vm == 0 || o.inViews vm) && o.classMatch ((⟨16, 16⟩ : Fld).get w0) ((⟨0, 16⟩ : Fld).get w1)
    && o.flags &&& fm == fv &&& fm
    && (cmp == 0 || (cmp == 1 && decide (th ≤ o.metric metric)) || (cmp == 2 && decide (o.metric metric < th)))

/-- VERDICT, RULE and DEFAULT of an object (R215). -/
def State.judge (s : State) (o : Obj) : Nat × Nat × Bool :=
  match (List.range 256).find? (fun i => s.ruleMatch o i) with
  | some i => ((⟨1, 2⟩ : Fld).get (s.ruleWord i 0), i, false)
  | none => (s.mvF R.MORAINE_MCTL F.MORAINE_MCTL_DEFAULT_VERDICT, 0, true)

/-! Time and span. -/

/-- The flight time at a speed, and whether it was clamped (R217). -/
def State.flight (s : State) (v : Nat) (speed : Int) : Int × Bool :=
  let step := s.mvI (R.MVIEW_FT_STEP v)
  let u := speed - s.mvI (R.MVIEW_FT_MIN v)
  let r : Nat × Int × Bool :=
    if u < 0 then (0, 0, true) else
    let i := (u.tdiv step).toNat
    let fr := (u.tmod step * 65536).tdiv step
    if 63 ≤ i then (62, 65536, decide (63 < i) || decide (0 < fr)) else (i, fr, false)
  let ft (i : Nat) : Int := ((s.flights.get (fun _ => 0) (256 * s.gf R.MORAINE_MSTAT F.MORAINE_MSTAT_FT_BANK + 64 * v + i)).toNat : Nat)
  (ft r.1 + ((ft (r.1 + 1) - ft r.1) * r.2.1) / 65536, r.2.2)

/-- EJECT_TIME and PULSE_US (R218). -/
def State.ejectTime (s : State) (v : Nat) (tf tl ft : Int) : Int × Nat :=
  let e := ((tf + ft + s.mvI (R.MVIEW_OPEN_OFFS v) + 125).tdiv 250) * 250
  let c := tl + ft + s.mvI (R.MVIEW_CLOSE_OFFS v)
  (e, (sat ((c - e + 999).tdiv 1000) 200 50000).toNat)

def State.valveLo (s : State) (v : Nat) : Nat := s.mvF (R.MVIEW_VALVE_RANGE v) ⟨0, 11⟩
def State.valveHi (s : State) (v : Nat) : Nat := s.mvF (R.MVIEW_VALVE_RANGE v) ⟨16, 11⟩

/-- The valve of a view column, the column clamped to the view (R219). -/
def State.valveOf (s : State) (v : Nat) (c : Int) : Int :=
  let c := sat c 0 (((s.view v).width : Int) - 1)
  sat (s.valveLo v + (c * s.mvN (R.MVIEW_VALVE_SCALE v) + s.mvI (R.MVIEW_VALVE_OFFS v)) / 16777216) (s.valveLo v) (s.valveHi v)

/-- VALVE_FIRST, VALVE_LAST and SPAN_CLIPPED (R219). -/
def State.span (s : State) (v colMin colMax : Nat) : Nat × Nat × Bool :=
  let m : Int := s.mvF (R.MVIEW_SPAN v) ⟨0, 8⟩
  let sm : Int := s.mvF (R.MVIEW_SPAN v) ⟨8, 7⟩
  let first := s.valveOf v (colMin - m)
  let last := s.valveOf v (colMax + m)
  if last - first + 1 ≤ sm then (first.toNat, last.toNat, false) else
  let lo : Int := s.valveLo v
  let hi : Int := s.valveHi v
  let f := s.valveOf v (((colMin + colMax) / 2 : Nat) : Int) - (sm - 1).tdiv 2
  let l := f + sm - 1
  let fl := if f < lo then (lo, lo + sm - 1) else (f, l)
  let fl := if hi < fl.2 then (max lo (hi - sm + 1), hi) else fl
  (fl.1.toNat, fl.2.toNat, true)

/-! Defect records (R220 to R223). -/

/-- BELT_POS of a tag's row (R220). -/
def State.beltPos (s : State) (n : Nat) (t : BitVec 64) : Int :=
  s.rdI (R.FB_POS n) - (s.rdI (R.FB_SPEED n) * (s.ns - t.toInt)).tdiv 1000000000 / 65536

/-- The 64 bytes of a DEFECT_REC (R221). -/
def defectRec (o : Obj) (e : Nat) (t : OTag) (idx dseq : Nat) (belt : Int) (homed : Bool) : List (BitVec 8) :=
  let x := if t.sideB then o.b.getD {} else o.a.getD {}
  leBytes 4 (o.objId e) ++ leBytes 1 (x.view + 4 * (t.fe % 32) + 128 * b2n o.fused)
    ++ leBytes 1 (t.cls + 16 * o.verdict + 64 * b2n o.dflt + 128 * b2n (!homed)) ++ leBytes 1 o.rule
    ++ leBytes 1 (b2n o.pMissed + 2 * b2n o.late + 4 * b2n o.tagLost + 8 * b2n o.clamped + 16 * b2n o.cut + 32 * b2n o.rowFlagged
      + 64 * b2n o.spilled + 128 * b2n o.padTouch)
    ++ leBytes 4 t.frame ++ leBytes 2 t.line ++ leBytes 2 t.size ++ leBytes 8 t.time.toNat ++ leBytes 8 o.eject.toNat
    ++ leBytes 4 x.colMin ++ leBytes 4 x.colMax ++ leBytes 4 (BitVec.ofInt 32 belt).toNat ++ leBytes 2 o.vFirst ++ leBytes 2 o.vLast
    ++ leBytes 2 o.pulse ++ leBytes 1 (idx % 4 + 4 * o.ntags) ++ leBytes 1 0 ++ leBytes 4 x.area ++ leBytes 4 dseq ++ leBytes 4 0

/-- A record goes to the ring, or is dropped (R222). -/
def State.recRing (s : State) (bs : List (BitVec 8)) : State :=
  if !s.on R.MORAINE_MCTL F.MORAINE_MCTL_REC_EN then s else
  let n := s.rdN R.MORAINE_REC_ENTRIES
  let wr := s.rdN R.MORAINE_REC_WR
  let a := s.rd64N R.MORAINE_REC_BASE_LO R.MORAINE_REC_BASE_HI + 64 * wr
  let drop (s : State) := (s.cnt R.MORAINE_REC_DROP).mvErr 7
  if n == 0 || (wr + 1) % n == s.rdN R.MORAINE_REC_RD then drop s
  else if !s.memOk a 64 then (drop s).decodeErr a
  else
    let x := s.memPut a bs
    if x.2 then drop x.1 else ((x.1.wrN R.MORAINE_REC_WR ((wr + 1) % n)).cnt R.MORAINE_REC_WRITTEN).fire 675

/-- The open DEFECT_REC packet closes (R223). -/
def State.recClose (s : State) : State :=
  if s.recPart.isEmpty then s else
  { s.streamOut 6 0 ⟨0x25, s.recPart.length, 0, s.recPart.flatten⟩ with recPart := [] }

/-- How many records Moraine holds for stream-out: those of the open packet and those that a port holds back. -/
def State.recHeld (s : State) : Nat :=
  s.recPart.length + (List.range 32).foldl (fun m q =>
    max m (((s.port q).out.filter (fun e => e.2.dt == 0x25)).map (fun e => e.2.payload.length / 64)).sum) 0

/-- A record goes to the stream-out store (R223). -/
def State.recOut (s : State) (bs : List (BitVec 8)) : State :=
  if decide (1024 ≤ s.recHeld) then (s.cnt R.MORAINE_REC_OUT_DROP).mvErr 8 else
  let s := { s with recPart := s.recPart ++ [bs] }
  if decide (s.gf R.MORAINE_MCTL F.MORAINE_MCTL_REC_PER_PKT ≤ s.recPart.length) then s.recClose else s

/-- One DEFECT_REC of a decided object: the next DSEQ, the ring and the stream (R221). -/
def State.makeRec (s : State) (o : Obj) (e n : Nat) (t : OTag) (idx : Nat) : State :=
  let s := s.wrN R.MORAINE_DSEQ (s.rdN R.MORAINE_DSEQ + 1)
  let bs := defectRec o e t idx (s.rdN R.MORAINE_DSEQ) (s.beltPos n t.time) (s.on (R.FB_STAT n) F.FB_STAT_HOMED)
  (s.recRing bs).recOut bs

/-- The records of a decided object in slot order; an untagged REJECT or RECHECK yields one when REC_UNTAGGED = 1, whose FE, SIZE
and TAG_INDEX the spec leaves open (R221). -/
def State.makeRecs (s : State) (o : Obj) (e n : Nat) : State :=
  if o.ntags == 0 then
    if s.on R.MORAINE_MCTL F.MORAINE_MCTL_REC_UNTAGGED && (o.verdict == 2 || o.verdict == 3) then
      let f := s.free.toNat
      s.freeNext.makeRec o e n ⟨false, 0, o.isB, f % 32, f / 32 % 0x10000, o.frame, o.line, o.time⟩ (f / 0x200000 % 4)
    else s
  else (o.tags.zipIdx).foldl (fun s t => if t.1.v then s.makeRec o e n t.1 t.2 else s) s

/-! The decision. -/

/-- The pending bank swaps take effect (R228). -/
def State.takeSwaps (s : State) : State :=
  let st := R.MORAINE_MSTAT
  let s := if s.on st F.MORAINE_MSTAT_SWAP_RULES_P then
      ((s.sf st F.MORAINE_MSTAT_SWAP_RULES_P 0).sf st F.MORAINE_MSTAT_RULE_BANK
        (1 - s.gf st F.MORAINE_MSTAT_RULE_BANK)).fire 678
    else s
  if s.on st F.MORAINE_MSTAT_SWAP_FT_P then
    ((s.sf st F.MORAINE_MSTAT_SWAP_FT_P 0).sf st F.MORAINE_MSTAT_FT_BANK (1 - s.gf st F.MORAINE_MSTAT_FT_BANK)).fire 678
  else s

/-- The DECIDE record of a decided entry (R403). -/
def Obj.decRec (o : Obj) (e : Nat) : DecRec where
  objId := o.objId e
  view := o.side.view
  verdict := o.verdict
  fused := o.fused
  handed := o.handed
  dflt := o.dflt
  pMissed := o.pMissed
  rule := o.rule
  pulse := o.pulse
  frame := o.frame
  line := o.line
  colMin := o.side.colMin
  colMax := o.side.colMax
  eject := o.eject
  vFirst := o.vFirst
  vLast := o.vLast
  dseq := o.dseq
  ntags := o.ntags
  clipped := o.clipped
  clamped := o.clamped
  time := o.time

/-- The values an entry takes from a DECIDE record (R406). -/
def Obj.takeRec (o : Obj) (r : DecRec) : Obj :=
  { o with verdict := r.verdict, rule := r.rule, dflt := r.dflt, eject := r.eject, pulse := r.pulse, vFirst := r.vFirst
           vLast := r.vLast, clipped := r.clipped, clamped := r.clamped, handed := r.handed }

/-- Did verdict, EJECT_TIME or span differ (R406)? -/
def Obj.differs (o : Obj) (r : DecRec) : Bool :=
  o.verdict != r.verdict || o.eject != r.eject || o.vFirst != r.vFirst || o.vLast != r.vLast

/-- Is the object given to Bellows (R216)? -/
def State.ejects (s : State) (verdict view : Nat) : Bool :=
  verdict == 2 || (verdict == 3 && s.mvF (R.MVIEW_VCTL view) F.MVIEW_VCTL_RECHECK_EJECT == 1)

/-- The held record that an object takes at its decision (R406). -/
def State.heldFor (s : State) (e : Nat) (o : Obj) : Option HeldRec :=
  s.twHeld.find? (fun h => h.entry == some e || h.r.same s o.side.view o.frame o.line o.side.colMin o.side.colMax)

/-- The decision of a standby: a held record replaces the object's own values, else the decision waits for a record (R406). -/
def State.standbyDecide (s : State) (e : Nat) (o : Obj) : State × Obj :=
  match s.heldFor e o with
  | some h =>
    let s := ({ s with twHeld := erase1 h s.twHeld }).cnt R.TWIN_REC_MATCHED
    (s.when (o.differs h.r) (·.cnt R.TWIN_VERDICT_DIFF), o.takeRec h.r)
  | none => if s.twRole == roStandby then ({ s with twShadow := s.twShadow ++ [(o.objId e, s.ns)] }, o) else (s, o)

/-- OBJECT_DECIDE (R226): the object at the head of the queue to decision. -/
def objectDecide (s : State) : State :=
  match s.decideQ with
  | [] => s
  | e :: rest =>
    let s := { s with decideQ := rest }
    let o := s.obj e
    if !o.deciding then s else
    let s := s.takeSwaps
    let v := o.side.view
    let n := s.mvF (R.MVIEW_VCTL v) F.MVIEW_VCTL_FB
    let j := s.judge o
    let ft := s.flight v (s.rdI (R.FB_SPEED n))
    let et := s.ejectTime v o.time.toInt o.side.last.toInt ft.1
    let sp := s.span v o.side.colMin o.side.colMax
    let s := s.when ft.2 (·.mvErr 6)
    let o := { o with
      verdict := j.1, rule := j.2.1, dflt := j.2.2, eject := BitVec.ofInt 64 et.1, pulse := et.2, vFirst := sp.1, vLast := sp.2.1
      clipped := sp.2.2, clamped := ft.2, handed := s.ejects j.1 v, state := obDecided, deciding := false, kept := [] }
    let p := s.standbyDecide e o
    let s := p.1
    let o := p.2
    let s := s.setObj e o
    let s := (s.cnt (if o.verdict == 2 then R.MORAINE_DECIDED_REJECT else if o.verdict == 3 then R.MORAINE_DECIDED_RECHECK
        else R.MORAINE_DECIDED_ACCEPT)).fire (if o.verdict == 2 then 672 else if o.verdict == 3 then 673 else 674)
    let d := s.rdN R.MORAINE_DSEQ
    let s := s.makeRecs o e n
    let o := { o with dseq := if s.rdN R.MORAINE_DSEQ == d then 0xffffffff else (d + 1) % 0x100000000 }
    let s := s.setObj e o
    let s := s.when (s.ejects o.verdict v) (fun s =>
      s.handOver (o.objId e) o.vFirst o.vLast o.pulse o.eject.toInt (if s.mirroring then some s.twNow else none))
    let s := s.mirrorDecision (o.decRec e)
    if o.retireAt ≤ s.ns then s.freeObj e else s

/-- DEFECT_PKT_FLUSH (R223): a partial DEFECT_REC packet is closed. -/
def defectPktFlush (s : State) : State := s.recClose

end Sys2Proof.Machine
end

