-- ==== Sys2Proof/Machine/Twin.lean ====
section
/-! DEFINITION. The twin (R394 to R415): roles, heartbeats, the Clohar link, the mirror, trigger alignment, check blocks, takeover,
yield and handover. -/

namespace Sys2Proof.Machine

/-! Roles (R394, R395). -/

/-- ROLE changes and fires when it does (R414). -/
def State.setRole (s : State) (r : Nat) : State :=
  if s.twRole == r then s else (s.sf R.TWIN_TSTAT F.TWIN_TSTAT_ROLE r).fire 32

/-- A TSTAT bit whose change fires a source. -/
def State.twFlag (s : State) (f : Fld) (v : Bool) (src : Nat) : State :=
  if s.twOn f == v then s else (s.sf R.TWIN_TSTAT f (b2n v)).fire src

def State.setSynced (s : State) (v : Bool) : State := s.twFlag F.TWIN_TSTAT_SYNCED v 34
def State.setPaired (s : State) (v : Bool) : State := s.twFlag F.TWIN_TSTAT_PAIRED v 33
def State.setActOut (s : State) (v : Bool) : State := s.sf R.TWIN_TSTAT F.TWIN_TSTAT_ACT_OUT (b2n v)
def State.setClaiming (s : State) (v : Bool) : State :=
  { s.sf R.TWIN_TSTAT F.TWIN_TSTAT_CLAIMING (b2n v) with claimAt := if v then some s.cyc else none }

/-- The mirror starts afresh: nothing is open, unacknowledged or received. -/
def State.mirrorClear (s : State) : State :=
  { s with twOpen := [], twUnacked := [], twAcked := none, twIn := [], twDump := false, handover := false }

/-- The quads of TAKE_QUAD listen or not, and the generators of TAKE_TP drive their balls or not (R410, R411). -/
def State.takeUnits (s : State) (active : Bool) : State :=
  let s := times 32 (fun q s =>
    s.when (s.on R.TWIN_TAKE_QUAD (bit q)) (·.sf (R.ACT_PORT_CTL q) F.ACT_PORT_CTL_LISTEN (b2n (!active)))) s
  times 16 (fun k s =>
    s.when (s.on R.TWIN_TAKE_TP (bit k)) (·.tpSetOut k active)) s

/-- The yield (R411); the role becomes UNPAIRED. -/
def State.yield (s : State) : State :=
  let s := (((s.setActOut false).putMode true).belErr 9).takeUnits false
  let s := ((s.fire 35).cnt R.TWIN_YIELDS).twErr 9
  (((s.mirrorClear).setPaired false).setRole roUnpaired)

/-- The device becomes ACTIVE (R394, R395): Bellows is LIVE; an asserted ACT_IN makes it yield at once. -/
def State.becomeActive (s : State) : State :=
  let s := (((s.putMode false).mirrorClear).setSynced false).setRole roActive
  if s.twOn F.TWIN_TSTAT_ACT_IN then s.yield else s

/-- A write of TCTL (R395, R415): EN counts in SOLO and UNPAIRED only. -/
def tctlWrite (v : Word) (s : State) : State :=
  let ms := F.TWIN_TCTL_MUX_SETTLE_US.get v
  if ms == 0 || decide (100 < ms) then s.twErr 0 else
  let r := s.twRole
  let free := r == roSolo || r == roUnpaired
  let en := F.TWIN_TCTL_EN.get v
  let s := s.wr R.TWIN_TCTL (F.TWIN_TCTL_EN.put (v &&& 0x00ffff0f) (if free then en else s.gf R.TWIN_TCTL F.TWIN_TCTL_EN))
  if r == roSolo && en == 1 then s.setRole roUnpaired
  else if r == roUnpaired && en == 0 then ((s.setClaiming false).setActOut false).setRole roSolo
  else s

/-- TCMD.CLAIM (R395). -/
def claim (s : State) : State :=
  if s.twRole == roUnpaired && !s.twOn F.TWIN_TSTAT_ACT_IN then (s.setActOut true).setClaiming true else s.twErr 0

/-- CLAIM_WINDOW_EXPIRY (R395): 10 µs after CLAIM the device is ACTIVE. -/
def claimWindowExpiry (s : State) : State :=
  match s.claimAt with
  | some c =>
    if s.twRole == roUnpaired && s.twOn F.TWIN_TSTAT_CLAIMING && decide (1250 ≤ s.cyc - c) then (s.setClaiming false).becomeActive else s
  | none => s

/-- RESYNC_REQ leaves (R405). -/
def State.resyncReq (s : State) : State := s.twinSend 0x14 (leBytes 4 0)

/-- TCMD.JOIN (R395). -/
def join (s : State) : State :=
  let heard := s.twOn F.TWIN_TSTAT_HB_1_OK || s.twOn F.TWIN_TSTAT_HB_2_OK
  if s.twRole == roUnpaired && heard && s.gf R.TWIN_TSTAT F.TWIN_TSTAT_PARTNER_ROLE == roActive && s.twOn F.TWIN_TSTAT_ACT_IN then
    let s := { (((s.setClaiming false).setActOut false).putMode true).mirrorClear with twCycle := none }
    ((s.setSynced false).resyncReq).setRole roStandby
  else s.twErr 0

/-- TCMD.RESYNC (R405, R415). -/
def twinResync (s : State) : State := if s.twRole == roStandby then s.resyncReq else s.twErr 0

/-- A USER packet is pending while its header has not left the port (R401). -/
def State.userPending (s : State) : Bool :=
  match s.userHdr with
  | some (q, h) => (s.port q).txq.contains (true, h)
  | none => false

/-- TCMD.USER_SEND (R401): it merges with one that is pending. -/
def userSend (s : State) : State :=
  if s.userPending then s else
  let n := s.gf R.TWIN_USER_CTL ⟨0, 5⟩
  let q := if s.linkUp 31 then 31 else 30
  let h := twinHdr 2 (s.gf R.TWIN_TSTAT F.TWIN_TSTAT_TWIN_ID) n (s.port q).txSeq
  ({ s with userHdr := some (q, h) }.twinSend 2
    ((List.range n).map (fun i => leBytes 4 (s.rdN (R.TWIN_USER_TX i)))).flatten).cnt R.TWIN_USER_SENT

/-- ACT_IN_CHANGE (R395, R396): the qualified level of ACT_IN. -/
def actInChange (level : Bool) (s : State) : State :=
  let s := s.sf R.TWIN_TSTAT F.TWIN_TSTAT_ACT_IN (b2n level)
  if !level then s
  else if s.twRole == roUnpaired && s.twOn F.TWIN_TSTAT_CLAIMING && s.twOn F.TWIN_TSTAT_TWIN_ID then
    ((s.setActOut false).setClaiming false).twErr 1
  else if s.twRole == roActive then s.yield
  else s

/-! Heartbeats (R398, R399). -/

/-- The 12-byte body (R398). -/
def State.hbBody (s : State) (role seq : Nat) (farewell : Bool) : List (BitVec 8) :=
  let f (b : Bool) (n : Nat) : Nat := 2 ^ n * b2n b
  leBytes 1 (role + f (s.twOn F.TWIN_TSTAT_TWIN_ID) 2 + f (s.twOn F.TWIN_TSTAT_SYNCED) 3 + f farewell 4
      + f (s.armed && !s.shadow) 5 + f (!s.mainReset) 6)
    ++ leBytes 1 (s.gf R.SUP_SSTAT ⟨1, 4⟩) ++ leBytes 2 seq ++ leBytes 4 (s.rdN R.TWIN_MIRROR_SEQ) ++ leBytes 4 0

/-- The running disparity of HB_TX now (R398): K28.5, one each 0.8 µs, has filled the line since the last frame, and each turns it over. -/
def State.hbDisparity (s : State) : Bool :=
  match s.hbLine with
  | some (rd, c) => rd != (((s.cyc - c) / 100 - 20) % 2 == 1)
  | none => false

/-- A heartbeat on path 2 (R398). -/
def State.hbPath2 (s : State) (role : Nat) (farewell : Bool) : State :=
  let n := s.hbSeq.getD 1 0
  let gs := hbGroups s.hbDisparity (s.hbBody role n farewell)
  { s with hbSeq := s.hbSeq.set 1 ((n + 1) % 65536), hbLine := some (groupsEnd s.hbDisparity gs, s.cyc) }.emit (.heartbeat gs)

/-- A heartbeat on path 1 (R398): on Q31, and on Q30 with AUX_LINK_EN = 1. -/
def State.hbPath1 (s : State) (role : Nat) (farewell : Bool) : State :=
  let n := s.hbSeq.getD 0 0
  let b := s.hbBody role n farewell
  let s := { s with hbSeq := s.hbSeq.set 0 ((n + 1) % 65536) }.twinSendOn 31 1 b
  if s.on R.TWIN_TCTL F.TWIN_TCTL_AUX_LINK_EN then s.twinSendOn 30 1 b else s

/-- HEARTBEAT_SEND (R398): while the main domain is in reset path 2 alone runs (R394, R433), unless R397 has stopped it. -/
def heartbeatSend (s : State) : State :=
  if s.twRole == roSolo then s
  else if s.mainReset then (if s.hbStop then s else s.hbPath2 s.twRole false)
  else (s.hbPath1 s.twRole false).hbPath2 s.twRole false

/-- The takeover begins (R410, steps 1 and 2), and DSEQ goes on from the active's (R407). -/
def State.takeover (s : State) : State :=
  let s := { s with twIn := [] }
  let s := (s.setActOut true).wr64 R.TWIN_TAKE_TIME_LO R.TWIN_TAKE_TIME_HI s.nsBits
  let s := s.wrN R.MORAINE_DSEQ (s.twDseq.1 + (s.rdN R.MORAINE_DSEQ + 2 ^ 32 - s.twDseq.2) % 2 ^ 32)
  { (s.cnt R.TWIN_TAKEOVERS).fire 36 with settleAt := some s.cyc }

/-- A standby that is silent, or hears FAREWELL (R395). -/
def State.partnerGone (s : State) : State :=
  if s.twRole != roStandby || s.settleAt.isSome then s
  else if s.twOn F.TWIN_TSTAT_SYNCED || s.on R.TWIN_TCTL F.TWIN_TCTL_TAKE_UNSYNCED then s.takeover
  else ((s.mirrorClear).twErr 2).setRole roUnpaired

/-- A valid heartbeat on a path (R399). -/
def State.hbValid (s : State) (path : Nat) (b : List (BitVec 8)) : State :=
  let st := leAt b 0 1
  let role := st % 4
  let s := { s with hbAt := some s.cyc, hbPath := s.hbPath.set path (some s.cyc), peerSynced := st / 8 % 2 == 1 }
  let s := s.cnt (if path == 0 then R.TWIN_HB_1_RX else R.TWIN_HB_2_RX)
  let s := s.twFlag (if path == 0 then F.TWIN_TSTAT_HB_1_OK else F.TWIN_TSTAT_HB_2_OK) true 33
  let s := s.sf R.TWIN_TSTAT F.TWIN_TSTAT_PARTNER_ARMED (st / 32 % 2)
  let s := if s.gf R.TWIN_TSTAT F.TWIN_TSTAT_PARTNER_ROLE == role then s
    else (s.sf R.TWIN_TSTAT F.TWIN_TSTAT_PARTNER_ROLE role).fire 33
  let s := if s.twRole == roActive then s.setPaired (role == roStandby) else s
  if st / 16 % 2 == 1 then s.partnerGone else s

/-- A heartbeat whose CRC passed (R399): one with the own TWIN_ID is discarded. While the main domain is in reset a valid one restarts
the silence timers alone: the registers it reaches are held at reset. -/
def State.hbBody? (s : State) (path : Nat) (b : List (BitVec 8)) : State :=
  let own := (leAt b 0 1 / 4 % 2 == 1) == s.twOn F.TWIN_TSTAT_TWIN_ID
  if s.mainReset then (if own then s else { s with hbAt := some s.cyc, hbPath := s.hbPath.set path (some s.cyc) })
  else if own then s.twErr 3 else s.hbValid path b

/-! Packets of the Clohar link (R401). -/

/-- The packet types. -/
def twinTypes : List Nat := [0x01, 0x02, 0x10, 0x11, 0x12, 0x13, 0x14]

/-- The LEN and the receiver's role that a type asks for (R401). -/
def State.twinOk (s : State) (type len : Nat) (pl : List (BitVec 8)) : Bool :=
  let standby := s.twRole == roStandby
  let active := s.twRole == roActive
  if type == 0x01 then len == 3
  else if type == 0x02 then decide (1 ≤ len) && decide (len ≤ 16)
  else if type == 0x10 then standby && decide (1 ≤ len) && len % 14 == 0 && decide (len / 14 ≤ 32)
  else if type == 0x11 then standby && len == 6 + 3 * (leAt pl 7 1 % 64)
  else if type == 0x12 then active && len == 2
  else if type == 0x13 then standby && decide (1 ≤ len) && len % 4 == 0 && decide (len / 4 ≤ 64)
  else type == 0x14 && active && len == 1

/-- A packet of `type` on quad `q` (R69 to R71, R400, R401): header, SEQ, CRC, type, length, role; a packet of another known type
is not this event. -/
def State.twinRx (s : State) (type q : Nat) (p : Pkt) (body : List (BitVec 8) → State → State) : State :=
  let x := s.port q
  if s.role q != 3 || x.hunt then s else
  match hdrCheck p.hdr with
  | none => ((s.setPort q { x with hunt := true }).cnt (R.ACT_HDR_UNCORR q)).portErr q 0
  | some (h, corr) =>
    let t := (h.extractLsb' 0 8).toNat
    if t != type && twinTypes.contains t then s else
    let d := (hSeq h + 0x10000 - x.rxSeq) % 0x10000
    let s := (s.when corr (·.cnt (R.ACT_HDR_CORR q))).cnt (R.ACT_PKT_RX q)
    if decide (0x8000 ≤ d) then s.dropPkt q else
    let s := s.setPort q { x with rxSeq := (hSeq h + 1) % 0x10000 }
    let s := s.when (d != 0) (fun s => (s.cntN (R.ACT_SEQ_GAP q) d).portErr q 2)
    if t != type || !s.twinOk t (hLen h) p.payload then s.cnt R.TWIN_LINK_DROP
    else if p.cut || p.payload.length != 4 * hLen h || crc32c p.payload != p.crc then
      ((s.cnt (R.ACT_CRC_ERR q)).portErr q 1).cnt (R.ACT_DROP_PKT q)
    else body p.payload s

/-- HEARTBEAT_RX (R399): on path 1 a packet, on path 2 a frame of code groups. -/
def heartbeatRx (f : HbIn) (s : State) : State :=
  match f with
  | .link q p => if s.mainReset then s else s.twinRx 0x01 q p (fun b s => s.hbBody? 0 b)
  | .pair gs =>
    match hbFrame gs with
    | some b => s.hbBody? 1 b
    | none => s

/-- How long a path, or both, have been without a valid heartbeat, in CLK_TIME cycles. -/
def State.silentFor (s : State) (at' : Option Nat) : Nat :=
  match at' with
  | some c => s.cyc - c
  | none => s.cyc

/-- HEARTBEAT_MISS (R399): 20 µs without a valid heartbeat on a path; that SOLO counts none is the model's choice (log entry 28). -/
def heartbeatMiss (path : Nat) (s : State) : State :=
  if s.twRole == roSolo || decide (s.silentFor (s.hbPath.getD path none) < 2500) then s
  else s.cnt (if path == 0 then R.TWIN_HB_1_MISS else R.TWIN_HB_2_MISS)

/-- PATH_SILENT (R399): 100 µs without one. That a path never heard sets no HB_x_LOST is the model's choice (log entry 28). -/
def pathSilent (path : Nat) (s : State) : State :=
  let ok := if path == 0 then F.TWIN_TSTAT_HB_1_OK else F.TWIN_TSTAT_HB_2_OK
  if !s.twOn ok || decide (s.silentFor (s.hbPath.getD path none) < 12500) then s
  else (s.twErr (10 + path)).twFlag ok false 33

/-- PARTNER_SILENT (R395): 100 µs without one on either path. -/
def partnerSilent (s : State) : State :=
  if s.silentFor s.hbAt < 12500 then s
  else if s.twRole == roActive then s.setPaired false
  else s.partnerGone

/-- MUX_SETTLE_EXPIRY (R410, step 3). -/
def muxSettleExpiry (s : State) : State :=
  match s.settleAt with
  | some c =>
    if decide (s.cyc - c < 125 * s.gf R.TWIN_TCTL F.TWIN_TCTL_MUX_SETTLE_US) || s.twRole != roStandby then s else
    (({ s with settleAt := none }.putMode false).takeUnits true).becomeActive
  | none => s

/-! The mirror (R402 to R405). -/

/-- The trigger entries of a CYCLE_END (R404), for each CAMERA_IN quad with TRIG_CTL.EN = 1; the time of a quad that has sent none
is left open. -/
def State.trigEntries (s : State) : List (List (BitVec 8)) :=
  ((List.range 32).filter (fun q => s.role q == 1 && s.on (R.ACT_TRIG_CTL q) F.ACT_TRIG_CTL_EN)).map (fun q =>
    let e : Nat × Int := match (s.port q).trigRing with
      | e :: _ => e
      | [] => ((s.gf (R.ACT_TRIG_NEXT q) ⟨0, 16⟩ + 65535) % 65536, (Config.freeValue (s.freeIx + q)).toInt)
    leBytes 1 q ++ leBytes 1 0 ++ leBytes 2 e.1 ++ leBytes 8 (BitVec.ofInt 64 e.2).toNat)

/-- A CYCLE_END leaves (R404). -/
def State.sendCycleEnd (s : State) (seq : Nat) (recs : List DecRec) (dump : Bool) (endNs : Int) : State :=
  let trig := if s.twSel 4 then s.trigEntries else []
  let bytes := (recs.map DecRec.bytes).flatten
  let fl := b2n dump + 2 * b2n (s.armed && !s.shadow) + 4 * b2n (s.on R.TWIN_TCTL F.TWIN_TCTL_MODE)
  let pl := leBytes 4 seq ++ leBytes 2 recs.length ++ leBytes 1 fl ++ leBytes 1 trig.length ++ leBytes 4 (crc32c bytes).toNat
    ++ leBytes 4 (s.rdN R.MORAINE_DSEQ) ++ leBytes 8 (BitVec.ofInt 64 endNs).toNat ++ trig.flatten
  { s with freeIx := s.freeIx + 32 }.twinSend 0x11 pl

/-- A list cut into pieces of at most `k`. -/
def pieces {α : Type} (k : Nat) : Nat → List α → List (List α)
  | 0, _ => []
  | fuel + 1, xs => if xs.isEmpty then [] else xs.take k :: pieces k fuel (xs.drop k)

/-- Closed check blocks leave in CHECK packets of up to 64 entries (R402, R408). -/
def State.sendChecks (s : State) : State :=
  if !s.twSel 3 then s else
  let bs := s.checkBlks.filter (fun b => b.closed.isSome)
  let ent (b : CheckBlk) : List (BitVec 8) :=
    leBytes 1 b.view ++ leBytes 1 0 ++ leBytes 2 b.blk ++ leBytes 4 b.frame ++ leBytes 4 b.sum.toNat ++ leBytes 4 b.frags
  (pieces 64 bs.length bs).foldl (fun s g => s.twinSend 0x13 (g.map ent).flatten)
    { s with checkBlks := s.checkBlks.filter (fun b => b.closed.isNone) }

/-- Mirror cycle `c` closes (R402). -/
def State.closeCycle (s : State) (c : Nat) (endNs : Int) : State :=
  let s := s.sendCycleEnd c s.twOpen false endNs
  let s := { s with twOpen := [], twCycle := some c, twUnacked := s.twUnacked ++ [(c, s.ns)] }
  ((s.wrN R.TWIN_MIRROR_SEQ c).cnt R.TWIN_CYCLES_SENT).sendChecks

/-- The mirror period in ns. -/
def State.mirrorNs (s : State) : Nat := s.rdN R.TWIN_MIRROR_PERIOD * 1000

/-- CYCLE_END_SEND (R402): the boundary at or before now closes the cycle before it. -/
def cycleEndSend (s : State) : State :=
  let k := s.ns / (s.mirrorNs : Int)
  let c := ((k - 1) % 2 ^ 32).toNat
  if !s.mirroring || s.twCycle == some c then s else s.closeCycle c (k * s.mirrorNs)

/-- TCMD.HANDOVER (R413): the cycle in progress closes at once. -/
def handoverCmd (s : State) : State :=
  if s.twRole == roActive && s.twOn F.TWIN_TSTAT_PAIRED && s.peerSynced then
    { s.closeCycle s.twNow s.ns with handover := true }
  else s.twErr 0

/-- The handover's last steps (R413): yield, FAREWELL on both paths, STANDBY, RESYNC_REQ. -/
def State.handOff (s : State) : State :=
  let s := (s.yield.hbPath1 roUnpaired true).hbPath2 roUnpaired true
  let s := { s with twCycle := none }
  ((s.setSynced false).resyncReq).setRole roStandby

/-- MIRROR_ACK_TIMEOUT (R402, R413): the oldest CYCLE_END without an acknowledge for 2 × P. -/
def mirrorAckTimeout (s : State) : State :=
  match s.twUnacked with
  | (_, t) :: rest =>
    if s.ns < t + 2 * s.mirrorNs then s
    else ({ s with twUnacked := rest, handover := s.handover && !rest.isEmpty }.cnt R.TWIN_CYCLES_LOST).twErr 5
  | [] => s

/-- MIRROR_ACK_RX (R402, R405). -/
def mirrorAckRx (q : Nat) (p : Pkt) (s : State) : State :=
  s.twinRx 0x12 q p (fun b s =>
    let c := leAt b 0 4
    if leAt b 4 1 % 2 == 0 || !(s.twUnacked.any (fun e => e.1 == c)) then s else
    let s := { s with twUnacked := s.twUnacked.filter (fun e => e.1 != c), twAcked := some c }
    if s.handover && s.twCycle == some c then s.handOff else s)

/-- DECIDE_RX (R403, R405). -/
def decideRx (q : Nat) (p : Pkt) (s : State) : State :=
  s.twinRx 0x10 q p (fun b s =>
    { s with twIn := s.twIn ++ (List.range (b.length / 56)).map (fun i => decRecOf ((b.drop (56 * i)).take 56)) })

/-! Applying a cycle (R406, R407). -/

/-- A mirrored record is dropped (R406). -/
def State.recDropped (s : State) : State := (s.cnt R.TWIN_REC_DROPPED).twErr 8

/-- The actions of a record that ejects go to Bellows under an OBJ_ID (R406). -/
def State.recActions (s : State) (r : DecRec) (objId : Nat) : State :=
  s.when (s.ejects r.verdict r.view) (fun s => s.handOver objId r.vFirst r.vLast r.pulse r.eject.toInt none)

/-- One record is applied (R406). -/
def State.applyRec (s : State) (r : DecRec) : State :=
  let same (o : Obj) : Bool := r.same s o.side.view o.frame o.line o.side.colMin o.side.colMax
  match s.entries (fun o => o.state == obDecided && same o) with
  | e :: _ =>
    let o := s.obj e
    let id := o.objId e
    let s := (s.cnt R.TWIN_REC_MATCHED).when (o.differs r) (·.cnt R.TWIN_VERDICT_DIFF)
    let s := { s.setObj e (o.takeRec r) with twShadow := s.twShadow.filter (fun x => x.1 != id) }
    (s.withdraw id).recActions r id
  | [] =>
    if decide (8192 ≤ s.twHeld.length) then s.recDropped else
    match s.entries (fun o => (o.state == obOpen || o.state == obWait) && same o) with
    | e :: _ => { s with twHeld := s.twHeld ++ [⟨r, s.ns, some e⟩] }
    | [] => if (lowestFree s.objs 0).isNone then s.recDropped else { s with twHeld := s.twHeld ++ [⟨r, s.ns, none⟩] }

/-- A trigger entry is taken over (R407). -/
def State.alignTrig (s : State) (b : List (BitVec 8)) : State :=
  let q := leAt b 0 1 % 32
  let seq := leAt b 2 2
  let t := signed 64 (leAt b 4 8)
  let ring := (s.port q).trigRing
  match ring.findIdx? (fun e => decide ((e.2 - t).natAbs ≤ 4)) with
  | some i =>
    let ring' := ring.zipIdx.map (fun e => if e.2 ≤ i then ((seq + (i - e.2)) % 65536, e.1.2) else e.1)
    let s := s.setPort q { s.port q with trigRing := ring' }
    { s.wrN (R.ACT_TRIG_NEXT q) ((seq + i + 1) % 65536) with twAlign := s.twAlign.filter (· != q) }
  | none => { s.twErr 7 with twAlign := insertNat q s.twAlign }

/-- MIRROR_ACK leaves (R405). -/
def State.sendAck (s : State) (c : Nat) : State :=
  s.twinSend 0x12 (leBytes 4 c ++ leBytes 1 (1 + 2 * b2n (s.twOn F.TWIN_TSTAT_SYNCED)) ++ leBytes 3 0)

/-- A CYCLE_END that does not fit (R405). -/
def State.cycleLost (s : State) : State :=
  let s := ({ s with twIn := [], twDump := false }.cnt R.TWIN_CYCLES_LOST).twErr 5
  (s.setSynced false).resyncReq

/-- CYCLE_END_RX (R405 to R407). A dump covers the records received last; records of the cycle in progress that came before it stay. -/
def cycleEndRx (q : Nat) (p : Pkt) (s : State) : State :=
  s.twinRx 0x11 q p (fun b s =>
    let c := leAt b 0 4
    let n := leAt b 4 2
    let dump := leAt b 6 1 % 2 == 1
    let recs := if dump then s.twIn.drop (s.twIn.length - n) else s.twIn
    let good := recs.length == n && (crc32c (recs.map DecRec.bytes).flatten).toNat == leAt b 8 4
      && (dump || (match s.twCycle with | some k => c == (k + 1) % 2 ^ 32 | none => false))
    if !good then s.cycleLost else
    let s := { s with twIn := if dump then s.twIn.take (s.twIn.length - n) else [], twCycle := some c }
    let s := recs.foldl (fun s r => s.applyRec r) s
    let s := s.wrN R.TWIN_MIRROR_SEQ c
    let s := { s with twDseq := (leAt b 12 4, s.rdN R.MORAINE_DSEQ) }
    let arm := leAt b 6 1 / 2 % 2 == 1
    let s := if arm && !s.armed then s.arm else if !arm && s.armed then s.disarm else s
    let s := times (leAt b 7 1 % 64) (fun i s => s.alignTrig ((b.drop (24 + 12 * i)).take 12)) s
    let s := if dump then { s with twDump := true } else if s.twDump then { s with twDump := false }.setSynced true else s
    (s.sendAck c).cnt R.TWIN_CYCLES_APPLIED)

/-- RESYNC_REQ_RX (R405): a dump of the DECIDED entries, and a descriptor read on every camera port. -/
def resyncReqRx (q : Nat) (p : Pkt) (s : State) : State :=
  s.twinRx 0x14 q p (fun _ s =>
    let recs := (s.entries (fun o => o.state == obDecided && decide (s.ns < o.retireAt))).map (fun e => (s.obj e).decRec e)
    let s := (pieces 32 recs.length recs).foldl (fun s g => s.twinSend 0x10 (g.map DecRec.bytes).flatten) s
    let s := s.sendCycleEnd (s.twCycle.getD (s.rdN R.TWIN_MIRROR_SEQ)) recs true s.ns
    times 32 (fun q s => s.when (s.role q == 1 && (s.pst q == psLinked || s.pst q == psRun)) (portRediscover q)) s)

/-- CHECK_RX (R408). -/
def checkRx (q : Nat) (p : Pkt) (s : State) : State :=
  s.twinRx 0x13 q p (fun b s =>
    let es : List PeerBlk := (List.range (b.length / 16)).map (fun i =>
      let e := b.drop (16 * i)
      ⟨leAt e 0 1 % 4, leAt e 2 2 % 16, leAt e 4 4, BitVec.ofNat 32 (leAt e 8 4), leAt e 12 4, s.ns⟩)
    { s with peerBlks := s.peerBlks ++ es }.compareBlks)

/-- USER_RX (R401). -/
def userRx (q : Nat) (p : Pkt) (s : State) : State :=
  s.twinRx 0x02 q p (fun b s =>
    let s := times (b.length / 4) (fun i s => s.wrN (R.TWIN_USER_RX i) (leAt b (4 * i) 4)) s
    (s.wr R.TWIN_USER_STAT (seqBump (s.rd R.TWIN_USER_STAT))).fire 39)

/-- CHECK_BLOCK_TIMEOUT (R408): on the standby, blocks closed on one device only for 10 ms. -/
def checkBlockTimeout (s : State) : State :=
  if s.twRole != roStandby then s else
  let late (t : Int) : Bool := decide (t + 10000000 ≤ s.ns)
  let own := s.checkBlks.filter (fun b => match b.closed with | some t => late t | none => false)
  let peer := s.peerBlks.filter (fun b => late b.since)
  let s := { s with checkBlks := s.checkBlks.filter (fun b => !own.contains b), peerBlks := s.peerBlks.filter (fun b => !peer.contains b) }
  times (own.length + peer.length) (fun _ s => s.mismatch) s

/-- The entry that a record is inserted as (R406): what a record does not carry the spec leaves open. -/
def State.recObj (s : State) (r : DecRec) (e : Nat) : Obj :=
  let f (i : Nat) : Nat := (Config.freeValue (s.freeIx + i)).toNat
  let side : OSide := { view := r.view, colMin := r.colMin, colMax := r.colMax, area := f 0 % 2 ^ 32, last := Config.freeValue (s.freeIx + 1) }
  let b := s.mvF (R.MVIEW_VCTL r.view) F.MVIEW_VCTL_ROLE_B == 1
  let tag (i : Nat) : OTag :=
    ⟨decide (i < r.ntags), f (2 + i) % 16, b, f (2 + i) / 16 % 32, f (2 + i) / 512 % 65536, r.frame, r.line, r.time⟩
  { gen := ((s.obj e).gen + 1) % 0x10000, state := obDecided, a := if b then none else some side, b := if b then some side else none,
    fused := r.fused, pMissed := r.pMissed, verdict := r.verdict, dflt := r.dflt, rule := r.rule, frame := r.frame, line := r.line,
    time := r.time, frags := f 5 % 65536, eject := r.eject, vFirst := r.vFirst, vLast := r.vLast, clipped := r.clipped,
    clamped := r.clamped, handed := r.handed, feat := [f 6 % 2 ^ 32, f 7 % 2 ^ 32, f 8 % 2 ^ 32, f 9 % 2 ^ 32],
    tags := [tag 0, tag 1, tag 2], pulse := r.pulse, dseq := r.dseq }

/-- MATCH_WAIT_EXPIRY (R406): the oldest unmatched record held MATCH_WAIT µs is inserted or dropped, and a standby decision that no record
has matched in that time keeps its own values. -/
def matchWaitExpiry (s : State) : State :=
  let w : Int := ((s.rdN R.TWIN_MATCH_WAIT * 1000 : Nat) : Int)
  let old := s.twShadow.filter (fun x => decide (x.2 + w ≤ s.ns))
  let s := { s with twShadow := s.twShadow.filter (fun x => !decide (x.2 + w ≤ s.ns)) }.cntN R.TWIN_SHADOW_ONLY old.length
  match s.twHeld.find? (fun h => h.entry.isNone && decide (h.since + w ≤ s.ns)) with
  | none => s
  | some h =>
    let s := { s with twHeld := erase1 h s.twHeld }
    match lowestFree s.objs 0 with
    | none => s.recDropped
    | some e =>
      let o := s.recObj h.r e
      let s := { (s.setObj e o).objCount with freeIx := s.freeIx + 10 }
      (s.cnt R.TWIN_REC_INSERTED).recActions h.r (o.objId e)

/-! Register writes with a range (R415). -/

def mirrorPeriodWrite (v : Word) (s : State) : State :=
  let n := v.toNat % 1024
  if decide (50 ≤ n) && decide (n ≤ 1000) then s.wrN R.TWIN_MIRROR_PERIOD n else s.twErr 0

def matchWaitWrite (v : Word) (s : State) : State :=
  let n := v.toNat % 65536
  if 100 ≤ n then s.wrN R.TWIN_MATCH_WAIT n else s.twErr 0

def userCtlWrite (v : Word) (s : State) : State :=
  let n := v.toNat % 32
  if decide (1 ≤ n) && decide (n ≤ 16) then s.wrN R.TWIN_USER_CTL n else s.twErr 0

end Sys2Proof.Machine
end

