-- ==== Sys2Proof/Machine/Reset.lean ====
section
/-! DEFINITION. Resets and supplies (R22, R397, R421 to R424, R433 to R435): reset causes, the island's and the main domain's resets and
releases, supply supervision, temperature samples, the error record's clears. -/

namespace Sys2Proof.Machine

/-- Sets bits of RESET_CAUSE (R434). -/
def State.resetCause (s : State) (n : Nat) : State := s.sf R.SUP_RESET_CAUSE (bit n) 1

/-- R397: an ACTIVE or STANDBY device releases ACT_OUT, sends FAREWELL on path 2 and becomes UNPAIRED; its heartbeats stop. -/
def State.twinRelease (s : State) : State :=
  if s.twRole < roActive then s else
  let s := (s.setActOut false).hbPath2 roUnpaired true
  { s.sf R.TWIN_TSTAT F.TWIN_TSTAT_ROLE roUnpaired with settleAt := none, hbStop := true }

/-- The main domain enters reset with a cause (R433, R434). -/
def State.assertMain (s : State) (cause : Nat) : State :=
  let s := s.resetCause cause
  if s.mainReset then s else
  let s := { s with mainReset := true }.twinRelease
  (s.mainCleared).sf R.GUARD_GSTAT F.GUARD_GSTAT_MAIN_IN_RESET 1

/-- Both domains enter power-on reset (R433, R434): every register at its reset value, POWER_ON the only cause. -/
def State.assertPor (s : State) : State :=
  let t : State :=
    { pending := s.pending, outbox := s.outbox, cyc := s.cyc, mainReset := true, hold := s.hold, freeIx := s.freeIx,
      fuses := s.fuses, jtagDis := s.jtagDis, jtagIr := s.jtagIr, fuseSel := s.fuseSel, fuseData := s.fuseData, bscan := s.bscan,
      railLow := s.railLow }
  (t.wr R.SUP_RESET_CAUSE 0x80)

/-- The island leaves power-on reset once both of its sources have ended (R392, R434, R435): TWIN_ID is sampled, the guardian cores run
their island ROMs and wait. -/
def State.islandRelease (s : State) (twinId : Bool) : State :=
  if s.inPor then s else
  let s := { s with porCyc := s.cyc, jtagDis := (SMap.get (fun _ => (0 : Word)) s.fuses 0).getLsbD 5 }
  let s := s.sf R.TWIN_TSTAT F.TWIN_TSTAT_TWIN_ID (b2n twinId)
  let run := s.gf R.GUARD_GCTL F.GUARD_GCTL_RUN
  s.wrN R.GUARD_GSTAT (run + 4 * run + 16 + 32 * run)

/-- POR_N goes low (R434). -/
def porAssert (s : State) : State := { s with hold := { s.hold with por := true } }.assertPor

/-- POR_N is released (R434). -/
def porRelease (twinId : Bool) (s : State) : State :=
  if s.hold.por then { s with hold := { s.hold with por := false } }.islandRelease twinId else s

/-- RESET_N held low for 1 µs (R434). -/
def resetNAssert (s : State) : State :=
  if s.inPor then { s with hold := { s.hold with pin := true } }
  else { s with hold := { s.hold with pin := true } }.assertMain 4

/-- RESET_N is released. -/
def resetNRelease (s : State) : State := { s with hold := { s.hold with pin := false } }

/-- The debug module's reset (R434), unless JTAG_DIS disables it. -/
def debugReset (s : State) : State := if s.jtagDis || s.inPor then s else s.assertMain 5

/-- A write of RST_REQ (R446): taken only with GO and the KEY. -/
def rstReq (v : Word) (s : State) : State :=
  if F.QSPI_RST_REQ_GO.get v == 1 && F.QSPI_RST_REQ_KEY.get v == 0xb007 then s.assertMain 6 else s

/-- ROOT_PLL_LOSS (R22): recorded as a SYS error, then the main domain resets. -/
def rootPllLoss (s : State) : State := if s.inPor then s else (s.record ⟨0, 3, 0, 0⟩ 0 0).assertMain 3

/-- The fuse fields of BOOT_STAT (R446): SECURE, JTAG_DIS, KEY_REVOKE, the number of SVN bits set. -/
def State.bootStat (s : State) (mode : Nat) : Nat :=
  let w (i : Nat) : Word := SMap.get (fun _ => (0 : Word)) s.fuses i
  let ones (x : Word) : Nat := ((List.range 32).filter (fun i => x.getLsbD i)).length
  mode % 4 + 4 * b2n ((w 0).getLsbD 0) + 8 * b2n ((w 0).getLsbD 5) + 16 * ((w 0).toNat / 2 % 16) + 256 * (ones (w 1) + ones (w 2))

/-- MAIN_RESET_RELEASE (R434, R435, R368, R417): once no source is active. The straps are sampled, every register takes its reset
value, every calibration domain is triggered, hart 0 starts; under BOOT_MODE 3 it halts in debug mode. -/
def mainResetRelease (bootMode : Nat) (s : State) : State :=
  let h := s.hold
  if !s.mainReset || h.por || h.feeds || h.pin || h.coreUv || h.sramUv then s else
  let s := { s.mainCleared with mainReset := false, hbStop := false, calWant := calAll }
  let s := s.sf R.GUARD_GSTAT F.GUARD_GSTAT_MAIN_IN_RESET 0
  let s := s.wrN R.QSPI_BOOT_STAT (s.bootStat bootMode)
  if bootMode % 4 == 3 then s.sf R.SYS_CORE_STAT F.SYS_CORE_STAT_DEBUG 1 else s

/-! Supply supervision (R423, R424). Levels are in mV. -/

/-- A sticky bit of SERR (R425): SUP has no fault source. -/
def State.supErr (s : State) (b : Nat) : State :=
  if s.on R.SUP_SERR (bit b) then s else (s.sf R.SUP_SERR (bit b) 1).record ⟨2, 0, 0, 0⟩ b 0

def State.vcore (s : State) (mv : Nat) : State := s.sf R.SUP_SSTAT F.SUP_SSTAT_VCORE_MV mv
def State.warnLevel (s : State) : Nat := 680 + 5 * s.gf R.SUP_SCTL F.SUP_SCTL_WARN

/-- VDD_CORE below WARN for 1 µs (R423). -/
def vddCoreWarn (mv : Nat) (s : State) : State :=
  let s := s.vcore mv
  if s.on R.SUP_SSTAT F.SUP_SSTAT_WARN_NOW || decide (s.warnLevel ≤ mv) then s else
  (((s.sf R.SUP_SSTAT F.SUP_SSTAT_WARN_NOW 1).supErr 0).cnt R.SUP_WARNS).fire 8

/-- VDD_CORE at or above WARN + 10 mV for 1 µs (R423). -/
def vddCoreWarnClear (mv : Nat) (s : State) : State :=
  let s := s.vcore mv
  if s.warnLevel + 10 ≤ mv then s.sf R.SUP_SSTAT F.SUP_SSTAT_WARN_NOW 0 else s

/-- VDD_CORE below 0.665 V for 1 µs (R423). -/
def vddCoreUv (mv : Nat) (s : State) : State :=
  let s := s.vcore mv
  if decide (665 ≤ mv) || s.inPor then s else
  let s := { s with hold := { s.hold with coreUv := true } }
  ((s.supErr 1).when (!s.mainReset) (·.cnt R.SUP_CORE_RESETS)).assertMain 0

/-- VDD_SRAM below 0.720 V for 1 µs (R423). -/
def vddSramUv (s : State) : State :=
  if s.inPor then s else
  let s := { s with hold := { s.hold with sramUv := true } }
  ((s.supErr 1).when (!s.mainReset) (·.cnt R.SUP_CORE_RESETS)).assertMain 1

/-- The core supplies have been at or above their release levels for 1 ms (R423). -/
def mainSupplyRelease (s : State) : State := { s with hold := { s.hold with coreUv := false, sramUv := false } }

/-- VDD_SD (0), VDD_SDH (1) or VDD_MIO (2) below 90 % (R423). -/
def railLow (r : Nat) (s : State) : State :=
  if s.railLow.getD r false then s else
  let s := { s with railLow := s.railLow.set r true }
  if s.on R.SUP_SERR (bit (6 + r)) then s else (s.supErr (6 + r)).fire 10

/-- The rail is at or above 92 % (R423). -/
def railLowClear (r : Nat) (s : State) : State := { s with railLow := s.railLow.set r false }

/-- An OK bit of a feed falls (R423, R429, R430). -/
def State.feedLost (s : State) (ok lost : Nat) : State :=
  if !s.on R.SUP_SSTAT (bit ok) then s.supErr lost else
  (((s.sf R.SUP_SSTAT (bit ok) 0).supErr lost).cnt R.SUP_FEED_LOSSES).fire 11

/-- An OK bit of a feed rises. -/
def State.feedOk (s : State) (ok : Nat) : State :=
  if s.on R.SUP_SSTAT (bit ok) then s else (s.sf R.SUP_SSTAT (bit ok) 1).fire 11

/-- VDD_AON_A or VDD_AON_B below 0.720 V (R423). -/
def aonFeedLow (x : Nat) (s : State) : State := if s.inPor then s else s.feedLost (1 + x) (2 + x)

/-- VDD_AON_A or VDD_AON_B at or above 0.740 V (R423); once for 1 ms it ends the power-on reset of a loss of both feeds. -/
def aonFeedOk (x : Nat) (oneMs twinId : Bool) (s : State) : State :=
  let s := if s.hold.feeds && oneMs then { s with hold := { s.hold with feeds := false } }.islandRelease twinId else s
  if s.inPor then s else s.feedOk (1 + x)

/-- FEED_SENSE_A or FEED_SENSE_B below FEED_THR (R423). -/
def feedSenseLow (x mv : Nat) (s : State) : State :=
  if s.inPor || decide (500 + 10 * s.gf R.SUP_SCTL F.SUP_SCTL_FEED_THR ≤ mv) then s else s.feedLost (3 + x) (4 + x)

/-- FEED_SENSE_A or FEED_SENSE_B at or above FEED_THR + 10 mV (R423). -/
def feedSenseOk (x mv : Nat) (s : State) : State :=
  if s.inPor || decide (mv < 510 + 10 * s.gf R.SUP_SCTL F.SUP_SCTL_FEED_THR) then s else s.feedOk (3 + x)

/-- Both always-on feeds below 0.650 V for 1 µs (R423). -/
def bothAonFeedsLost (s : State) : State := { s with hold := { s.hold with feeds := true } }.assertPor

/-- A write of SCTL (R430): a code out of range is ignored. -/
def sctlWrite (v : Word) (s : State) : State :=
  let w := F.SUP_SCTL_WARN.get v
  let f := F.SUP_SCTL_FEED_THR.get v
  let s := if w ≤ 11 then s.sf R.SUP_SCTL F.SUP_SCTL_WARN w else s
  if f ≤ 8 then s.sf R.SUP_SCTL F.SUP_SCTL_FEED_THR f else s

/-! Temperature (R416, R417, R421, R422). -/

/-- A die temperature as a signed number of quarter degrees. -/
def State.dieTemp (s : State) (i : Nat) : Int := signed 16 (s.gf (R.CAL_TEMP i) ⟨0, 16⟩)

/-- Does a reading differ by more than 20 °C from those of its two nearest sensors (R421)? -/
def State.sensorOff (s : State) (i : Nat) (q : Int) : Bool :=
  (List.range 2).all (fun k =>
    let n := (Config.nearSensor i k).toNat
    s.on (R.CAL_TEMP n) (bit 31) && decide (80 < (q - s.dieTemp n).natAbs))

/-- TEMP_SAMPLE (R416, R417, R421, R422): a reading of sensor `i` in quarter degrees. -/
def tempSample (i : Nat) (reading : BitVec 16) (valid : Bool) (s : State) : State :=
  let q := reading.toInt
  let s := s.wrN (R.CAL_TEMP i) (reading.toNat + 0x80000000 * b2n valid)
  if !valid then s.calErr 2 else
  let fail := s.sensorOff i q
  let s := s.when fail (·.calErr 2)
  let last := s.rd (R.CAL_LAST_TEMP i)
  let d : Int := q - signed 16 last.toNat
  let s := s.when (!fail && last.getLsbD 31 && decide (4 * s.gf R.CAL_CCTL F.CAL_CCTL_TCAL_DELTA < d.natAbs)
    && s.on R.CAL_CCTL F.CAL_CCTL_EN && s.on R.CAL_CCTL (bit (16 + i))) (·.calTrigger i)
  let s := if 4 * signed 8 (s.rdN R.CAL_TEMP_ALARM) ≤ q then (s.supErr 9).fire 12 else s
  if 500 ≤ q then s.assertMain 2 else s

/-- A write of CCTL (R431): a TCAL_DELTA outside 2 to 30 is ignored. -/
def cctlWrite (v : Word) (s : State) : State :=
  let t := F.CAL_CCTL_TCAL_DELTA.get v
  let old := s.gf R.CAL_CCTL F.CAL_CCTL_TCAL_DELTA
  s.wr R.CAL_CCTL (F.CAL_CCTL_TCAL_DELTA.put (v &&& 0x00ff1f01) (if decide (2 ≤ t) && decide (t ≤ 30) then t else old))

/-! The error record (R428). -/

/-- A block's sticky bit and its capture are cleared. -/
def State.clearBlock (s : State) (b : Nat) : State :=
  (s.sf R.ERRLOG_BLOCK_STICKY (bit b) 0).sf (R.ERRLOG_FINFO b) F.ERRLOG_FINFO_VALID 0

/-- BLOCK_STICKY_CLEAR (R428). -/
def blockStickyClear (v : Word) (s : State) : State := times 32 (fun b s => if v.getLsbD b then s.clearBlock b else s) s

/-- ECMD.CLEAR (R428). -/
def errlogClear (s : State) : State := (times 32 (fun b s => s.clearBlock b) s).wr R.ERRLOG_GERR 0

end Sys2Proof.Machine
end

