-- ==== Sys2Proof/Machine/Boot.lean ====
section
/-! DEFINITION. Boot (R436 to R441): images, the boot ROM, the boot record and the island ROM. -/

namespace Sys2Proof.Machine

/-! Fuses (R436, R474). -/

def State.fuseWord (s : State) (i : Nat) : Word := SMap.get (fun _ => 0#32) s.fuses i
def State.secure (s : State) : Bool := (s.fuseWord 0).getLsbD 0
def State.revoked (s : State) (k : Nat) : Bool := (s.fuseWord 0).getLsbD (1 + k)

/-- The fused minimum version: the number of SVN bits set. -/
def State.svn (s : State) : Nat :=
  ((List.range 32).filter (fun i => (s.fuseWord 1).getLsbD i)).length + ((List.range 32).filter (fun i => (s.fuseWord 2).getLsbD i)).length

/-- KEY_HASH[k], 32 bytes. -/
def State.keyHash (s : State) (k : Nat) : List (BitVec 8) := (List.range 8).flatMap (fun i => leBytes 4 (s.fuseWord (8 + 8 * k + i)).toNat)

/-! Images (R437, R438). -/

/-- An image: its header and sections. -/
structure Img where
  hdr : List (BitVec 8)
  app : List (BitVec 8)
  g0 : Option (List (BitVec 8))
  g1 : Option (List (BitVec 8))
deriving DecidableEq, Repr

/-- Takes `n` bytes off a list, if it holds them. -/
def takeN (n : Nat) (bs : List (BitVec 8)) : Option (List (BitVec 8) × List (BitVec 8)) :=
  if n ≤ bs.length then some (bs.take n, bs.drop n) else none

/-- The section of a guardian core, present under its flag. -/
def takeSection (has : Bool) (n : Nat) (bs : List (BitVec 8)) : Option (Option (List (BitVec 8)) × List (BitVec 8)) :=
  if has then (takeN n bs).map (fun x => (some x.1, x.2)) else some (none, bs)

/-- The image at the head of what a slot holds; none when it cannot be read. -/
def imgOf (bs : List (BitVec 8)) : Option Img :=
  match takeN 256 bs with
  | none => none
  | some (h, r) =>
    match takeN (leAt h 12 4) r with
    | none => none
    | some (app, r) =>
      match takeSection (leAt h 7 1 % 2 == 1) (leAt h 32 4) r with
      | none => none
      | some (g0, r) =>
        match takeSection (leAt h 7 1 / 2 % 2 == 1) (leAt h 36 4) r with
        | none => none
        | some (g1, _) => some ⟨h, app, g0, g1⟩

def Img.load (i : Img) : Nat := leAt i.hdr 16 5
def Img.entry (i : Img) : Nat := leAt i.hdr 24 5
def Img.svn (i : Img) : Nat := leAt i.hdr 8 4
def Img.key (i : Img) : Nat := leAt i.hdr 6 1 % 4

/-- Check 1: MAGIC, VERSION, the reserved bytes. -/
def Img.headerOk (i : Img) : Bool :=
  leAt i.hdr 0 4 == 0x42394745 && leAt i.hdr 4 2 == 1
    && ((i.hdr.drop 40).take 24 ++ (i.hdr.drop 128).take 32 ++ (i.hdr.drop 224).take 32).all (· == 0)

/-- Check 2: the span of APP and its entry; a guardian section fits its staging area (R437, R440). -/
def Img.boundsOk (i : Img) : Bool :=
  let e := i.load + i.app.length
  decide (0x08000000 ≤ i.load) && decide (e ≤ 0x087d0000) && decide (i.load ≤ i.entry) && decide (i.entry < e)
    && decide ((i.g0.getD []).length ≤ 65536) && decide ((i.g1.getD []).length ≤ 65536)

/-- SIG under PUBKEY over the SHA-256 of header bytes 0 to 159 and all sections. -/
def Img.sigOk (i : Img) : Bool :=
  let k := i.hdr.drop 64
  let sg := i.hdr.drop 160
  ecVerify (bigNat (k.take 32), bigNat ((k.drop 32).take 32)) (bigNat (sg.take 32)) (bigNat ((sg.drop 32).take 32))
    (sha256 (i.hdr.take 160 ++ i.app ++ i.g0.getD [] ++ i.g1.getD []))

/-- The failure code of an image (R438, R440): 0 accepted, 2 header, 3 bounds, 4 key, 5 revoked, 6 version, 7 signature. -/
def State.imgFail (s : State) (i : Img) : Nat :=
  if !i.headerOk then 2
  else if !i.boundsOk then 3
  else if !s.secure then 0
  else if sha256 ((i.hdr.drop 64).take 64) != s.keyHash i.key || (s.keyHash i.key).all (· == 0) then 4
  else if s.revoked i.key then 5
  else if i.svn < s.svn then 6
  else if i.sigOk then 0 else 7

/-- APP at APP_LOAD and the guardian sections in the boot region (R439, R440). -/
def State.stage (s : State) (i : Img) : State :=
  ((s.memPut i.load i.app).1.memPut 0x087d0000 (i.g0.getD [])).1.memPut 0x087e0000 (i.g1.getD []) |>.1

/-- What the ROM knows of the slots it has tried: which, and their failure codes (R440). -/
structure BootTry where
  triedA : Bool := false
  triedB : Bool := false
  failA : Nat := 0
  failB : Nat := 0
deriving DecidableEq, Repr

def BootTry.note (t : BootTry) (slot code : Nat) : BootTry :=
  if slot == 0 then { t with triedA := true, failA := code } else { t with triedB := true, failB := code }

/-- The boot record (R440). -/
def State.bootRecord (s : State) (t : BootTry) (result slot svn us : Nat) : State :=
  let st := s.rdN R.QSPI_BOOT_STAT
  Prod.fst <| s.memPut 0x087ff000 (leBytes 4 0x52454742 ++ leBytes 1 (result + 4 * slot + 16 * b2n t.triedA + 32 * b2n t.triedB)
    ++ leBytes 1 (t.failA + 16 * t.failB) ++ leBytes 1 (st % 256) ++ leBytes 1 (st / 256 % 128) ++ leBytes 4 svn
    ++ leBytes 4 (s.rdN R.SUP_RESET_CAUSE) ++ leBytes 4 us ++ List.replicate 44 0)

/-- The section of guardian core `g` is handed on while its ROM_WAIT bit reads 1 (R439, R441). -/
def State.handOn (s : State) (g : Nat) (x : Option (List (BitVec 8))) : State :=
  match x with
  | some b =>
    if !s.romWait g then s else
    let d := sha256 b
    let s := (s.wrN (R.GUARD_MBOX_IN (4 * g)) (0x087d0000 + 0x10000 * g)).wrN (R.GUARD_MBOX_IN (4 * g + 1)) b.length
    doorbell g ((s.wrN (R.GUARD_MBOX_IN (4 * g + 2)) (leNat (d.take 4))).wrN (R.GUARD_MBOX_IN (4 * g + 3)) (leNat ((d.drop 4).take 4)))
  | none => s

/-- An accepted image is run (R439, step 4). -/
def State.runImage (s : State) (t : BootTry) (i : Img) (slot us : Nat) : State :=
  let s := ((s.stage i).handOn 0 i.g0).handOn 1 i.g1
  let s := s.bootRecord t (if s.secure || i.sigOk then 0 else 1) slot i.svn us
  let s := (s.wrN R.SYS_BOOT_ADDR_LO (i.entry / 4 * 4)).wrN R.SYS_BOOT_ADDR_HI (i.entry / 0x100000000)
  { s.wr R.SYS_PROT_LOCK 1 with booted := true }.emit (.hartStart 0 i.entry)

/-- One slot: the image runs, or its failure code is noted. A refused image has been copied when its bounds hold. -/
def State.trySlot (s : State) (t : BootTry) (slot us : Nat) (x : Option (List (BitVec 8))) : State × BootTry :=
  match x.bind imgOf with
  | none => (s, t.note slot 1)
  | some i =>
    let f := s.imgFail i
    let t := t.note slot f
    if f == 0 then (s.runImage t i slot us, t) else (if 4 ≤ f then s.stage i else s, t)

/-- Text as the UART sends it. -/
def textBytes (x : List Nat) : List (BitVec 8) := x.map (BitVec.ofNat 8)

/-- UART recovery (R439): "EG9?", then one image. -/
def State.recovery (s : State) (t : BootTry) (us : Nat) (uart : Option (List (BitVec 8))) : State :=
  let s := (s.sf (R.UART_UCTL 0) F.UART_UCTL_EN 1).emit (.bootText (textBytes [0x45, 0x47, 0x39, 0x3f]))
  match uart.bind imgOf with
  | some i => if s.imgFail i == 0 then s.runImage t i 2 us else s
  | none => s

/-- The flash controller's registers after the ROM has read the flash (R439): QSPI_CLK as step 1 sets it; what the transactions leave in the
others is open. -/
def State.romFlash (s : State) (sfdp long : Bool) : State :=
  let s := s.wrN R.QSPI_QCTL ((if sfdp then 1 else 7) + 256 * b2n (sfdp && long))
  let put (a m : Nat) (s : State) : State := (s.wr a ((s.free.setWidth 32) &&& BitVec.ofNat 32 m)).freeNext
  let s := put R.QSPI_QLEN 0x1ff (put R.QSPI_QADDR 0xffffffff (put R.QSPI_QOP 0x7ffff s))
  let s := times 64 (fun i s => put (R.QSPI_QDATA i) 0xffffffff s) s
  put R.QSPI_QSTAT 0x8000ffff s

/-- BOOT_ROM_RUN (R439): what the slots hold (none: a read fails), the image that comes over UART[0], whether the flash has a parameter
header and 4-byte addresses, and the microseconds to the jump. -/
def bootRomRun (slotA slotB uart : Option (List (BitVec 8))) (sfdp long : Bool) (us : Nat) (s : State) : State :=
  let mode := s.gf R.QSPI_BOOT_STAT F.QSPI_BOOT_STAT_BOOT_MODE
  if !s.hartRuns 0 || s.hartDebug 0 || s.booted || mode == 3 then s
  else if mode == 2 then s.recovery {} us uart
  else
    let s := s.romFlash sfdp long
    let first := mode
    let x := s.trySlot {} first us (if first == 0 then slotA else slotB)
    if x.1.booted then x.1 else
    let y := x.1.trySlot x.2 (1 - first) us (if first == 0 then slotB else slotA)
    if y.1.booted then y.1 else
    let code := if first == 0 then y.2.failB else y.2.failA
    let s := y.1.bootRecord y.2 2 (1 - first) 0 0
    let s := s.emit (.bootText (textBytes [0x45, 0x47, 0x39, 0x20, 0x42, 0x4f, 0x4f, 0x54, 0x20, 0x46, 0x41, 0x49, 0x4c, 0x30 + code]))
    s.recovery y.2 us uart

/-- ISLAND_ROM_LOAD (R441): a waiting guardian core that has been rung takes its section. -/
def islandRomLoad (g : Nat) (s : State) : State :=
  if s.mainReset || !s.guardRuns g || !s.romWait g || !(s.gBell.getD g false) then s else
  let s := { s with gBell := s.gBell.set g false }
  let a := s.rdN (R.GUARD_MBOX_IN (4 * g))
  let n := s.rdN (R.GUARD_MBOX_IN (4 * g + 1))
  let want := leBytes 4 (s.rdN (R.GUARD_MBOX_IN (4 * g + 2))) ++ leBytes 4 (s.rdN (R.GUARD_MBOX_IN (4 * g + 3)))
  let ok := s.memOk a (max n 1)
  let x := if ok then s.cohRead a n else (s.missErr a, true)
  let s := x.1.keepIsland s
  let b := x.1.cohBytes a n
  if decide (n ≤ 65536) && !x.2 && (sha256 b).take 8 == want then
    let s := (s.setBit R.GUARD_GSTAT ⟨5, 2⟩ g false).setBit R.GUARD_GSTAT ⟨2, 2⟩ g false
    { s with guardMem := b.zipIdx.foldl (fun m e => SMap.set (fun _ => 0) m (65536 * g + e.2) e.1) s.guardMem }
  else (s.wrN (R.GUARD_MBOX_OUT 0) (0xdead0000 + g)).fire 50

end Sys2Proof.Machine
end

