-- ==== Sys2Proof/Machine/ExecBringUp.lean ====
section
/-! DEFINITION. The meanings of the commands of this family: the domain each belongs to, the units it names, and its effect. -/

namespace Sys2Proof.Machine

/-- BOOT_ROM_RUN (R439). -/
def execBootRomRun (slotA slotB uart : Option (List (BitVec 8))) (sfdp long : Bool) (us : Nat) (s : State) : Out :=
  onMain true s (bootRomRun slotA slotB uart sfdp long us)

/-- ISLAND_ROM_LOAD (R441). -/
def execIslandRomLoad (g : Nat) (s : State) : Out := onGuard (g < 2) s (islandRomLoad g)

end Sys2Proof.Machine
end

