-- ==== Sys2Proof/Machine/Dma.lean ====
section
/-! DEFINITION. DMA (R309 to R320, R335, R336): commands of a channel, descriptors, chains, doorbells, abort, halt and
residue. The moves of elements stand in DmaMove. -/

namespace Sys2Proof.Machine

def State.dma (s : State) (c : Nat) : DmaX := s.dmas.get (fun _ => {}) c
def State.setDma (s : State) (c : Nat) (x : DmaX) : State := { s with dmas := SMap.set (fun _ => {}) s.dmas c x }

/-- Channel c's error register in the error record; its rising bits fire HALT (R335). -/
def siteDma (c : Nat) : Site := ⟨8, 0, c, 1041 + 2 * c⟩
def State.dmaErr (s : State) (c b : Nat) : State := s.raise (R.DMA_CH_ERR c) b (siteDma c)

/-! The states of CH_STAT.STATE (R317). -/
def dmIdle : Nat := 0
def dmRunning : Nat := 1
def dmParked : Nat := 2
def dmAborting : Nat := 3
def dmHalted : Nat := 4

def State.dst (s : State) (c : Nat) : Nat := s.gf (R.DMA_CH_STAT c) F.DMA_CH_STAT_STATE
def State.setDst (s : State) (c st : Nat) : State := s.sf (R.DMA_CH_STAT c) F.DMA_CH_STAT_STATE st

/-- Is an address in a block window (R309)? -/
def inBlocks (a : Nat) : Bool := decide (0x40000000 ≤ a) && decide (a < 0x59000000)

/-- CUR: the address of the descriptor that the channel works on. -/
def State.dmaCur (s : State) (c : Nat) : Nat := s.rd64N (R.DMA_CUR_LO c) (R.DMA_CUR_HI c) % 2 ^ 40
def State.setDmaCur (s : State) (c a : Nat) : State := s.wr64 (R.DMA_CUR_LO c) (R.DMA_CUR_HI c) (BitVec.ofNat 64 a)

/-! Descriptors (R310, R311, R312). -/

/-- The descriptor in 64 bytes. -/
def descOf (b : List (BitVec 8)) : DmaDesc :=
  { ctl := leAt b 0 2, src := leAt b 16 8, dst := leAt b 24 8, c0 := leAt b 32 2, c1 := leAt b 34 2, c2 := leAt b 36 2,
    ss := [signed 32 (leAt b 40 4), signed 32 (leAt b 44 4), signed 32 (leAt b 48 4)],
    ds := [signed 32 (leAt b 52 4), signed 32 (leAt b 56 4), signed 32 (leAt b 60 4)] }

/-- The element size in bytes. -/
def DmaDesc.size (d : DmaDesc) : Nat := 2 ^ (d.ctl % 8)
def DmaDesc.evt (d : DmaDesc) : Bool := d.ctl / 16 % 2 == 1
def DmaDesc.wb (d : DmaDesc) : Bool := d.ctl / 32 % 2 == 1
def DmaDesc.total (d : DmaDesc) : Nat := d.c0 * d.c1 * d.c2

/-- A bad descriptor (R312); `next` is its NEXT word. -/
def DmaDesc.bad (d : DmaDesc) (next : Nat) : Bool :=
  d.ctl % 8 == 7 || d.c0 == 0 || d.c1 == 0 || d.c2 == 0
    || d.src % d.size != 0 || d.dst % d.size != 0 || (d.ss ++ d.ds).any (fun x => x % (d.size : Int) != 0)
    || d.ctl / 64 != 0 || next / 2 % 32 != 0 || decide (2 ^ 40 ≤ next) || decide (2 ^ 40 ≤ d.src) || decide (2 ^ 40 ≤ d.dst)

/-- The loop indices of element `n` (R311). -/
def DmaDesc.ks (d : DmaDesc) (n : Nat) : Nat × Nat × Nat := (n % d.c0, n / d.c0 % d.c1, n / (d.c0 * d.c1))

/-- An address of element `n` from a base and three strides (R311), in 40 bits. -/
def DmaDesc.at' (d : DmaDesc) (base : Nat) (st : List Int) (n : Nat) : Nat :=
  let k := d.ks n
  (((base : Int) + k.1 * st.getD 0 0 + k.2.1 * st.getD 1 0 + k.2.2 * st.getD 2 0) % (2 ^ 40 : Int)).toNat

/-- How many elements, from `n` on, move as one access (R311): those of one loop-0 pass that fall in one aligned 64-byte block. -/
def DmaDesc.run (d : DmaDesc) (n : Nat) : Nat :=
  let sa := d.at' d.src d.ss n
  let da := d.at' d.dst d.ds n
  if d.ss.getD 0 0 == (d.size : Int) && d.ds.getD 0 0 == (d.size : Int) && !inBlocks sa && !inBlocks da then
    max 1 (min (d.c0 - (d.ks n).1) (min ((64 - sa % 64) / d.size) ((64 - da % 64) / d.size)))
  else 1

/-- The bytes of the access that begins with element `n`. -/
def DmaDesc.len (d : DmaDesc) (n : Nat) : Nat := d.size * d.run n

/-- The source and destination of element `n`. -/
def DmaDesc.srcOf (d : DmaDesc) (n : Nat) : Nat := d.at' d.src d.ss n
def DmaDesc.dstOf (d : DmaDesc) (n : Nat) : Nat := d.at' d.dst d.ds n

/-- The residue at element `n` (R318): all 0 when none is left. -/
def DmaDesc.residue (d : DmaDesc) (n : Nat) : Int × Int × Int :=
  if d.total ≤ n && d.total != 0 then (0, 0, 0) else
  let k := d.ks n
  ((d.c0 : Int) - k.1, (d.c1 : Int) - 1 - k.2.1, (d.c2 : Int) - 1 - k.2.2)

/-- RES_A and RES_B take the residue at element `n` (R318, R336). -/
def State.dmaResidue (s : State) (c n : Nat) : State :=
  let r := (s.dma c).d.residue n
  (s.wrI (R.DMA_RES_A c) (r.1 % 65536 + 65536 * (r.2.1 % 65536))).wrI (R.DMA_RES_B c) (r.2.2 % 65536)

/-! Memory as the engine sees it (R316, R374): with `coh` the newest cached data, otherwise memory only. -/

def State.dmaGet (s : State) (coh : Bool) (a n : Nat) : List (BitVec 8) := if coh then s.cohBytes a n else s.rdBytes a n
def State.dmaRead (s : State) (coh : Bool) (a n : Nat) : State × Bool := if coh then s.cohRead a n else s.memRead a n
def State.dmaBad (s : State) (coh : Bool) (a n : Nat) : Bool := if coh then s.badCoh a n else s.badRead a n
def State.dmaPut (s : State) (coh : Bool) (a : Nat) (bs : List (BitVec 8)) : State × Bool := if coh then s.cohPut a bs else s.memPut a bs
def State.descCoh (s : State) (c : Nat) : Bool := s.on (R.DMA_CH_CTL c) F.DMA_CH_CTL_DESC_COH

/-! Chains (R313, R315). -/

/-- The channel fetches the descriptor at CUR. -/
def State.dmaFetch (s : State) (c : Nat) : State := (s.setDst c dmRunning).setDma c { s.dma c with wait := .fetch }

/-- The engine starts a read of the NEXT word, which clears DB_PEND (R315). -/
def State.dmaReadNext (s : State) (c : Nat) (w : DmaWait) (db : Bool) : State :=
  (s.sf (R.DMA_CH_STAT c) F.DMA_CH_STAT_DB_PEND 0).setDma c { s.dma c with wait := w, dbRead := db }

/-- The descriptor's elements and write-back are done (R313, steps 2 and 3). -/
def State.dmaStep2 (s : State) (c : Nat) : State :=
  (s.when (s.dma c).d.evt (·.fire (1040 + 2 * c))).dmaReadNext c .next false

/-- Every issued element has been acknowledged: a complete descriptor goes to its write-back or on (R313), an aborted one to the
write-back of its residue (R318). -/
def State.dmaSettle (s : State) (c : Nat) : State :=
  let x := s.dma c
  if x.wait != .move || !x.reads.isEmpty || !x.writes.isEmpty then s else
  let fin := decide (x.d.total ≤ x.idx)
  if s.dst c == dmAborting then
    ((s.when fin (·.cnt (R.DMA_DESCS_DONE c))).setDma c { x with wait := .writeBack, wbAbort := true }).dmaResidue c x.idx
  else if s.dst c == dmRunning && fin then
    let s := s.cnt (R.DMA_DESCS_DONE c)
    if x.d.wb then s.setDma c { x with wait := .writeBack, wbAbort := false } else s.dmaStep2 c
  else s

/-- The channel has stopped after an abort (R317). -/
def State.dmaStopped (s : State) (c : Nat) (evt : Bool) : State :=
  let s := ((s.setDst c dmIdle).setDma c { moved := (s.dma c).moved }).cnt (R.DMA_ABORTS c)
  s.when evt (·.fire (1040 + 2 * c))

/-! Commands (R317, R320). -/

/-- A command that the channel's state does not accept (R317). -/
def State.dmaRefused (s : State) (c : Nat) : State := s.dmaErr c 5

/-- CH_CMD.START (R313, R317). -/
def dmaStart (c : Nat) (s : State) : State :=
  if s.dst c == dmIdle && s.on (R.DMA_CH_CTL c) F.DMA_CH_CTL_EN then
    let a := s.rd64N (R.DMA_DESC_LO c) (R.DMA_DESC_HI c) % 2 ^ 40
    ((s.setDmaCur c (a / 64 * 64)).setDma c { moved := (s.dma c).moved, startAt := some s.cyc }).dmaFetch c
  else s.dmaRefused c

/-- ABORT in a state that accepts it (R317); `none` in the others. It discards a RING of its cycle, and is itself lost in the cycle of an error
response (R320). -/
def State.dmaAbort? (s : State) (c : Nat) : Option State :=
  let st := s.dst c
  if st == dmRunning then
    let x := s.dma c
    let s := (s.setDst c dmAborting).when (x.ringAt == some s.cyc) (·.sf (R.DMA_CH_STAT c) F.DMA_CH_STAT_DB_PEND 0)
    let x := { x with abortAt := some s.cyc, abWait := x.wait }
    if x.wait == .next || x.wait == .writeBack then
      some ((s.setDma c { x with wait := .writeBack, wbAbort := true }).dmaResidue c x.idx)
    else some ((s.setDma c x).dmaSettle c)
  else if st == dmParked then some (s.dmaStopped c true)
  else if st == dmHalted then some (if (s.dma c).haltAt == some s.cyc then s else s.dmaStopped c false)
  else none

/-- CH_CMD.ABORT (R317). -/
def dmaAbort (c : Nat) (s : State) : State := (s.dmaAbort? c).getD (s.dmaRefused c)

/-- A write of CH_CTL (R317): EN written 0 acts as ABORT. -/
def dmaChCtlWrite (c : Nat) (v : Word) (s : State) : State :=
  let s := s.wr (R.DMA_CH_CTL c) (v &&& 0x1f)
  if F.DMA_CH_CTL_EN.get v == 0 then dmaAbort c s else s

/-- CH_CMD.RESUME (R319). -/
def dmaResume (c : Nat) (s : State) : State :=
  if s.dst c != dmHalted then s.dmaRefused c else
  let x := s.dma c
  let s := s.setDst c dmRunning
  if x.wait == .move then (s.setDma c { x with idx := x.back, reads := [] }).dmaSettle c
  else if x.wait == .next || x.wait == .again then s.dmaReadNext c .next x.dbRead
  else s

/-- DOORBELL.RING (R315); one in the cycle of a START or an ABORT is discarded (R320). -/
def doorbellRing (c : Nat) (s : State) : State :=
  let s := s.cnt (R.DMA_DOORBELLS c)
  let st := s.dst c
  let x := s.dma c
  let pend := fun (s : State) =>
    if s.on (R.DMA_CH_STAT c) F.DMA_CH_STAT_DB_PEND then s
    else (s.sf (R.DMA_CH_STAT c) F.DMA_CH_STAT_DB_PEND 1).setDma c { x with ringAt := some s.cyc }
  if x.startAt == some s.cyc || x.abortAt == some s.cyc then s
  else if st == dmParked then (if x.wait == .again then pend s else s.dmaReadNext c .again true)
  else if st == dmRunning || st == dmAborting then pend s
  else s

/-- DMA_TRIGGER_INPUT (R315): a delivered event at consumer input 32 + c acts as RING when TRIG_DB = 1. -/
def dmaTriggerInput (c : Nat) (s : State) : State :=
  if !s.consIn.contains (32 + c) then s else
  let s := { s with consIn := erase1 (32 + c) s.consIn }
  if s.on (R.DMA_CH_CTL c) F.DMA_CH_CTL_TRIG_DB then doorbellRing c s else s

/-! Halt (R319). -/

/-- The halt: address and direction captured, the sticky bit, the residue from element `n`, HALTS, HALT. -/
def State.dmaHalt (s : State) (c b dir addr n : Nat) : State :=
  let s := s.wrN (R.DMA_ERR_ADDR_LO c) addr
  let s := (s.sf (R.DMA_ERR_ADDR_HI c) F.DMA_ERR_ADDR_HI_ADDR_HI (addr / 2 ^ 32)).sf (R.DMA_ERR_ADDR_HI c) F.DMA_ERR_ADDR_HI_ERR_DIR dir
  let s := s.setDst c dmHalted
  let s := s.setDma c { s.dma c with reads := [], back := n, haltAt := some s.cyc }
  let s := (s.dmaResidue c n).cnt (R.DMA_HALTS c)
  if s.on (R.DMA_CH_ERR c) (bit b) then s.fire (1041 + 2 * c) else s.raiseAt (R.DMA_CH_ERR c) b (siteDma c) addr

/-- DESC_FETCH_DONE (R312, R317): the descriptor at CUR is checked. -/
def descFetchDone (c : Nat) (s : State) : State :=
  let x := s.dma c
  let a := s.dmaCur c
  if x.wait != .fetch || s.dst c == dmHalted || !s.memOk a 64 || s.dmaBad (s.descCoh c) a 64 then s else
  let s := (s.dmaRead (s.descCoh c) a 64).1
  let b := s.dmaGet (s.descCoh c) a 64
  let d := descOf b
  if d.bad (leAt b 8 8) then (s.setDma c { x with d := d, idx := 0 }).dmaHalt c 3 2 a 0
  else (s.setDma c { x with d := d, idx := 0, reads := [], wait := .move }).dmaSettle c

/-- DESC_WRITE_BACK_DONE (R313, R318): bytes 0 to 7 and 32 to 39 are written. -/
def descWriteBackDone (c : Nat) (s : State) : State :=
  let x := s.dma c
  let a := s.dmaCur c
  if x.wait != .writeBack || s.dst c == dmHalted || !s.memOk a 64 then s else
  let fin := decide (x.d.total ≤ x.idx)
  let r := if x.wbAbort then x.d.residue x.idx else (0, 0, 0)
  let coh := s.descCoh c
  let rs := leBytes 6 (r.1 % 65536 + 65536 * (r.2.1 % 65536) + 0x100000000 * (r.2.2 % 65536)).toNat
  let s := (s.dmaPut coh a (leBytes 2 x.d.ctl ++ rs)).1
  let s := (s.dmaPut coh (a + 32) (leBytes 6 (x.d.c0 + 65536 * x.d.c1 + 0x100000000 * x.d.c2)
    ++ leBytes 2 (b2n fin + 2 * b2n x.wbAbort))).1
  if s.dst c == dmAborting then s.dmaStopped c true
  else if x.wbAbort then s.dmaReadNext c .next false
  else s.dmaStep2 c

/-- NEXT_READ_DONE (R313, R315): the channel follows the chain or parks. -/
def nextReadDone (c : Nat) (s : State) : State :=
  let x := s.dma c
  let a := s.dmaCur c
  if !(x.wait == .next || x.wait == .again) || s.dst c == dmHalted || !s.memOk a 64 || s.dmaBad (s.descCoh c) (a + 8) 8 then s else
  let s := (s.dmaRead (s.descCoh c) (a + 8) 8).1
  let w := leNat (s.dmaGet (s.descCoh c) (a + 8) 8)
  if w % 2 == 0 then (s.setDmaCur c (w / 64 % 2 ^ 34 * 64)).dmaFetch c
  else
    let s := ((s.when x.dbRead (·.cnt (R.DMA_DB_EMPTY c))).setDst c dmParked).setDma c { x with wait := .none }
    if s.on (R.DMA_CH_STAT c) F.DMA_CH_STAT_DB_PEND then s.dmaReadNext c .again true else s

/-- DMA_ERROR_RESPONSE (R319): the access in direction `dir` fails; `k` counts the outstanding reads or writes from the oldest on. A write that
fails while the channel stands halted by a later one moves the resume point back. -/
def dmaErrorResponse (c dir k : Nat) (s : State) : State :=
  let x := s.dma c
  let st := s.dst c
  let live := st == dmRunning || st == dmAborting || st == dmParked
  if dir == 0 then
    match x.reads[k]? with
    | some n => if live then s.dmaHalt c 0 0 (x.d.srcOf n) n else s
    | none => s
  else if dir == 1 then
    match x.writes[k]? with
    | some n =>
      let s := s.setDma c { x with writes := x.writes.eraseIdx k, lost := x.lost.filter (· != n) }
      if live then s.dmaHalt c 1 1 (x.d.dstOf n) n
      else if st == dmHalted && x.wait == .move && decide (n < x.back) then
        (s.setDma c { s.dma c with back := n }).dmaResidue c n
      else s
    | none => s
  else if dir == 2 then
    if !live then s
    else if x.wait == .fetch then
      let s := s.dmaHalt c 2 2 (s.dmaCur c) 0
      let s := (s.wr (R.DMA_RES_A c) (s.free.setWidth 32)).freeNext
      (s.wr (R.DMA_RES_B c) ((s.free.setWidth 32) &&& 0xffff)).freeNext
    else if x.wait == .next || x.wait == .again then s.dmaHalt c 2 2 (s.dmaCur c + 8) x.idx
    else if x.abortAt == some s.cyc && (x.abWait == .next || x.abWait == .again) then
      (s.setDma c { x with wait := x.abWait, wbAbort := false }).dmaHalt c 2 2 (s.dmaCur c + 8) x.idx
    else s
  else if live && x.wait == .writeBack then s.dmaHalt c 4 3 (s.dmaCur c) x.idx
  else s

end Sys2Proof.Machine
end

