-- ==== Sys2Proof/Machine/Drift.lean ====
section
/-! DEFINITION. Drift, the background tracker of a view (R142 to R150). -/

namespace Sys2Proof.Machine

/-- The view's DRIFT error register in the error record; it fires DFAULT (R151). -/
def siteDrift (v : Nat) : Site := ⟨16, 0, v, 403 + 4 * v⟩

def State.dstatF (s : State) (v : Nat) (f : Fld) (n : Nat) : State := s.sf (R.DRIFT_DRIFT_STAT v) f n

/-- The reference of a plane, unsigned 12.4 (R142). -/
def driftRef (m y : Int) : Nat := (sat ((m + 128) / 256 + (y + 4) / 8) 0 0xffff).toNat

/-- The update interval D of a preset (R143). -/
def presetRows (p : Nat) : Nat := 4 ^ p
/-- The shift s of a preset (R143). -/
def presetShift (p : Nat) : Nat := 3 + p

/-- What a row's update needs (R144, R146). -/
structure DriftCfg where
  planes : Nat
  shift : Nat
  upd : Bool
  gfreeze : Bool
  all : Bool
deriving DecidableEq, Repr

/-- The update of one plane (R144): M, U and Y after the row. -/
def driftPlane (c : DriftCfg) (frz : Bool) (x : Nat) (m u y : Int) : Int × Int × Int :=
  if !c.upd then (m, u, y) else
  let k : Int := 2 ^ c.shift
  let hs := k / 2
  let m := if !frz && !c.gfreeze then m + (((x * 4096 : Nat) : Int) - m + 512) / 1024 else m
  let e := if frz || (c.gfreeze && c.all) then u else ((x * 128 : Nat) : Int) - (m + 16) / 32
  let u := u + (e - u + hs) / k
  let y := y + (u - y + hs) / k
  (m, u, y)

/-- The update of one column; HOLD becomes `hold` (R144, R145). -/
def driftColumn (c : DriftCfg) (frz : Bool) (hold : Nat) (px : List Nat) (d : DriftCol) : DriftCol :=
  let rs := (List.range 4).map (fun p =>
    if p < c.planes then driftPlane c frz (px.getD p 0) (d.m.getD p 0) (d.u.getD p 0) (d.y.getD p 0)
    else (d.m.getD p 0, d.u.getD p 0, d.y.getD p 0))
  ⟨rs.map (·.1), rs.map (fun r => r.2.1), rs.map (fun r => r.2.2), hold⟩

/-- Is a column hit (R145, step 1)? -/
def driftHit (planes : Nat) (thr px ref : List Nat) : Bool :=
  (List.range planes).any (fun p => thr.getD p 0 != 0 &&
    decide (thr.getD p 0 * 16 < (((px.getD p 0 * 16 : Nat) : Int) - (ref.getD p 0 : Nat)).natAbs))

/-- A column's references, plane by plane; planes the view has not read 0 (R149). -/
def driftRefs (planes : Nat) (d : DriftCol) : List Nat :=
  (List.range 4).map (fun p => if p < planes then driftRef (d.m.getD p 0) (d.y.getD p 0) else 0)

/-- Does a mark lie within `g` columns of column `c` (R145, step 2)? -/
def near (g c : Nat) (marks : List Bool) : Bool := ((marks.take (c + g + 1)).drop (c - g)).any id

/-- The seed of a column (R147). -/
def seedCol (planes : Nat) (px : List Nat) : DriftCol :=
  ⟨(List.range 4).map (fun p => if p < planes then ((px.getD p 0 * 4096 : Nat) : Int) else 0), [0, 0, 0, 0], [0, 0, 0, 0], 0⟩

/-- A probe takes its result, or its column is out of range (R150). -/
def State.probeRow (s : State) (v : Nat) (r : VRow) (cols : List DriftCol) : State :=
  if s.gf (R.DRIFT_PROBE_STAT v) F.DRIFT_PROBE_STAT_BUSY == 0 then s else
  let s := s.sf (R.DRIFT_PROBE_STAT v) F.DRIFT_PROBE_STAT_BUSY 0
  let c := s.rdN (R.DRIFT_PROBE_COL v)
  if decide ((s.view v).width ≤ c) then
    (s.sf (R.DRIFT_PROBE_STAT v) F.DRIFT_PROBE_STAT_VALID
      (b2n (s.gf (R.DRIFT_PROBE_STAT v) F.DRIFT_PROBE_STAT_SEQ != 0))).raise (R.DRIFT_DRIFT_ERR v) 0 (siteDrift v)
  else
    let s := s.wrN (R.DRIFT_PROBE_ROW v) r.rowNo
    let s := times 4 (fun p s => s.wrN (R.DRIFT_PROBE_VAL v p)
      ((r.ref.getD c []).getD p 0 + 0x10000 * (r.px.getD c []).getD p 0)) s
    let s := s.sf (R.DRIFT_PROBE_STAT v) F.DRIFT_PROBE_STAT_HOLD ((cols.getD c {}).hold)
    let s := s.sf (R.DRIFT_PROBE_STAT v) F.DRIFT_PROBE_STAT_COVERED (b2n (r.cov.getD c false))
    (s.wr (R.DRIFT_PROBE_STAT v) (seqBump (s.rd (R.DRIFT_PROBE_STAT v)))).fire (402 + 4 * v)

/-- The event freeze count runs down and GFREEZE_NOW follows it (R146). -/
def State.freezeRow (s : State) (v : Nat) (gf : Bool) : State :=
  let left := s.gf (R.DRIFT_DRIFT_STAT v) F.DRIFT_DRIFT_STAT_FREEZE_LEFT
  let s := s.when (gf && s.gf (R.DRIFT_DRIFT_STAT v) F.DRIFT_DRIFT_STAT_GFREEZE_NOW == 0) (·.fire (401 + 4 * v))
  let s := s.when gf (·.cnt (R.DRIFT_GFREEZE_ROWS v))
  let s := s.dstatF v F.DRIFT_DRIFT_STAT_FREEZE_LEFT (left - 1)
  s.dstatF v F.DRIFT_DRIFT_STAT_GFREEZE_NOW
    (b2n (s.on (R.DRIFT_DRIFT_CTL v) F.DRIFT_DRIFT_CTL_GFREEZE_SW || decide (1 < left)))

/-- The columns of a view after a row. -/
def State.storeDrift (s : State) (v : Nat) (cs : List DriftCol) : State :=
  let m : SMap DriftCol := s.drift.get (fun _ => []) v
  { s with drift := s.drift.set (fun _ => []) v (cs.zipIdx.foldl (fun m e => SMap.set (fun _ => {}) m e.2 e.1) m) }

/-- DRIFT_ROW_IN (R144 to R150): the oldest row of view `v` passes through Drift. -/
def driftRowIn (v : Nat) (s : State) : State :=
  match s.driftIn.get (fun _ => []) v with
  | [] => s
  | r :: rest =>
    let s := { s with driftIn := s.driftIn.set (fun _ => []) v rest }
    let w := s.rd (R.DRIFT_DRIFT_CTL v)
    let x := s.view v
    let n := r.px.length
    let s := (s.driftRunning v).dstatF v F.DRIFT_DRIFT_STAT_PRESET_NOW (F.DRIFT_DRIFT_CTL_PRESET.get w)
    let gf := F.DRIFT_DRIFT_CTL_GFREEZE_SW.get w == 1 || s.gf (R.DRIFT_DRIFT_STAT v) F.DRIFT_DRIFT_STAT_FREEZE_LEFT != 0
    let frozenFlag := if gf then 512 else 0
    if F.DRIFT_DRIFT_CTL_EN.get w == 0 then
      let r := { r with flags := r.flags + frozenFlag, ref := List.replicate n [0, 0, 0, 0], cov := List.replicate n false }
      let s := s.freezeRow v gf
      let s := { s with drift := s.drift.set (fun _ => []) v [] }
      (s.probeRow v r []).toHearth v r
    else
      let cols := (List.range n).map (fun c => SMap.get (fun _ => {}) (s.drift.get (fun _ => []) v) c)
      let seed := x.seedPend || (flag r.flags 5 && F.DRIFT_DRIFT_CTL_SEED_ON_RESYNC.get w == 1)
        || (flag r.flags 6 && F.DRIFT_DRIFT_CTL_SEED_ON_SWAP.get w == 1)
      if seed then
        let cs := r.px.map (seedCol x.planes)
        let r := { r with flags := r.flags + frozenFlag + 1024, ref := cs.map (driftRefs x.planes), cov := List.replicate n false }
        let s := (s.storeDrift v cs).freezeRow v gf
        let s := (s.setView v { s.view v with seedPend := false }).dstatF v F.DRIFT_DRIFT_STAT_SEED_PENDING 0
        let s := (s.cnt (R.DRIFT_SEEDS v)).fire (400 + 4 * v)
        (s.probeRow v r cs).toHearth v r
      else
        let p := F.DRIFT_DRIFT_CTL_PRESET.get w
        let cfg : DriftCfg := ⟨x.planes, presetShift p, r.rowNo % presetRows p == 0, gf, F.DRIFT_DRIFT_CTL_GFREEZE_ALL.get w == 1⟩
        let refs := cols.map (driftRefs x.planes)
        let thr := (List.range 4).map (fun p => s.rdN (R.DRIFT_COVER_THR v p))
        let marks := (List.range n).map (fun c => r.pad.getD c false ||
          driftHit x.planes thr (r.px.getD c []) (refs.getD c []))
        let g := F.DRIFT_DRIFT_CTL_COVER_GROW.get w
        let step := (List.range n).map (fun c =>
          let d := cols.getD c {}
          let covered := near g c marks
          let frz := covered || decide (0 < d.hold)
          let hold := if covered then F.DRIFT_DRIFT_CTL_COVER_HOLD.get w else d.hold - 1
          (frz, driftColumn cfg frz hold (r.px.getD c []) d))
        let cs := step.map (·.2)
        let cov := step.map (·.1)
        let r := { r with flags := r.flags + frozenFlag, ref := refs, cov := cov }
        let s := (s.storeDrift v cs).freezeRow v gf
        let s := s.when cfg.upd (fun s => (s.cnt (R.DRIFT_UPDATE_ROWS v)).cntN (R.DRIFT_FROZEN_COLS v) (cov.filter id).length)
        (s.probeRow v r cs).toHearth v r

/-- A seed is requested for the next row (R147). -/
def driftSeed (v : Nat) (s : State) : State :=
  (s.setView v { s.view v with seedPend := true }).dstatF v F.DRIFT_DRIFT_STAT_SEED_PENDING 1

/-- DRIFT_CMD.PROBE (R150); one that is pending takes it in. -/
def driftProbe (v : Nat) (s : State) : State :=
  (s.sf (R.DRIFT_PROBE_STAT v) F.DRIFT_PROBE_STAT_BUSY 1).sf (R.DRIFT_PROBE_STAT v) F.DRIFT_PROBE_STAT_VALID 0

/-- DRIFT_FREEZE_EVENT (R146): a delivered event at consumer input m = v loads FREEZE_ROWS. -/
def driftFreezeEvent (v : Nat) (s : State) : State :=
  if !s.consIn.contains v then s else
  let s := { s with consIn := erase1 v s.consIn }
  let s := (s.cnt (R.DRIFT_FREEZE_EVENTS v))
  let n := s.gf (R.DRIFT_FREEZE_ROWS v) ⟨0, 16⟩
  let s := s.when (n != 0 && s.gf (R.DRIFT_DRIFT_STAT v) F.DRIFT_DRIFT_STAT_GFREEZE_NOW == 0) (·.fire (401 + 4 * v))
  let s := s.dstatF v F.DRIFT_DRIFT_STAT_FREEZE_LEFT n
  s.when (n != 0) (·.dstatF v F.DRIFT_DRIFT_STAT_GFREEZE_NOW 1)

/-- A write to DRIFT_CTL (R147, R148): its settings take effect at the next row; EN going from 0 to 1 seeds. -/
def driftCtlWrite (v : Nat) (x : Word) (s : State) : State :=
  let was := s.on (R.DRIFT_DRIFT_CTL v) F.DRIFT_DRIFT_CTL_EN
  let s := (s.wr (R.DRIFT_DRIFT_CTL v) (x &&& 0x00ff0f7f)).driftRunning v
  s.when (!was && F.DRIFT_DRIFT_CTL_EN.get x == 1) (driftSeed v)

end Sys2Proof.Machine
end

