-- ==== Sys2Proof/Machine/Eth.lean ====
section
/-! DEFINITION. The management MAC (R340 to R346, R357): link status, the transmit and receive rings, time-stamps, one-step
insertion, MDIO. Its accesses to memory are coherent (R342). -/

namespace Sys2Proof.Machine

/-- The MAC's error register in the error record; its rising bits fire EFAULT. -/
def siteEth : Site := ⟨24, 0, 0, 1187⟩
def State.ethErr (s : State) (b : Nat) : State := s.raise R.ETH_EERR b siteEth

/-- The MAC sends and receives at 1,000 Mbit/s full duplex only (R340). -/
def State.ethUp (s : State) : Bool :=
  s.on R.ETH_ESTAT F.ETH_ESTAT_LINK && s.gf R.ETH_ESTAT F.ETH_ESTAT_SPEED == 2 && s.on R.ETH_ESTAT F.ETH_ESTAT_FULL_DUPLEX

/-- ETH_LINK_STATUS (R340). -/
def ethLinkStatus (link : Bool) (speed : Nat) (full : Bool) (s : State) : State :=
  let s := s.sf R.ETH_ESTAT F.ETH_ESTAT_LINK (b2n link)
  let s := s.sf R.ETH_ESTAT F.ETH_ESTAT_SPEED speed
  let s := s.sf R.ETH_ESTAT F.ETH_ESTAT_FULL_DUPLEX (b2n full)
  if link && !s.ethUp then s.ethErr 0 else s

/-- A write of a ring index (R343, R344, R346): a slot outside its ring is ignored. -/
def State.ethSlotWrite (s : State) (reg entries : Nat) (v : Word) : State :=
  if s.rdN entries ≤ v.toNat % 65536 then s.ethErr 5 else s.wr reg (v &&& 0xffff)

/-- A write of TX_WR (R343). -/
def txWrWrite (v : Word) (s : State) : State := s.ethSlotWrite R.ETH_TX_WR R.ETH_TX_ENTRIES v

/-- A write of MAX_LEN (R346). -/
def maxLenWrite (v : Word) (s : State) : State :=
  let n := v.toNat % 4096
  if decide (64 ≤ n) && decide (n ≤ 2000) then s.wrN R.ETH_MAX_LEN n else s.ethErr 5

/-- One bit of the CRC of IEEE 802.3. -/
def fcsBit (c : BitVec 32) : BitVec 32 := if c.getLsbD 0 then (c >>> 1) ^^^ 0xedb88320 else c >>> 1

/-- The FCS of a frame. -/
def fcs (bs : List (BitVec 8)) : BitVec 32 :=
  ~~~ (bs.foldl (fun c b => fcsBit (fcsBit (fcsBit (fcsBit (fcsBit (fcsBit (fcsBit (fcsBit (c ^^^ b.zeroExtend 32))))))))) 0xffffffff)

/-- `n` bytes of a number, big-endian. -/
def beBytes (n v : Nat) : List (BitVec 8) := (leBytes n v).reverse

/-- Bytes of a frame as a big-endian number. -/
def beAt (f : List (BitVec 8)) (off n : Nat) : Nat := leNat ((f.drop off).take n).reverse

/-- A frame with bytes replaced at an offset. -/
def putAt (f : List (BitVec 8)) (off : Nat) (bs : List (BitVec 8)) : List (BitVec 8) := f.take off ++ bs ++ f.drop (off + bs.length)

/-- The 16-bit ones'-complement sum. -/
def ones16 (xs : List Nat) : Nat := xs.foldl (fun a x => (a + x) / 65536 + (a + x) % 65536) 0

/-- The checksum after 16-bit words at even distance from `p` have changed (R345, as RFC 1624 does). -/
def ckFix (old new : List (BitVec 8)) (p c : Nat) : List (BitVec 8) :=
  let at' (f : List (BitVec 8)) (i : Nat) : Nat := beAt f (p + 2 * i) 2
  let d := (List.range 22).map (fun i => if at' old i == at' new i then 0 else ones16 [65535 - at' old i, at' new i])
  let sum := ones16 ((65535 - beAt old c 2) :: d)
  let r := 65535 - sum
  putAt new c (beBytes 2 (if r == 0 then 65535 else r))

/-- The one-step change (R345): P, the checksum offset, the kind, T in units of 2⁻³² ns, REQ_RX_TIME. -/
def oneStep (f : List (BitVec 8)) (p c : Nat) (pdelay : Bool) (t req : Int) : List (BitVec 8) :=
  let corr := beAt f (p + 8) 8
  let new := if pdelay then putAt f (p + 8) (beBytes 8 ((corr + (t - req * 2 ^ 32) / 2 ^ 16) % 2 ^ 64).toNat)
    else
      let ns := t / 2 ^ 32
      let f := putAt f (p + 34) (beBytes 6 ((ns / 1000000000) % 2 ^ 48).toNat ++ beBytes 4 (ns % 1000000000).toNat)
      putAt f (p + 8) (beBytes 8 ((corr + (t % 2 ^ 32) / 2 ^ 16) % 2 ^ 64).toNat)
  if c == 0 then new else ckFix f new p c

/-- Do the offsets of a one-step frame fit it (R345)? -/
def oneStepOk (len p c : Nat) (pdelay : Bool) : Bool :=
  decide (14 ≤ p) && decide (p + (if pdelay then 16 else 44) ≤ len)
    && (c == 0 || (decide (14 ≤ c) && decide (c + 2 ≤ len) && p % 2 == c % 2))

/-- TX_FRAME_START (R341, R343, R345): the frame at TX_RD leaves, or is refused with its error bit. -/
def txFrameStart (s : State) : State :=
  let rp := s.rdN R.ETH_TX_RD
  if s.ethTx.isSome || !s.ethUp || !s.on R.ETH_ECTL F.ETH_ECTL_TX_EN || rp == s.rdN R.ETH_TX_WR || s.rdN R.ETH_TX_ENTRIES == 0 then s else
  let a := s.rd64N R.ETH_TX_BASE_LO R.ETH_TX_BASE_HI % 2 ^ 40 / 32 * 32 + 32 * rp
  let refuse (fl st : Nat) (s : State) : State := { s with ethTx := some { addr := a, flags := fl, time := 0, frac := 0, status := st, sent := false } }
  if !s.memOk a 32 then ((refuse 0 2 s).ethErr 1).missErr a else
  let x := s.cohRead a 32
  if x.2 then (refuse 0 2 x.1).ethErr 1 else
  let s := x.1
  let d := s.cohBytes a 32
  let buf := leAt d 0 5
  let len := leAt d 8 2
  let fl := leAt d 10 1
  let p := leAt d 12 2
  let c := leAt d 14 2
  let os := fl / 2 % 2 == 1
  let pd := fl / 4 % 2 == 1
  if decide (len < 14) || decide (s.rdN R.ETH_MAX_LEN < len) then refuse fl 4 s
  else if os && !oneStepOk len p c pd then (refuse fl 8 s).ethErr 4
  else if !s.memOk buf len then ((refuse fl 2 s).ethErr 1).missErr buf
  else
    let x := s.cohRead buf len
    if x.2 then (refuse fl 2 x.1).ethErr 1 else
    let s := x.1
    let t := s.nt + s.gf R.PTP_TX_LAT ⟨0, 12⟩ * 2 ^ 32
    let f := s.cohBytes buf len
    let f := if os then oneStep f p c pd t (signed 64 (leAt d 16 8)) else f
    let f := f ++ List.replicate (60 - f.length) 0
    let s := { s with ethTx := some { addr := a, flags := fl, time := t / 2 ^ 32, frac := (t % 2 ^ 32).toNat, status := 0, sent := true } }
    (s.sf R.ETH_ESTAT F.ETH_ESTAT_TX_BUSY 1).emit (.ethTx (f ++ leBytes 4 (fcs f).toNat))

/-- TX_FRAME_DONE (R343): the descriptor is written back and TX_RD advances. A frame that was not sent has no TX_TIME. -/
def txFrameDone (s : State) : State :=
  match s.ethTx with
  | none => s
  | some x =>
    let s := { s with ethTx := none }
    let s := s.sf R.ETH_ESTAT F.ETH_ESTAT_TX_BUSY 0
    let tm := if x.sent then BitVec.ofInt 64 x.time else s.free
    let fr := if x.sent then BitVec.ofNat 32 x.frac else (Config.freeValue (s.freeIx + 1)).setWidth 32
    let s := if x.sent then s else { s with freeIx := s.freeIx + 2 }
    let s := if s.memOk x.addr 32 then
        let y := s.cohPut (x.addr + 16) (leBytes 8 tm.toNat ++ leBytes 4 fr.toNat ++ leBytes 2 (1 + x.status) ++ leBytes 2 0)
        y.1.when y.2 (·.ethErr 1)
      else (s.ethErr 1).missErr (x.addr + 16)
    let rp := s.rdN R.ETH_TX_RD + 1
    let s := s.wrN R.ETH_TX_RD (if s.rdN R.ETH_TX_ENTRIES ≤ rp then 0 else rp)
    let s := if x.sent then (s.cnt R.ETH_TX_FRAMES).when (x.flags / 2 % 2 == 1) (·.cnt R.ETH_TX_OS) else s.cnt R.ETH_TX_ERR
    s.when (x.flags / 8 % 2 == 1 || x.flags % 2 == 1) (·.fire 1185)

/-- RX_FRAME (R341, R344): a frame without its FCS, whether the FCS was right, and how long ago (in 2⁻³² ns) the RXC edge of its time-stamp
point was sampled. -/
def rxFrame (frame : List (BitVec 8)) (fcsOk : Bool) (age : Nat) (s : State) : State :=
  if !s.ethUp || !s.on R.ETH_ECTL F.ETH_ECTL_RX_EN then s else
  let da := frame.take 6
  let bcast := da == List.replicate 6 0xff
  let mcast := (da.headD 0).getLsbD 0 && !bcast
  let own := leBytes 4 (s.rdN R.ETH_MAC_LO) ++ leBytes 2 (s.rdN R.ETH_MAC_HI)
  let ok := s.on R.ETH_ECTL F.ETH_ECTL_PROMISC || (bcast && s.on R.ETH_ECTL F.ETH_ECTL_BCAST_EN)
    || (mcast && s.on R.ETH_ECTL F.ETH_ECTL_MCAST_ALL) || (!bcast && !mcast && da == own)
  let n := s.rdN R.ETH_RX_ENTRIES
  let wp := s.rdN R.ETH_RX_WR
  if !fcsOk then s.cnt R.ETH_RX_FCS_ERR
  else if s.rdN R.ETH_MAX_LEN < frame.length then s.cnt R.ETH_RX_LONG
  else if !ok then s.cnt R.ETH_RX_FILTERED
  else if n == 0 || (wp + 1) % n == s.rdN R.ETH_RX_RD then (s.cnt R.ETH_RX_DROP).ethErr 3
  else
    let a := s.rd64N R.ETH_RX_BASE_LO R.ETH_RX_BASE_HI % 2 ^ 40 / 32 * 32 + 32 * wp
    if !s.memOk a 32 then (s.ethErr 2).missErr a else
    let x := s.cohRead a 32
    if x.2 then x.1.ethErr 2 else
    let s := x.1
    let d := s.cohBytes a 32
    let buf := leAt d 0 5
    let k := min frame.length (leAt d 8 2)
    if decide (0 < k) && !s.memOk buf k then (s.ethErr 2).missErr buf else
    let t := s.nt - age - s.gf R.PTP_RX_LAT ⟨0, 12⟩ * 2 ^ 32
    let st := 1 + 2 * b2n (decide (k < frame.length)) + 4 * b2n mcast + 8 * b2n bcast
    let x := s.cohPut buf (frame.take k)
    let y := x.1.cohPut (a + 10) (leBytes 2 frame.length ++ leBytes 2 st ++ leBytes 2 0
      ++ leBytes 8 (BitVec.ofInt 64 (t / 2 ^ 32)).toNat ++ leBytes 4 (t % 2 ^ 32).toNat ++ leBytes 4 0)
    let s := y.1
    if x.2 || y.2 then s.ethErr 2 else
    ((s.wrN R.ETH_RX_WR ((wp + 1) % n)).cnt R.ETH_RX_FRAMES).fire 1184

/-- A write of MDIO_CMD with GO = 0, or while a frame runs: the fields are stored, GO stays as it reads (R346, R378). -/
def mdioStore (v : Word) (s : State) : State :=
  s.wr R.ETH_MDIO_CMD ((v &&& 0x1fff) ||| (s.rd R.ETH_MDIO_CMD &&& 0x2000))

/-- A write of MDIO_CMD with GO = 1 starts an MDIO frame, with OP as written; while one runs it merges (R346). -/
def mdioGo (v : Word) (s : State) : State :=
  if s.mdioCmd.isSome then mdioStore v s else
  let s := s.wr R.ETH_MDIO_CMD ((v &&& 0x1fff) ||| 0x2000)
  let s := (s.sf R.ETH_MDIO_STAT F.ETH_MDIO_STAT_BUSY 1).sf R.ETH_MDIO_STAT F.ETH_MDIO_STAT_VALID 0
  { s with mdioCmd := some (v &&& 0x1fff) }.emit (.mdio (v &&& 0x1fff) (s.rd R.ETH_MDIO_DATA) (s.rd R.ETH_MDIO_CTL))

/-- Does an MDIO frame read? -/
def mdioReads (v : Word) : Bool :=
  let op := F.ETH_MDIO_CMD_OP.get v
  op == 2 || (F.ETH_MDIO_CMD_CLAUSE_45.get v == 1 && op == 3)

/-- MDIO_DONE (R346): a read's data arrives in MDIO_DATA. -/
def mdioDone (data : BitVec 16) (s : State) : State :=
  match s.mdioCmd with
  | none => s
  | some v =>
    let s := if mdioReads v then s.wrN R.ETH_MDIO_DATA data.toNat else s
    let s := { s with mdioCmd := none }
    let s := s.sf R.ETH_MDIO_CMD F.ETH_MDIO_CMD_GO 0
    let s := s.sf R.ETH_MDIO_STAT F.ETH_MDIO_STAT_BUSY 0
    (s.wr R.ETH_MDIO_STAT (seqBump (s.rd R.ETH_MDIO_STAT))).fire 1186

end Sys2Proof.Machine
end

