-- ==== Sys2Proof/Machine/Firn.lean ====
section
/-! DEFINITION. Firn (R321 to R335, R337): the stream format with its compressor and decompressor, the engines and their jobs. -/

namespace Sys2Proof.Machine

def State.firn (s : State) (e : Nat) : FirnX := s.firns.get (fun _ => {}) e
def State.setFirn (s : State) (e : Nat) (x : FirnX) : State := { s with firns := SMap.set (fun _ => {}) s.firns e x }

/-- Engine e's error register in the error record; its rising bits fire FAULT (R335). -/
def siteFirn (e : Nat) : Site := ⟨9, 0, e, 1105 + 2 * e⟩
def State.firnErr (s : State) (e b : Nat) : State := s.raise (R.FIRN_EERR e) b (siteFirn e)

/-! The states of ESTAT.STATE (R337). -/
def fiStopped : Nat := 0
def fiIdle : Nat := 1
def fiBusy : Nat := 2
def fiSending : Nat := 3

def State.fst (s : State) (e : Nat) : Nat := s.gf (R.FIRN_ESTAT e) F.FIRN_ESTAT_STATE
def State.setFst (s : State) (e st : Nat) : State := s.sf (R.FIRN_ESTAT e) F.FIRN_ESTAT_STATE st

/-! The state that encoder and decoder share (R322, R323). -/

/-- The number of binary digits of `x`, for values below 2^20. -/
def bitlen (x : Nat) : Nat := ((List.range 20).filter (fun i => decide (2 ^ i ≤ x))).length

/-- The width of the next code. -/
def FirnCtx.width (x : FirnCtx) : Nat := min 16 (bitlen (max 257 (x.next + b2n x.pend - 1)))

/-- CLEAR: the dictionary is emptied. -/
def FirnCtx.reset (x : FirnCtx) : FirnCtx := { x with dict := [], next := 258, pend := false }

/-- The string of a code, last byte first; `fuel` bounds its length. -/
def strRev (dict : List (Nat × BitVec 8)) : Nat → Nat → List (BitVec 8)
  | 0, _ => []
  | fuel + 1, c =>
    if c < 256 then [BitVec.ofNat 8 c] else
    match dict[c - 258]? with
    | some (p, b) => b :: strRev dict fuel p
    | none => []

/-- The string that a code stands for. -/
def FirnCtx.strOf (x : FirnCtx) (c : Nat) : List (BitVec 8) := (strRev x.dict (x.dict.length + 1) c).reverse

/-- The bytes of a little-endian bit string that are whole, and what stays (R322). -/
def takeBytes : Nat → Nat → Nat → List (BitVec 8) × Nat × Nat
  | 0, v, n => ([], v, n)
  | k + 1, v, n =>
    if n < 8 then ([], v, n) else
    let r := takeBytes k (v / 256) (n - 8)
    (BitVec.ofNat 8 v :: r.1, r.2)

/-! The compressor (R323, R326, R331, R332). -/

/-- Why a run of a job stops early: the output space ran out, or EXPANDED. -/
inductive FirnStop where
  | run | full | expanded
deriving DecidableEq, Repr

/-- A compression run: the stream state, output last byte first with its count, its space, the limit of EXPANDED (R332) if any,
input bytes taken, and how it stopped. -/
structure EncRun where
  x : FirnCtx
  out : List (BitVec 8) := []
  n : Nat := 0
  space : Nat
  limit : Option Nat
  clrFull : Bool
  pos : Nat := 0
  stop : FirnStop := .run
deriving DecidableEq, Repr

/-- Would `k` more bytes overrun the space or reach the limit? -/
def EncRun.room (r : EncRun) (k : Nat) : FirnStop :=
  if r.space < r.n + k then .full
  else match r.limit with
    | some l => if l ≤ r.n + k then .expanded else .run
    | none => .run

/-- Whole bytes into the output. -/
def EncRun.putBytes (r : EncRun) (bs : List (BitVec 8)) : EncRun :=
  match r.room bs.length with
  | .run => { r with out := bs.reverse ++ r.out, n := r.n + bs.length }
  | st => { r with stop := st }

/-- A code into the output; with `pad` the string is padded to a whole byte behind it. -/
def EncRun.put (r : EncRun) (c : Nat) (pad : Bool) : EncRun :=
  let nb := r.x.nbits + r.x.width
  let nb := if pad then (nb + 7) / 8 * 8 else nb
  match r.room (nb / 8) with
  | .run =>
    let t := takeBytes 4 (r.x.bits + c * 2 ^ r.x.nbits) nb
    { r with x := { r.x with bits := t.2.1, nbits := t.2.2 }, out := t.1.reverse ++ r.out, n := r.n + t.1.length }
  | st => { r with stop := st }

/-- data(c) of R323: the code, then next and pend. -/
def EncRun.data (r : EncRun) (c : Nat) : EncRun :=
  let r := r.put c false
  if r.stop != .run then r else
  let nx := if r.x.pend then r.x.next + 1 else r.x.next
  { r with x := { r.x with next := nx, pend := decide (nx < 65536) } }

/-- CLEAR and reset. -/
def EncRun.clear (r : EncRun) : EncRun :=
  let r := r.put 256 false
  if r.stop != .run then r else { r with x := { r.x.reset with clr := false } }

/-- One input byte (R323). On a stop the match is kept and its bytes of this job are not counted as taken (R331). -/
def EncRun.byte (r : EncRun) (b : BitVec 8) : EncRun :=
  if r.stop != .run then r else
  if r.x.skip != 0 then { r with x := { r.x with skip := r.x.skip - 1 }, pos := r.pos + 1 } else
  match r.x.cur with
  | none => { r with x := { r.x with cur := some b.toNat }, pos := r.pos + 1 }
  | some c =>
    let found := match r.x.dict.findIdx? (· == (c, b)) with
      | some i => if i + 258 < r.x.next + b2n r.x.pend then some (i + 258) else none
      | none => none
    match found with
    | some k => { r with x := { r.x with cur := some k }, pos := r.pos + 1 }
    | none =>
      let m := (r.x.strOf c).length
      let r' := r.data c
      if r'.stop != .run then { r with stop := r'.stop, pos := r.pos - m, x := { r.x with skip := min m r.pos } }
      else if r'.x.pend then { r' with x := { r'.x with dict := r'.x.dict ++ [(c, b)], cur := some b.toNat }, pos := r.pos + 1 }
      else if r.clrFull then
        let q := r'.clear
        if q.stop != .run then { r' with stop := q.stop, x := { r'.x with cur := none, clr := true } }
        else { q with x := { q.x with cur := some b.toNat }, pos := r.pos + 1 }
      else { r' with x := { r'.x with cur := some b.toNat }, pos := r.pos + 1 }

/-- The flush of R323. -/
def EncRun.flush (r : EncRun) : EncRun :=
  if r.stop != .run || r.x.flushed then r else
  let r' := match r.x.cur with
    | none => r
    | some c =>
      let q := r.data c
      if q.stop != .run then { r with stop := q.stop, pos := r.pos - (r.x.strOf c).length, x := { r.x with skip := min (r.x.strOf c).length r.pos } }
      else { q with x := { q.x with cur := none } }
  if r'.stop != .run then r' else
  let q := r'.put 257 true
  if q.stop != .run then { r' with stop := q.stop } else { q with x := { q.x with pend := false, flushed := true } }

/-- The header (R321), if it is not yet written. -/
def EncRun.header (r : EncRun) : EncRun :=
  if r.x.hdrOut then r else
  let q := r.putBytes [0x46, 0x4e, 0x01, 0x00]
  if q.stop != .run then q else { q with x := { q.x with hdrOut := true } }

/-- How a job ended (R325, R327): status, input consumed, output, the stream state. -/
structure FirnRes where
  status : Nat
  consumed : Nat
  out : List (BitVec 8)
  x : FirnCtx
  trailer : Bool := false
deriving DecidableEq, Repr

/-- The running length and CRC over more raw bytes. -/
def FirnCtx.addRaw (x : FirnCtx) (bs : List (BitVec 8)) : FirnCtx :=
  { x with len := x.len + bs.length, crc := bs.foldl crcByte x.crc }

/-- A compression job over its input (R326). -/
def compress (x : FirnCtx) (flags outLen : Nat) (inp : List (BitVec 8)) : FirnRes :=
  let last := flags / 4 % 2 == 1
  let fl := flags / 8 % 2 == 1
  let limit := if flags / 32 % 2 == 1 then some (inp.length - (if last then 12 else 0)) else none
  let r : EncRun := { x := x, space := outLen, limit := limit, clrFull := flags / 16 % 2 == 1 }
  let r := if r.limit == some 0 then { r with stop := .expanded } else r.header
  let r := if r.stop == .run && r.x.clr then r.clear else r
  let r := inp.foldl EncRun.byte (if inp.isEmpty then r else { r with x := { r.x with flushed := false } })
  let r := if last || fl then r.flush else r
  let x' := r.x.addRaw (inp.take r.pos)
  let tr := leBytes 8 x'.len ++ leBytes 4 (~~~ x'.crc).toNat
  let q := if last && r.stop == .run then { r with limit := none }.putBytes tr else r
  { status := match q.stop with
      | .run => 0
      | .full => 1
      | .expanded => 2,
    consumed := r.pos, out := q.out.reverse,
    x := if last || (q.stop == .full) then x' else { x' with flushed := false },
    trailer := last && q.stop == .run }

/-! The decompressor (R323, R326, R327, R331). -/

/-- A decompression run: the stream state, output last byte first with its count and space, code bytes taken, and the status
that stopped it. -/
structure DecRun where
  x : FirnCtx
  out : List (BitVec 8) := []
  n : Nat := 0
  space : Nat
  pos : Nat := 0
  stop : Option Nat := none
deriving DecidableEq, Repr

/-- The rest of the current string goes out as far as the space allows (R331). -/
def DecRun.give (r : DecRun) (str : List (BitVec 8)) : DecRun :=
  let k := r.space - r.n
  let fit := str.take k
  let rest := str.drop k
  { r with out := fit.reverse ++ r.out, n := r.n + fit.length, x := { r.x with str := rest },
           stop := if rest.isEmpty then r.stop else some 1 }

/-- One code (R323). -/
def DecRun.code (r : DecRun) : DecRun :=
  let w := r.x.width
  let c := r.x.bits % 2 ^ w
  let x := { r.x with bits := r.x.bits / 2 ^ w, nbits := r.x.nbits - w, aligned := false }
  if c == 256 then { r with x := x.reset }
  else if c == 257 then
    if x.bits != 0 then { r with stop := some 4 }
    else { r with x := { x with pend := false, nbits := 0, aligned := true } }
  else if decide (258 ≤ c) && decide (x.next + b2n x.pend ≤ c) then { r with stop := some 4 }
  else
    let sp := x.strOf x.prev
    let st := if c == x.next then sp ++ sp.take 1 else x.strOf c
    let x := if x.pend then { x with dict := x.dict ++ [(x.prev, st.headD 0)], next := x.next + 1 } else x
    { r with x := { x with prev := c, pend := decide (x.next < 65536) } }.give st

/-- One code byte: the header's bytes are checked, then at most one code is complete. -/
def DecRun.byte (r : DecRun) (b : BitVec 8) : DecRun :=
  if r.stop.isSome then r else
  let r := { r with pos := r.pos + 1 }
  if r.x.hdrIn != 0 then
    let want : BitVec 8 := if r.x.hdrIn == 4 then 0x46 else if r.x.hdrIn == 3 then 0x4e else 0x01
    let r' := { r with x := { r.x with hdrIn := r.x.hdrIn - 1 } }
    if r.x.hdrIn == 1 || b == want then r' else { r' with stop := some 4 }
  else
    let r := { r with x := { r.x with bits := r.x.bits + b.toNat * 2 ^ r.x.nbits, nbits := r.x.nbits + 8 } }
    if r.x.width ≤ r.x.nbits then r.code else r

/-- A decompression job over its input (R326, R327); `pick` decides between CRC_BAD and LEN_BAD where both hold, which the spec leaves
open. -/
def decompress (x : FirnCtx) (flags outLen : Nat) (pick : Bool) (inp : List (BitVec 8)) : FirnRes :=
  let last := flags / 4 % 2 == 1
  let avail := x.held ++ inp
  let body := avail.take (avail.length - 12)
  let r := { x := x, space := outLen : DecRun }.give x.str
  let r := body.foldl DecRun.byte r
  let outb := r.out.reverse
  let x' := r.x.addRaw outb
  let used (n : Nat) : Nat := n - x.held.length
  match r.stop with
  | some st =>
    let n := r.pos - x.held.length
    { status := st, consumed := n, out := outb,
      x := { x' with held := x.held.drop r.pos, total := x.total + n } }
  | none =>
    let total := x.total + inp.length
    let x' := { x' with held := avail.drop (avail.length - 12), total := total }
    let done (st : Nat) : FirnRes := { status := st, consumed := used avail.length, out := outb, x := x', trailer := last }
    if !last then done 0
    else if decide (total < 16) || !r.x.aligned || r.x.nbits != 0 then done 11
    else
      let tr := x'.held
      let lenBad := leAt tr 0 8 != x'.len
      let crcBad := leAt tr 8 4 != (~~~ x'.crc).toNat
      if lenBad && crcBad then done (if pick then 5 else 6)
      else if crcBad then done 5
      else if lenBad then done 6
      else done 0

/-! Engines (R324, R330, R334). -/

/-- The resident context is valid with a tag, or invalid (R330). -/
def State.firnValid (s : State) (e : Nat) (v : Bool) : State := s.sf (R.FIRN_ESTAT e) F.FIRN_ESTAT_CTX_VALID (b2n v)

/-- ECMD.START (R334): with EN = 1 a STOPPED engine takes jobs again. -/
def firnStart (e : Nat) (s : State) : State :=
  if s.fst e == fiStopped && s.on (R.FIRN_ECTL e) F.FIRN_ECTL_EN then s.setFst e fiIdle else s

/-- ECMD.ABORT (R334): the running job ends at its next code boundary. -/
def firnAbort (e : Nat) (s : State) : State :=
  if s.fst e == fiBusy then s.setFirn e { s.firn e with abort := true } else s

/-- ECMD.DROP_CTX (R330). -/
def dropCtx (e : Nat) (s : State) : State := s.firnValid e false

/-- A write of ECTL (R334): EN = 0 lets the running job end and stops the engine. -/
def firnEctlWrite (e : Nat) (v : Word) (s : State) : State :=
  let s := s.wr (R.FIRN_ECTL e) (v &&& 1)
  if F.FIRN_ECTL_EN.get v == 0 && s.fst e == fiIdle then s.setFst e fiStopped else s

/-- A write of JOB_WR (R324, R337). -/
def jobWrWrite (e : Nat) (v : Word) (s : State) : State :=
  if s.rdN (R.FIRN_JOB_ENTRIES e) ≤ v.toNat % 65536 then s.firnErr e 8
  else s.wr (R.FIRN_JOB_WR e) (v &&& 0xffff)

/-- A write of CHUNK_MAX (R337). -/
def chunkMaxWrite (e : Nat) (v : Word) (s : State) : State :=
  let n := v.toNat % 2 ^ 17
  if decide (64 ≤ n) && decide (n ≤ 65536) && n % 4 == 0 then s.wrN (R.FIRN_CHUNK_MAX e) n else s.firnErr e 8

/-- The address of a slot of the ring (R324). -/
def State.jobAddr (s : State) (e i : Nat) : Nat :=
  s.rd64N (R.FIRN_JOB_BASE_LO e) (R.FIRN_JOB_BASE_HI e) % 2 ^ 40 / 64 * 64 + 64 * i

/-- The job in 64 bytes (R325). -/
def jobOf (addr : Nat) (b : List (BitVec 8)) : FirnJob :=
  { flags := leAt b 0 2, tag := leAt b 2 2, inLen := leAt b 4 4, inAddr := leAt b 8 8, outAddr := leAt b 16 8, outLen := leAt b 24 4,
    ctxAddr := leAt b 28 4 * 4096, frame := leAt b 32 4, line := leAt b 36 2, time := leAt b 40 8,
    resOk := leAt b 38 2 == 0, addr := addr }

def FirnJob.has (j : FirnJob) (n : Nat) : Bool := j.flags / 2 ^ n % 2 == 1
def FirnJob.dir (j : FirnJob) : Bool := j.has 0

/-- A bad job (R325): a reserved bit, a flag that a decompressor does not take, FIRST with CTX_LOAD, no output space. -/
def FirnJob.bad (j : FirnJob) : Bool :=
  decide (1024 ≤ j.flags) || decide (2 ^ 40 ≤ j.inAddr) || decide (2 ^ 40 ≤ j.outAddr) || decide (2 ^ 40 ≤ j.ctxAddr) || !j.resOk
    || (j.dir && (j.has 3 || j.has 4 || j.has 5 || j.has 9)) || (j.has 1 && j.has 6) || j.outLen == 0

/-- DRAM that answers over a byte range: Firn reads and writes DRAM only (R324). -/
def State.firnOk (s : State) (a n : Nat) : Bool := n == 0 || (s.dramOk a && s.dramOk (a + n - 1))

/-- A read by Firn: one that DRAM does not answer leaves a decode error (R26, R292, R305). -/
def State.firnRead (s : State) (a n : Nat) : State × Bool :=
  if s.firnOk a n then s.memRead a n else (s.missErr (if s.dramOk a then a + n - 1 else a), true)

/-- The size of a context image (R329). -/
def ctxBytes : Nat := 266240

/-- The context in an image (R329): an image that Firn saved and that nothing has altered; none fails the check. -/
def State.imageAt (s : State) (a : Nat) : Option FirnCtx :=
  (s.firnImgs.find? (fun p => (List.range ctxBytes).all (fun i => s.rdByte (a + i) == (Config.freeValue (p.1 + i)).setWidth 8))).map (·.2)

/-- A context image goes to memory (R329): its bytes are the engine's own. -/
def State.saveImage (s : State) (a : Nat) (x : FirnCtx) : State :=
  let i := s.freeIx
  let s := (s.memPut a (s.freeBytes ctxBytes)).1
  { s with freeIx := i + ctxBytes, firnImgs := (i, x) :: s.firnImgs }

/-- FIRN_JOB_START (R324, R326): the engine takes the job at JOB_RD and sets up its stream. -/
def firnJobStart (e : Nat) (s : State) : State :=
  let rp := s.rdN (R.FIRN_JOB_RD e)
  if s.fst e != fiIdle || !s.on (R.FIRN_ECTL e) F.FIRN_ECTL_EN || s.rdN (R.FIRN_JOB_ENTRIES e) == 0
    || rp == s.rdN (R.FIRN_JOB_WR e) then s else
  let a := s.jobAddr e rp
  let x := s.firn e
  let s := (s.setFst e fiBusy).sf (R.FIRN_LAST_RES e) (bit 31) 0
  let rd := s.firnRead a 64
  let s := rd.1
  let go (j : FirnJob) (early : Nat) (c : FirnCtx) (s : State) : State :=
    s.setFirn e { x with job := some j, early := early, abort := false, ctx := c }
  if rd.2 then (go { addr := a } 9 x.ctx s).firnValid e false else
  let j := jobOf a (s.rdBytes a 64)
  if j.bad then go j 8 x.ctx s
  else if j.has 1 then (go j 0 {} s).firnValid e false
  else if j.has 6 then
    let y := s.firnRead j.ctxAddr ctxBytes
    let s := y.1
    if y.2 then go j 9 x.ctx s else
    match s.imageAt j.ctxAddr with
    | some c => (go j 0 c s).firnValid e false
    | none => go j 7 x.ctx s
  else if s.on (R.FIRN_ESTAT e) F.FIRN_ESTAT_CTX_VALID && s.gf (R.FIRN_ESTAT e) F.FIRN_ESTAT_CTX_TAG == j.tag then go j 0 x.ctx s
  else go j 7 x.ctx s

/-- The EERR bit of a status (R327). -/
def firnBit (st : Nat) : Option Nat :=
  if 3 ≤ st && st ≤ 9 then some (st - 3) else if st == 11 then some 7 else none

/-- The FIRN packets of a job's `n` output bytes at `a` (R76, R333), from CHUNK_NO `k` on. -/
def firnPackets (j : FirnJob) (mx : Nat) (trailer : Bool) : Nat → Nat → Nat → Nat → List FirnPkt
  | 0, _, _, _ => []
  | fuel + 1, k, a, n =>
    if n == 0 then [] else
    let d := min mx n
    let h := leBytes 4 j.frame ++ leBytes 2 j.line ++ leBytes 2 k ++ leBytes 8 j.time
      ++ leBytes 4 (d + 2 ^ 24 * b2n (trailer && d == n))
    ⟨h, a, d⟩ :: firnPackets j mx trailer fuel (k + 1) (a + d) (n - d)

/-- What a running job comes to (R326 to R332): `fault` is 3 where the self-check fails, 9 where an access gets an error response, else 0. -/
def State.firnRun (s : State) (e : Nat) (j : FirnJob) (fault : Nat) : FirnRes :=
  let x := s.firn e
  let none' (st : Nat) : FirnRes := { status := st, consumed := 0, out := [], x := x.ctx }
  if x.early != 0 then none' x.early
  else if x.abort then none' 10
  else if fault == 9 then none' 9
  else if fault == 3 && !j.dir then none' 3
  else
    let inp := s.rdBytes j.inAddr j.inLen
    if j.dir then decompress x.ctx j.flags j.outLen (s.free.getLsbD 0) inp else compress x.ctx j.flags j.outLen inp

/-- KiB counters with their remainder. -/
def kib (rem n : Nat) : Nat × Nat := ((rem + n) / 1024, (rem + n) % 1024)

/-- FIRN_JOB_END (R325 to R334). -/
def firnJobEnd (e fault : Nat) (s : State) : State :=
  match (s.firn e).job with
  | none => s
  | some j =>
    let x := s.firn e
    let runs := x.early == 0 && !x.abort
    -- the accesses of the run, each of which may meet an error response
    let rd := if runs then s.firnRead j.inAddr j.inLen else (s, false)
    let s := rd.1.when (runs && !s.firnOk j.outAddr j.outLen) (·.missErr j.outAddr)
    let r := s.firnRun e j (if rd.2 || (runs && !s.firnOk j.outAddr j.outLen) then 9 else fault)
    let s := s.freeNext
    let void (st : Nat) : Bool := st == 2 || st == 3 || st == 9 || st == 10
    let wr := if void r.status then (s, false) else s.memPut j.outAddr r.out
    let save := decide (r.status ≤ 1) && j.has 7
    let s := wr.1.when (save && !s.firnOk j.ctxAddr ctxBytes) (·.missErr j.ctxAddr)
    let s := s.when (!s.firnOk j.addr 64) (·.missErr j.addr)
    let r := if wr.2 || (save && !s.firnOk j.ctxAddr ctxBytes) || !s.firnOk j.addr 64 then { r with status := 9 } else r
    let good := decide (r.status ≤ 1)
    -- output
    let s := if void r.status && x.early == 0 && s.firnOk j.outAddr j.outLen then
        let y := s.memPut j.outAddr (s.freeBytes j.outLen)
        { y.1 with freeIx := y.1.freeIx + j.outLen }
      else s
    -- packets, which advance CHUNK_NO before the context is saved
    let pk := if good && j.has 9 then
        firnPackets j (s.rdN (R.FIRN_CHUNK_MAX e)) r.trailer (r.out.length + 1) r.x.chunk j.outAddr r.out.length else []
    let ctx := { r.x with chunk := r.x.chunk + pk.length }
    let s := if good && j.has 7 then s.saveImage j.ctxAddr ctx else s
    -- results
    let known := decide (r.status ≤ 2) || r.status == 4 || r.status == 5 || r.status == 6 || r.status == 7 || r.status == 8 || r.status == 11
    let f (v : Nat) (i : Nat) : Nat := if known then v else (Config.freeValue (s.freeIx + i)).toNat % 2 ^ 32
    let cons := f r.consumed 0
    let prod := f r.out.length 1
    let crc := f (~~~ r.x.crc).toNat 2
    let s := if known then s else { s with freeIx := s.freeIx + 3 }
    let seq := (x.seq + 1) % 65536
    let s := if s.firnOk j.addr 64 then
        (s.memPut (j.addr + 48) (leBytes 8 (cons + 2 ^ 32 * prod) ++ leBytes 8 (crc + 2 ^ 32 * (r.status + 256 + 65536 * seq)))).1
      else s
    let s := s.wrN (R.FIRN_LAST_RES e) (seq + 65536 * r.status + 0x80000000)
    -- counters
    let ki := kib x.inB r.consumed
    let ko := kib x.outB r.out.length
    let s := (s.cntN (R.FIRN_IN_KIB e) ki.1).cntN (R.FIRN_OUT_KIB e) ko.1
    let s := s.when (r.status == 0) (·.cnt (R.FIRN_JOBS_DONE e))
    let s := s.when (r.status == 1) (·.cnt (R.FIRN_JOBS_OUT_FULL e))
    let s := s.when (r.status == 2) (·.cnt (R.FIRN_JOBS_EXPANDED e))
    let bad := (firnBit r.status).isSome
    let s := s.when bad (·.cnt (R.FIRN_JOBS_FAILED e))
    let s := s.setFirn e { x with ctx := ctx, job := none, early := 0, abort := false, seq := seq, out := pk, inB := ki.2, outB := ko.2 }
    -- the context, the ring and the state
    let s := (s.firnValid e good).when good (·.sf (R.FIRN_ESTAT e) F.FIRN_ESTAT_CTX_TAG j.tag)
    let s := s.sf (R.FIRN_ESTAT e) F.FIRN_ESTAT_RESUMABLE (b2n (r.status == 1))
    let rp := s.rdN (R.FIRN_JOB_RD e) + 1
    let s := s.wrN (R.FIRN_JOB_RD e) (if s.rdN (R.FIRN_JOB_ENTRIES e) ≤ rp then 0 else rp)
    let stop := bad || r.status == 10
    let s := s.setFst e (if stop then fiStopped else if !pk.isEmpty then fiSending
      else if s.on (R.FIRN_ECTL e) F.FIRN_ECTL_EN then fiIdle else fiStopped)
    let s := match firnBit r.status with
      | some b => s.firnErr e b
      | none => s
    s.when (j.has 8) (·.fire (1104 + 2 * e))

/-- Does a running stream-out port take KIND 5 with this INDEX (R92)? -/
def State.firnPort (s : State) (e : Nat) : Bool :=
  (List.range 32).any (fun q => s.role q == 2 && (s.port q).camRun && (List.range 4).any (fun v =>
    let w := s.rd (R.ACT_OUT_VC q v)
    F.ACT_OUT_VC_EN.get w == 1 && outVcOk w && F.ACT_OUT_VC_KIND.get w == 5 && F.ACT_OUT_VC_INDEX.get w == e))

/-- FIRN_PACKET_SEND (R333): the next packet goes to its port, after `stall` µs in which the port held it back, or is discarded. -/
def firnPacketSend (e stall : Nat) (s : State) : State :=
  if s.fst e != fiSending then s else
  match (s.firn e).out with
  | [] => s
  | p :: rest =>
    let s := s.setFirn e { s.firn e with out := rest }
    let s := (s.firnRead p.addr p.n).1
    let s := if s.firnPort e then (s.cntN (R.FIRN_STALL_US e) stall).streamOut 5 e ⟨0x24, 0, 0, p.hdr ++ padTo 4 (s.rdBytes p.addr p.n)⟩ else s.cnt (R.FIRN_OUT_DISCARD e)
    if rest.isEmpty then s.setFst e (if s.on (R.FIRN_ECTL e) F.FIRN_ECTL_EN then fiIdle else fiStopped) else s

end Sys2Proof.Machine
end

