-- ==== Sys2Proof/Machine/HearthWord.lean ====
section
/-! DEFINITION. The Hearth word: its fields (R181), registers and elements (R178 to R180), what a word reads and when it may issue
(R182, R183), its faults (R199), and how a word takes effect. -/

namespace Sys2Proof.Machine

/-! Fields of a word (R181). -/
def wf (w : BitVec 64) (lo n : Nat) : Nat := (w.extractLsb' lo n).toNat
def vop (w : BitVec 64) : Nat := wf w 0 6
def wW (w : BitVec 64) : Nat := wf w 6 3
def wVD (w : BitVec 64) : Nat := wf w 9 5
def wVA (w : BitVec 64) : Nat := wf w 14 5
def wVB (w : BitVec 64) : Nat := wf w 19 5
def wPG (w : BitVec 64) : Nat := wf w 24 3
def wPN (w : BitVec 64) : Bool := w.getLsbD 27
def wBS (w : BitVec 64) : Bool := w.getLsbD 28
def wSG (w : BitVec 64) : Bool := w.getLsbD 29
def wST (w : BitVec 64) : Bool := w.getLsbD 30
def wImm8 (w : BitVec 64) : Nat := wf w 31 8
def sop (w : BitVec 64) : Nat := wf w 39 5
def wSD (w : BitVec 64) : Nat := wf w 44 4
def wSA (w : BitVec 64) : Nat := wf w 48 4
def wSB (w : BitVec 64) : Nat := wf w 52 4
def wImm12 (w : BitVec 64) : Nat := wf w 52 12
def wImm16 (w : BitVec 64) : Nat := wf w 48 16

/-! Registers of a context (R178). -/
def HCtx.rv (x : HCtx) (n : Nat) : BitVec 3072 := x.v.get (fun _ => 0) n
def HCtx.rs (x : HCtx) (n : Nat) : Word := x.s.get (fun _ => 0) n
/-- p0 reads as all ones. -/
def HCtx.rp' (x : HCtx) (n : Nat) : BitVec 768 := if n = 0 then BitVec.allOnes 768 else x.p.get (fun _ => 0) n
def HCtx.wv (x : HCtx) (n : Nat) (v : BitVec 3072) : HCtx := { x with v := x.v.set (fun _ => 0) n v }
def HCtx.ws (x : HCtx) (n : Nat) (v : Word) : HCtx := { x with s := x.s.set (fun _ => 0) n v }
/-- Writes to p0 are ignored. -/
def HCtx.wp (x : HCtx) (n : Nat) (v : BitVec 768) : HCtx := if n = 0 then x else { x with p := x.p.set (fun _ => 0) n v }

/-! Elements (R179, R180). -/
/-- The gang of a width code. -/
def gang (w : Nat) : Nat := if w < 4 then w + 1 else 2 * w - 2
/-- The element width in bits. -/
def ebits (w : Nat) : Nat := 4 * gang w
/-- The number of elements. -/
def ecount (w : Nat) : Nat := 768 / gang w
/-- Element `e` as an unsigned number. -/
def elem (w : Nat) (x : BitVec 3072) (e : Nat) : Nat := (x.extractLsb' (ebits w * e) (ebits w)).toNat
/-- The elements of a register. -/
def elems (w : Nat) (x : BitVec 3072) : List Nat := (List.range (ecount w)).map (elem w x)
/-- A register from its elements. -/
def ofElems (w : Nat) (l : List Nat) : BitVec 3072 := BitVec.ofNat 3072 (packElems (ebits w) l)
/-- The guard of element `e` (R184). -/
def HCtx.guard (x : HCtx) (w : BitVec 64) (e : Nat) : Bool := (x.rp' (wPG w)).getLsbD e != wPN w
/-- Operand b of element `e`: the broadcast scalar or the element of VB (R184). -/
def HCtx.opB (x : HCtx) (w : BitVec 64) (e : Nat) : Nat :=
  if wBS w then (x.rs (wVB w % 16)).toNat % 2 ^ ebits (wW w) else elem (wW w) (x.rv (wVB w)) e

/-! The word in issue. -/

/-- The word at the program counter of a context. -/
def State.wordAt (s : State) (t c : Nat) : BitVec 64 :=
  let x := s.ctx t c
  let m := (s.tile t).imem
  let i := 2 * (x.prog.1 + x.pc)
  m.get (fun _ => 0) (i + 1) ++ m.get (fun _ => 0) i

/-- Is a context in an invocation, no word of it waiting for a place in the fragment queue? -/
def State.canIssue (s : State) (t c : Nat) : Bool :=
  let x := s.ctx t c
  s.cState t c == cxRunning && x.inv.isSome && x.after.isNone

/-- The row of the invocation (R186). -/
def HCtx.rowNo (x : HCtx) : Nat := match x.inv with | some (_, h) => h.no | none => 0
/-- Is the invocation a row entry? -/
def HCtx.inRow (x : HCtx) : Bool := match x.inv with | some (b, _) => b | none => false
/-- The layout of the context's group. -/
def State.ctxGroup (s : State) (t c : Nat) : GroupX := match (s.ctx t c).bind with | some (g, _, _) => s.group g | none => {}

/-- Is row r + dr within reach (R160)? -/
def GroupX.reach (x : GroupX) (dr : Int) : Bool :=
  decide (-((x.rowSlots - x.lh - 2 : Nat) : Int) ≤ dr) && decide (dr ≤ x.lh)

/-- The slot of row r + dr. A number below 0 is the row before the wrap of ROW_NO where the ring holds it, else a row before the
view's first: its slot is the one that many places back in the ring. -/
def State.rowSlot (s : State) (t c : Nat) (dr : Int) : Nat :=
  let x := s.ctxGroup t c
  let q : Int := ((s.ctx t c).rowNo : Int) + dr
  let a := x.slotAddr c (q % 0x100000000).toNat
  if q < 0 && lsNat (s.tile t).ls a 4 != (q % 0x100000000).toNat then x.slotAddr c (q % x.rowSlots).toNat else a

/-- The scratch address of VLDS and VSTS (R188). -/
def HCtx.vAddr (x : HCtx) (w : BitVec 64) : Nat := ((x.rs (wVA w % 16)).toNat + 64 * wImm8 w) % 0x100000000
/-- The scratch address of SLDS and SSTS (R188). -/
def HCtx.sAddr (x : HCtx) (w : BitVec 64) : Nat := ((x.rs (wSA w)) + BitVec.ofInt 32 (signed 12 (wImm12 w))).toNat

/-! Faults of a word (R199). -/

/-- The vector opcodes that are not reserved (R185). -/
def vopKnown (n : Nat) : Bool :=
  decide (n ≤ 0x06) || (decide (0x08 ≤ n) && decide (n ≤ 0x14)) || (decide (0x18 ≤ n) && decide (n ≤ 0x1d))
    || (decide (0x20 ≤ n) && decide (n ≤ 0x27)) || n == 0x30

/-- Do VNAR and VWID have a legal width, source width and part (R191)? -/
def ratioOk (large small part : Nat) : Bool :=
  decide (large < 6) && decide (small < 6) && decide (small < large) && gang large % gang small == 0
    && decide (part < gang large / gang small)

/-- The scalar that the vector slot writes. -/
def vecScalar (w : BitVec 64) : Option Nat := if vop w == 0x27 then some (wVD w % 16) else none
/-- Does a scalar opcode write its SD (R192)? -/
def sopWrites (n : Nat) : Bool :=
  (decide (0x01 ≤ n) && decide (n ≤ 0x11)) || n == 0x13 || n == 0x1a || n == 0x1b || n == 0x1c

/-- Code-1 causes in the vector slot. -/
def HCtx.vecBad (x : HCtx) (w : BitVec 64) : Bool :=
  let v := vop w
  let k := wImm8 w % 8
  !vopKnown v
    || (decide (6 ≤ wW w) && !(v == 0x1b || v == 0x1c || v == 0x1d))
    || (v == 0x23 && decide (wW w < 3))
    || (v == 0x24 && wW w != 3 && wW w != 5)
    || ((v == 0x21 || v == 0x22) && decide (gang (wW w) ≤ k))
    || (v == 0x25 && !ratioOk (wImm8 w / 8 % 8) (wW w) k)
    || (v == 0x26 && !ratioOk (wW w) (wImm8 w / 8 % 8) k)
    || (v == 0x06 && !x.inRow)
    || (v == 0x30 && (!x.inRow || x.lrow || (match x.runNext with | some n => decide ((x.rs 15).toInt < n) | none => false)))

/-- Code-1 causes in the scalar slot (R192 to R196). -/
def HCtx.scalBad (x : HCtx) (w : BitVec 64) : Bool :=
  let o := sop w
  let id := (x.rs (wSA w)).toNat
  let l := x.labels.find? (fun p => p.1 == id)
  let closed := match l with | some p => p.2.closed | none => false
  (o == 0x10 && decide (17 ≤ wImm12 w % 32))
    || (o == 0x13 && decide (6 ≤ wImm12 w % 8))
    || (o == 0x1a && (!x.inRow || x.lrow))
    || ((o == 0x1c || o == 0x1d || o == 0x1e || o == 0x1f) && decide (4096 ≤ id))
    || (o == 0x1d && (!labelWritable (wImm12 w) || l.isNone))
    || ((o == 0x1e || o == 0x1f) && !closed)

/-- Do both slots name the same scalar destination? -/
def sameDest (w : BitVec 64) : Bool := sopWrites (sop w) && vecScalar w == some (wSD w)

/-- A code-1 fault of the word. -/
def HCtx.code1 (x : HCtx) (w : BitVec 64) : Bool := x.vecBad w || x.scalBad w || sameDest w

/-- A code-2 fault of the word: a row out of reach, a scratch access misaligned or outside (R186, R188, R194). -/
def State.code2 (s : State) (t c : Nat) (w : BitVec 64) : Bool :=
  let x := s.ctx t c
  let g := s.ctxGroup t c
  let v := vop w
  let o := sop w
  let va := x.vAddr w
  let sa := x.sAddr w
  ((v == 0x01 || v == 0x02 || v == 0x03) && !g.reach (signed 6 (wImm8 w / 4)))
    || ((v == 0x04 || v == 0x05) && (va % 64 != 0 || decide (g.scratch * 64 < va + 384)))
    || (o == 0x10 && decide (wImm12 w % 32 ≤ 6) && !g.reach (signed 6 (wImm12 w / 32)))
    || ((o == 0x11 || o == 0x12) && (sa % 4 != 0 || decide (g.scratch * 64 < sa + 4)))

/-- The fault of the word at hand: illegal before out of reach. -/
def State.wordFault (s : State) (t c : Nat) (w : BitVec 64) : Option Nat :=
  if (s.ctx t c).code1 w then some 1 else if s.code2 t c w then some 2 else none

/-! Issue and latency (R182, R183). A register is named by a key: v0 to v31, s from 32, p from 48, the run unit 60, the label unit
61. -/

def kS (n : Nat) : Nat := 32 + n
def kP (n : Nat) : Nat := 48 + n
def kRun : Nat := 60
def kLabel : Nat := 61

/-- What the vector slot reads. -/
def vecReads (w : BitVec 64) : List Nat :=
  let v := vop w
  let pg := kP (wPG w)
  let b := if wBS w then kS (wVB w % 16) else wVB w
  if v == 0 then []
  else if v ≤ 0x03 then [kS 15, pg]
  else if v == 0x04 then [kS (wVA w % 16), pg]
  else if v == 0x05 then [wVD w, kS (wVA w % 16), pg]
  else if v == 0x06 then [wVA w, kS 15, pg]
  else if v == 0x08 then [pg]
  else if v == 0x12 || v == 0x13 || v == 0x20 || v == 0x22 || v == 0x23 || v == 0x25 || v == 0x26 || v == 0x27 then [wVA w, pg]
  else if v == 0x21 then [wVA w, wVD w, pg]
  else if v == 0x24 then [wVA w, b, wVD w, pg]
  else if v == 0x1b || v == 0x1c || v == 0x1d then [kP (wVA w % 8), kP (wVB w % 8)]
  else if v == 0x30 then [wVA w, kS 15, pg, kRun] ++ ((List.range 4).filter (fun k => wImm8 w / 2 ^ k % 2 == 1)).map
    (fun k => (wVB w + k) % 32)
  else [wVA w, b, pg]

/-- What the vector slot writes, with its latency. -/
def vecWrites (w : BitVec 64) : List (Nat × Nat) :=
  let v := vop w
  let pick (l : List Nat) : Nat := l.getD (wW w) 0
  if v == 0 || v == 0x05 || v == 0x06 then []
  else if v ≤ 0x04 then [(wVD w, 4)]
  else if v == 0x09 || v == 0x0a || v == 0x0c || v == 0x0d || v == 0x0e then [(wVD w, pick [1, 2, 2, 3, 4, 5])]
  else if v == 0x0b then [(wVD w, pick [3, 4, 5, 6, 8, 10])]
  else if v == 0x18 || v == 0x19 || v == 0x1a then [(kP (wVD w % 8), pick [1, 2, 2, 3, 4, 5])]
  else if v == 0x1b || v == 0x1c || v == 0x1d then [(kP (wVD w % 8), 1)]
  else if v == 0x20 then [(wVD w, 3)]
  else if v == 0x23 then [(wVD w, 4)]
  else if v == 0x24 then [(wVD w, pick [0, 0, 0, 5, 0, 7])]
  else if v == 0x25 || v == 0x26 then [(wVD w, 2)]
  else if v == 0x27 then [(kS (wVD w % 16), 8)]
  else if v == 0x30 then [(kRun, 2)]
  else [(wVD w, 1)]

/-- What the scalar slot reads. -/
def scalReads (w : BitVec 64) : List Nat :=
  let o := sop w
  let a := kS (wSA w)
  if o == 0 || o == 0x01 || o == 0x10 || o == 0x14 || o == 0x19 then []
  else if o == 0x02 then [kS (wSD w)]
  else if o == 0x03 || o == 0x09 || o == 0x0a || o == 0x0b || o == 0x11 || o == 0x15 || o == 0x16 then [a]
  else if o == 0x12 || o == 0x17 then [a, kS (wSD w)]
  else if o == 0x13 then [kP (wSA w % 8)]
  else if o == 0x18 || o == 0x1a || o == 0x1b then [kLabel]
  else if o == 0x1d then [a, kS (wSD w), kLabel]
  else if o == 0x1c || o == 0x1e || o == 0x1f then [a, kLabel]
  else [a, kS (wSB w)]

/-- The latency of the scalar slot's result. -/
def scalLatency (w : BitVec 64) : Nat :=
  let o := sop w
  if o == 0x0c || o == 0x11 || o == 0x1c then 3 else if o == 0x10 || o == 0x1b then 2 else 1

/-- The cycle in which the word issues: once all its operands are ready (R182). -/
def HCtx.issueAt (x : HCtx) (w : BitVec 64) : Nat :=
  (vecReads w ++ scalReads w).foldl (fun m k => max m (x.rdy.get (fun _ => 0) k)) x.cyc

/-- The cycle from which a result is ready; results to one register complete in issue order. -/
def HCtx.setReady (x : HCtx) (k n : Nat) : HCtx := { x with rdy := x.rdy.set (fun _ => 0) k (max n (x.rdy.get (fun _ => 0) k)) }

/-! Taking effect. -/

/-- Scratch words of the context. -/
def State.scratchWrite (s : State) (t c a : Nat) (bs : List (BitVec 8)) : State :=
  let g := s.ctxGroup t c
  s.setTile t { s.tile t with ls := putBlock (s.tile t).ls (g.scratchAddr c + a) bs }

/-- 384 bytes of scratch. -/
def State.scratchVec (s : State) (t c a : Nat) : BitVec 3072 :=
  BitVec.ofNat 3072 (lsNat (s.tile t).ls ((s.ctxGroup t c).scratchAddr c + a) 384)

/-- What the vector slot wrote takes effect (R182): a store after the scalar slot's, guarded bits only. -/
def State.vecEffect (s : State) (t c : Nat) (r : VRes) : State :=
  match r with
  | .none => s
  | .vec d v => s.setCtx t c ((s.ctx t c).wv d v)
  | .pred d v => s.setCtx t c ((s.ctx t c).wp d v)
  | .scal d v => s.setCtx t c ((s.ctx t c).ws d v)
  | .mem a v m => s.scratchWrite t c a (leBytes 384 ((v &&& m) ||| (s.scratchVec t c a &&& ~~~ m)).toNat)

/-- An invocation ends (R163, R165): a row entry's row is done, a frame entry's cycles count to its row. -/
def State.invDone (s : State) (t c cycles : Nat) : State :=
  let x := s.ctx t c
  let s := s.cstatF t c F.HEARTH_CTX_STAT_STATE cxIdle
  match x.inv with
  | some (true, h) => s.rowDone t c h cycles
  | _ => s.setCtx t c { x with inv := none, frameDone := true, cRow := x.cRow + cycles }

/-- A word completes: both slots take effect, the clock of the invocation moves on, and so does the program, to a fetch outside
the program (code 3), a break or a halt (code 5), or the end of the invocation. -/
def State.wordDone (s : State) (t c : Nat) (r : SRes) : State :=
  let x := s.ctx t c
  let w := s.wordAt t c
  let at' := x.issueAt w
  let s := match r.mem with | some (a, v) => s.scratchWrite t c a (leBytes 4 v.toNat) | none => s
  let s := s.vecEffect t c (x.vres.getD .none)
  let x := s.ctx t c
  let x := match r.reg with | some (d, v) => (x.ws d v).setReady (kS d) (at' + (if r.hold = 0 then scalLatency w else r.hold)) | none => x
  let x := ((vecWrites w).filter (fun e => e.1 != kP 0)).foldl (fun x e => x.setReady e.1 (at' + e.2)) x
  let next := at' + 1 + (if r.target.isSome then 2 else 0) + (r.hold - 1)
  let halt := x.haltReq || r.brk || x.dogReq
  let code := if x.dogReq then 4 else 5
  let pc := r.target.getD (x.pc + 1)
  let s := s.setCtx t c { x with cyc := next, pc := pc, vres := none, after := none, haltReq := false, dogReq := false }
  if r.fin then
    let s := s.invDone t c next
    if halt then s.ctxHaltWith t c code else s
  else if halt then s.ctxHaltWith t c code
  else if decide (x.prog.2 ≤ pc) then s.ctxHaltWith t c 3
  else s.wrN (R.HEARTH_CTX_PC t c) pc

/-- A word completes at once, or after the fragments it emitted have found a place (R170). -/
def State.wordEnd (s : State) (t c : Nat) (r : SRes) : State :=
  if s.stalled t c then s.setCtx t c { s.ctx t c with after := some r } else s.wordDone t c r

/-- A context stalled on a full queue goes on once its fragments have a place (R170). -/
def State.stallEnd (s : State) (t c : Nat) : State :=
  let x := s.ctx t c
  if s.stalled t c || x.stallAt.isNone then s else
  let n := s.pixSince (x.stallAt.getD s.cyc)
  let s := s.countStall t c
  match x.after with
  | none => s
  | some r => (s.setCtx t c { s.ctx t c with cyc := x.cyc + n, after := none }).wordDone t c r

/-- FRAGMENT_QUEUE_DRAIN (R170): one record leaves the queue; the oldest waiting record takes its place. -/
def fragmentQueueDrain (t : Nat) (s : State) : State :=
  let x := s.tile t
  match x.queue with
  | .frag f :: q =>
    let s := { s with mvIn := s.mvIn ++ [HItem.frag f] }
    let y := fillQueue q x.backlog
    let s := s.setTile t { x with queue := y.1, backlog := y.2 }
    let s := s.flowMarks t y.1.length
    times 4 (fun c s => s.stallEnd t c) s
  | _ => s

/-- The vector slot of the word in issue: an instruction of opcode `op` computes what it writes, or the word's fault halts the
context before either slot takes effect (R199). -/
def State.vecIssue (s : State) (t c op : Nat) (f : HCtx → BitVec 64 → State → State × VRes) : State :=
  let x := s.ctx t c
  let w := s.wordAt t c
  if !s.canIssue t c || x.vres.isSome || vop w != op then s else
  match s.wordFault t c w with
  | some k => s.ctxHaltWith t c k
  | none =>
    let r := f x w s
    r.1.setCtx t c { r.1.ctx t c with vres := some r.2 }

/-- The scalar slot of the word in issue: an instruction of opcode `op`, after the word's vector slot has read. -/
def State.scalIssue (s : State) (t c op : Nat) (f : HCtx → BitVec 64 → State → State × SRes) : State :=
  let x := s.ctx t c
  let w := s.wordAt t c
  if !s.canIssue t c || x.vres.isNone || sop w != op then s else
  let r := f x w s
  r.1.wordEnd t c r.2

/-- ILLEGAL_INSTRUCTION (R199): a code-1 cause halts the context before either slot takes effect. -/
def illegalInstruction (t c : Nat) (s : State) : State :=
  if s.canIssue t c && (s.ctx t c).vres.isNone && (s.ctx t c).code1 (s.wordAt t c) then s.ctxHaltWith t c 1 else s

end Sys2Proof.Machine
end

