-- ==== Sys2Proof/Machine/Memory.lean ====
section
/-! DEFINITION. The memory controller: INIT, tables and training (R291 to R295, R300, R301), scheduling (R288 to R290, R296), refresh
and zones (R297, R298), disturbance protection (R299), evacuation and refill (R303 to R306). -/

namespace Sys2Proof.Machine

/-! The table (R291 to R295). -/

/-- CAP: a channel's capacity in granules (R286). The reserved code gives no capacity: it is free. -/
def State.cap (s : State) : Nat := if s.mcDensity == 3 then Config.reservedCap else 65536 * 2 ^ s.mcDensity

/-- DRAM_TOP of a table (R292): the lowest granule whose channel granule is CAP or more. -/
def dramTop (t : List Nat) (cap : Nat) : Nat :=
  let tops := (List.range t.length).map (fun k =>
    let c := t.getD k 0
    let n := chanCount t c
    (cap - chanCount (t.take k) c + n - 1) / n * t.length + k)
  tops.foldl min (tops.headD 0)

/-- RES_BASE (R295). -/
def resBase (t : List Nat) (top reserve : Nat) : Nat := (top - reserve * 256) / t.length * t.length

/-- The granules of channel `c` below RES_BASE. -/
def State.belowRes (s : State) (c : Nat) : Nat := s.rdN R.MC_RES_BASE / s.mcTable.length * chanCount s.mcTable c

/-- The reserve granules on channels other than `c`. -/
def State.resOthers (s : State) (c : Nat) : Nat :=
  let t := s.mcTable
  let n := s.rdN R.MC_DRAM_TOP - s.rdN R.MC_RES_BASE
  n / t.length * (t.length - chanCount t c) + ((t.take (n % t.length)).filter (· != c)).length

/-- MC.STAT.RES_SHORT (R295). -/
def State.resShort (s : State) : Bool :=
  (List.range 6).any (fun c => s.cst c == csActive && decide (s.resOthers c < s.belowRes c))

/-- A table comes into force: DRAM_TOP and RES_BASE (R293 to R295). -/
def State.putTable (s : State) (t : List Nat) : State :=
  let top := dramTop t s.cap
  let s := ({ s with mcTable := t }).wrN R.MC_DRAM_TOP top
  s.wrN R.MC_RES_BASE (resBase t top (s.rdN R.MC_EVAC_RESERVE))

/-- The PERM registers as the default table (R293). -/
def State.defaultTable (s : State) : State :=
  let cs := (List.range 6).filter (fun n => s.cst n == csActive)
  let t := if cs.isEmpty then [] else (List.range 60).map (fun i => cs.getD (i % cs.length) 0)
  let s := times 64 (fun i s => s.wrN (R.MC_PERM i) (match t[i]? with | some c => c + 128 | none => 0)) s
  s.putTable t

/-- APPLY_TABLE (R294). -/
def applyTable (s : State) : State :=
  let ws := (List.range 64).map (fun i => s.rd (R.MC_PERM i))
  let val := ws.takeWhile (fun w => F.MC_PERM_VALID.get w == 1)
  let t := val.map (fun w => F.MC_PERM_CH.get w)
  let rest := ws.drop val.length
  if s.on R.MC_CTL F.MC_CTL_EN || val.isEmpty || rest.any (fun w => F.MC_PERM_VALID.get w == 1)
      || t.any (fun c => !(decide (c < 6) && s.cst c == csActive)) then s.mcErr 0
  else s.putTable t

/-! Training and INIT (R300, R301). -/

/-- INIT ends when no channel trains any more (R293, R301). -/
def State.initEnd (s : State) : State :=
  if !s.on R.MC_STAT F.MC_STAT_INIT_BUSY || (List.range 6).any (fun n => s.cst n == csTraining) then s else
  (s.defaultTable.sf R.MC_STAT F.MC_STAT_INIT_BUSY 0).sf R.MC_STAT F.MC_STAT_INIT_DONE 1

/-- MC.CMD.INIT (R301). The contents of DRAM are lost. -/
def mcInit (s : State) : State :=
  if s.on R.MC_CTL F.MC_CTL_EN || s.on R.MC_STAT F.MC_STAT_INIT_BUSY
      || (List.range 6).any (fun n => s.cst n == csEvacuating || s.cst n == csRefilling || s.cst n == csTraining) then s.mcErr 0 else
  let en := s.gf R.MC_CTL F.MC_CTL_CH_EN
  let s := { s with mcDensity := s.gf R.MC_CTL F.MC_CTL_DENSITY, mcClass := s.gf R.MC_CTL F.MC_CTL_CLASS, migCh := none
                    mem := s.mem.filter (fun e => !inDram e.1), memErr := s.memErr.filter (fun e => !inDram (8 * e.1)) }
  let s := (s.sf R.MC_STAT F.MC_STAT_INIT_DONE 0).sf R.MC_STAT F.MC_STAT_INIT_BUSY 1
  let s := s.sf R.MC_STAT F.MC_STAT_RES_USED 0
  let s := times 6 (fun n s =>
    let x := s.mc n
    let s := s.setMc n { coolAt := x.coolAt, devAt := x.devAt, stale := x.stale, starve := x.starve }
    let s := ((s.setCst n csOff).sf (R.MC_CH_STAT n) F.MC_CH_STAT_INSVC 0).setDebt n 0
    if en / 2 ^ n % 2 == 1 then s.startTraining n false else s) s
  s.initEnd

/-- TRAINING_DONE (R300, R301): the taps and windows of the eight lanes, and whether the ECC check of step 7 passed. -/
def trainingDone (n : Nat) (rd wr : List Word) (ecc : Bool) (s : State) : State :=
  if s.cst n != csTraining then s else
  let wide (w : Word) : Bool := decide (s.gf (R.MC_CH_CTL n) F.MC_CH_CTL_MIN_EYE ≤ F.MC_TRAIN_RD_WIDTH.get w)
  let pass := ecc && (List.range 8).all (fun i => wide (rd.getD i 0) && wide (wr.getD i 0))
  let s := times 8 (fun i s => (s.wr (R.MC_TRAIN_RD n i) (rd.getD i 0 &&& 0x3f7f7f)).wr (R.MC_TRAIN_WR n i) (wr.getD i 0 &&& 0x7f7f)) s
  let a := R.MC_TRAIN_STAT n
  let s := (((s.wr a (seqBump (s.rd a))).sf a F.MC_TRAIN_STAT_BUSY 0).sf a F.MC_TRAIN_STAT_PASS (b2n pass)).fire (976 + 4 * n)
  if s.on (R.MC_CH_STAT n) F.MC_CH_STAT_INSVC then
    let s := s.sf (R.MC_CH_STAT n) F.MC_CH_STAT_INSVC 0
    if pass then (s.setCst n csEvacuated).setMc n { s.mc n with intervals := 0 }
    else ((s.setCst n csRetired).raise R.MC_STAT (8 + n) siteMcStat).mcChErr n 3
  else
    let s := if pass then s.setCst n csActive else ((s.setCst n csDead).raise R.MC_STAT n siteMcStat).mcChErr n 3
    s.initEnd

/-- A write of MC.CTL (R301): EN = 1 before INIT_DONE is ignored. -/
def mcCtlWrite (v : Word) (s : State) : State :=
  if F.MC_CTL_EN.get v == 1 && !s.on R.MC_STAT F.MC_STAT_INIT_DONE then s.mcErr 0 else s.wr R.MC_CTL (v &&& 0xf33f)

/-! Refresh (R297, R299). -/

/-- REFRESH_ISSUE (R297). -/
def refreshIssue (n : Nat) (s : State) : State := s.refreshOne n

/-- REFRESH_DUE (R297): an idle channel pays at once, one with waiting requests postpones; at the limit the refresh is forced. -/
def refreshDue (n : Nat) (s : State) : State :=
  if !s.refreshes n then s else
  let s := if s.debtLimit n ≤ s.debt n then s.refreshOne n else s
  if !s.refreshes n then s else
  let s := s.setMc n { s.mc n with intervals := (s.mc n).intervals + 1 }
  let s := s.setDebt n (s.debt n + 1)
  if (s.mc n).q.isEmpty then s.refreshOne n else s.cnt (R.MC_REF_POSTPONED n)

/-- REFRESH_WINDOW_BOUNDARY (R297, R299): 8,192 intervals; every table is emptied. -/
def refreshWindowBoundary (n : Nat) (s : State) : State :=
  let x := s.mc n
  if x.intervals < 8192 then s else
  s.setMc n { x with intervals := 0, banks := x.banks.map (fun e => (e.1, { e.2 with table := [] })) |>.filter (fun e => e.2 != {}) }

/-- The channel enters the hot zone: every refresh owed is issued first (R298). -/
def State.enterHot (s : State) (n : Nat) : State :=
  let s := times (s.debt n) (fun _ s => s.refreshOne n) s
  let s := s.setMc n { s.mc n with coolAt := none }
  (s.sf (R.MC_CH_STAT n) F.MC_CH_STAT_HOT 1).fire 1000

/-- CHANNEL_TEMP_SAMPLE (R298). -/
def channelTempSample (n : Nat) (s : State) : State :=
  let dev := s.on (R.MC_CH_CTL n) F.MC_CH_CTL_TEMP_SRC
  let x := s.mc n
  let q : Int := if dev then 4 * signed 8 (s.rdN (R.MC_DEV_TEMP n))
    else signed 16 (s.rdN (R.CAL_TEMP (4 + n / 3))) + 4 * signed 8 (s.gf (R.MC_CH_CTL n) F.MC_CH_CTL_TEMP_OFFS)
  let s := s.sf (R.MC_CH_STAT n) F.MC_CH_STAT_TEMP_NOW ((q / 4) % 256).toNat
  if decide (340 < q) || (dev && x.stale) then
    (if s.hot n then s.setMc n { x with coolAt := none } else s.enterHot n)
  else if s.hot n && x.coolAt.isNone then s.setMc n { x with coolAt := some s.cyc } else s

/-- HOT_ZONE_EXIT (R298): 31.95 ms at or below 85 °C. -/
def hotZoneExit (n : Nat) (s : State) : State :=
  match (s.mc n).coolAt with
  | some c =>
    if s.hot n && decide (31948800 ≤ (s.cyc - c) * 8) then
      ((s.setMc n { s.mc n with coolAt := none }).sf (R.MC_CH_STAT n) F.MC_CH_STAT_HOT 0).fire 1000
    else s
  | none => s

/-- A write of DEV_TEMP (R298). -/
def devTempWrite (n : Nat) (v : Word) (s : State) : State :=
  (s.wr (R.MC_DEV_TEMP n) (v &&& 0xff)).setMc n { s.mc n with devAt := s.cyc, stale := false }

/-- DEV_TEMP_STALE (R298): DEV_TEMP not written for 100 ms under TEMP_SRC = 1. -/
def devTempStale (n : Nat) (s : State) : State :=
  if s.on (R.MC_CH_CTL n) F.MC_CH_CTL_TEMP_SRC && decide (100000000 ≤ (s.cyc - (s.mc n).devAt) * 8) then
    (s.setMc n { s.mc n with stale := true }).mcChErr n 4
  else s

/-! Requests (R289, R290, R296). -/

/-- MEM_REQUEST (R291, R292, R296): a request of at most one 64-byte block reaches its channel; bytes beyond the block belong to another
request. -/
def memRequest (tag addr len : Nat) (wr : Bool) (data : List (BitVec 8)) (s : State) : State :=
  if !s.dramOk addr then (s.decodeErr addr).emit (.memResp tag true []) else
  let n := min len (64 - addr % 64)
  let p := s.chanAddr addr
  let x := s.mc p.1
  let r : McReq := { tag := tag, addr := addr, len := n, wr := wr, data := data.take n, rmw := wr && partialWord addr n }
  let s := s.setMc p.1 { x with q := x.q ++ [r] }
  let k := s.bank p.1 (bankOf p.2)
  if k.row.isSome && k.row != some (rowOf p.2) then s.setBank p.1 (bankOf p.2) { k with row := none } else s

/-- The channel byte offset of a request. -/
def State.reqOff (s : State) (r : McReq) : Nat := (s.chanAddr r.addr).2

/-- May a request issue: no older one to its block waits, nothing but reads of its block is under way beside a read, and its row has no
neighbour refresh to wait for (R290, R296, R299)? -/
def State.mayIssue (s : State) (n : Nat) (older : List McReq) (r : McReq) : Bool :=
  older.all (fun o => o.addr / 64 != r.addr / 64) && (s.mc n).flight.all (fun o => o.addr / 64 != r.addr / 64 || (!o.wr && !r.wr))
    && !((s.mc n).owed.any (fun w => w.1 == bankOf (s.reqOff r) && w.2 == rowOf (s.reqOff r)
      && (s.bank n w.1).row != some w.2))

/-- Does a request hit an open row? -/
def State.rowHit (s : State) (n : Nat) (r : McReq) : Bool := (s.bank n (bankOf (s.reqOff r))).row == some (rowOf (s.reqOff r))

/-- The place in the queue of the request that the next command serves (R296): bypassed 64 times, then the oldest that hits an open
row, then the oldest. Each channel looks at 64 requests. -/
def State.pickReq (s : State) (n : Nat) : Option Nat :=
  let q := (s.mc n).q.take 64
  let ok (i : Nat) : Bool := match q[i]? with | some r => s.mayIssue n (q.take i) r | none => false
  let hit (i : Nat) : Bool := match q[i]? with | some r => s.rowHit n r | none => false
  let urg (i : Nat) : Bool := match q[i]? with | some r => r.urgent | none => false
  let is := (List.range q.length).filter ok
  match is.find? urg with
  | some i => some i
  | none => match is.find? hit with
    | some i => some i
    | none => is.head?

/-- Older requests to the same bank have been bypassed once more; one that reaches 64 becomes urgent and counts in STARVE. -/
def State.bypassed (s : State) (n i bank : Nat) : State :=
  let x := s.mc n
  let older := (x.q.take i).map (fun r =>
    if bankOf (s.reqOff r) == bank then { r with bypass := r.bypass + 1, urgent := decide (64 ≤ r.bypass + 1) } else r)
  let new := ((older.zip (x.q.take i)).filter (fun e => e.1.urgent && !e.2.urgent)).length
  s.setMc n { x with q := older ++ x.q.drop i, starve := min 0xffffffff (x.starve + new) }

/-- MEM_COMMAND_ISSUE (R296): one command slot of a channel in service; one in training serves nothing (R304). -/
def memCommandIssue (n : Nat) (s : State) : State :=
  match s.slotOne n with
  | some t => t
  | none =>
    match s.pickReq n with
    | none => s
    | some i =>
      match (s.mc n).q[i]? with
      | none => s
      | some r =>
        let a := s.reqOff r
        if !s.refreshes n then s
        else if !s.rowHit n r then
          (s.setMc n { s.mc n with q := (s.mc n).q.set i { r with acted := true } }).activate n (bankOf a) (rowOf a)
        else
        let s := s.bypassed n i (bankOf a)
        let s := s.setBank n (bankOf a) { s.bank n (bankOf a) with at' := s.cyc }
        let s := s.when (!r.acted) (·.cnt (R.MC_ROW_HITS n))
        let x := s.mc n
        let s := s.setMc n { x with q := x.q.eraseIdx i }
        if r.wr && !r.rmw then s.writeReq n r
        else (s.cnt (if r.rmw then R.MC_RMW n else R.MC_READS n)).setMc n { s.mc n with flight := (s.mc n).flight ++ [r] }

/-- MEM_READ_DONE (R289, R290): the data of the oldest read or read-modify-write under way comes; `ecc` is 0 where it shows no new error, 1 where
word `w` of its block has a single-bit error, else a double-bit error. -/
def memReadDone (n ecc w : Nat) (s : State) : State :=
  match (s.mc n).flight with
  | [] => s
  | r :: rest =>
    let s := s.setMc n { s.mc n with flight := rest }
    (s.upset (r.addr / 64 * 64 + 8 * (w % 8)) ecc).finishReq n r

/-- ROW_IDLE_CLOSE (R288): a row closes after 64 CLK_MC cycles, 600 MHz, without an access. -/
def rowIdleClose (n b : Nat) (s : State) : State :=
  let k := s.bank n b
  if decide (64 ≤ (s.cyc - k.at') * 24 / 5) then s.setBank n b { k with row := none } else s

/-! Evacuation and refill (R303 to R306). -/

/-- How many blocks of the displaced channel are to move. -/
def State.migTotal (s : State) (n : Nat) : Nat := if s.migBack then s.migTop else s.belowRes n * 64

/-- The migration is complete when every block has moved (R303). -/
def State.migCheck (s : State) (n : Nat) : State :=
  if s.rdN (R.MC_MIG_PTR n) < s.migTotal n then s else
  if s.cst n == csEvacuating then ({ s.setCst n csEvacuated with migTop := s.migTotal n }).fire (977 + 4 * n)
  else if s.cst n == csRefilling then
    (({ s.setCst n csActive with migCh := none, migBack := false, migTop := 0 }).sf R.MC_STAT F.MC_STAT_RES_USED 0).fire (977 + 4 * n)
  else s

/-- CH_CMD.EVAC (R303). -/
def evac (n : Nat) (s : State) : State :=
  if s.cst n != csActive then s.mcErr 0
  else if s.resShort || (List.range 6).any (fun m => m != n && !(s.cst m == csActive || s.cst m == csDead || s.cst m == csOff)) then
    s.mcErr 1
  else
    let s := (s.wr (R.MC_MIG_PTR n) 0).sf R.MC_STAT F.MC_STAT_RES_USED 1
    ({ s.setCst n csEvacuating with migCh := some n, migBack := false, migTop := 0 }).migCheck n

/-- CH_CMD.CANCEL (R303): the blocks already moved migrate back. -/
def evacCancel (n : Nat) (s : State) : State :=
  if s.cst n != csEvacuating then s.mcErr 0 else
  let top := s.rdN (R.MC_MIG_PTR n)
  ({ (s.wr (R.MC_MIG_PTR n) 0).setCst n csRefilling with migBack := true, migTop := top }).migCheck n

/-- CH_CMD.TRAIN (R304): at the next refresh. -/
def chTrain (n : Nat) (s : State) : State :=
  if s.cst n != csEvacuated then s.mcErr 0 else s.setMc n { s.mc n with trainPend := true }

/-- CH_CMD.REFILL (R303). -/
def refill (n : Nat) (s : State) : State :=
  if s.cst n != csEvacuated then s.mcErr 0 else
  let s := (s.wr (R.MC_MIG_PTR n) 0).setMc n { s.mc n with trainPend := false }
  ({ s.setCst n csRefilling with migBack := true }).migCheck n

/-- CH_CMD.RETIRE (R303, R306). -/
def retire (n : Nat) (s : State) : State :=
  if s.cst n != csEvacuated then s.mcErr 0 else
  ((s.setMc n { s.mc n with trainPend := false }).setCst n csRetired).raise R.MC_STAT (8 + n) siteMcStat

/-- Requests that wait at channel `n` but whose block has moved go to the channel that holds it (R305). -/
def State.reroute (s : State) (n : Nat) : State :=
  let x := s.mc n
  let gone := x.q.filter (fun r => (s.chanAddr r.addr).1 != n)
  gone.foldl (fun s r =>
    let c := (s.chanAddr r.addr).1
    s.setMc c { s.mc c with q := (s.mc c).q ++ [{ r with acted := false }] })
    (s.setMc n { x with q := x.q.filter (fun r => (s.chanAddr r.addr).1 == n) })

/-- The errors of a block go with its words. -/
def State.moveErrs (s : State) (src dst : Nat) : State :=
  times 8 (fun i s => s.setWordErr (dst / 8 + i) (s.wordErr (src / 8 + i))) s

/-- MIGRATE_BLOCK (R305): one 64-byte block is copied raw, check bits included; `ue` names a word of it that has met a double-bit error. The slot
goes to a refresh that is forced or a neighbour refresh that is owed on either channel, and the copy waits for accesses to its block that
are under way. -/
def migrateBlock (n : Nat) (ue : Option Nat) (s : State) : State :=
  if !(s.cst n == csEvacuating || s.cst n == csRefilling) then s else
  let b := s.rdN (R.MC_MIG_PTR n)
  let g := b / 64
  let own := 0x100000000 + granuleAt s.mcTable n g * 4096 + b % 64 * 64
  let other := 0x100000000 + targetOf s.mcTable (s.rdN R.MC_RES_BASE) n g * 4096 + b % 64 * 64
  let po := place s.mcTable (granuleOf other)
  match s.slotOne n, s.slotOne po.1 with
  | some t, _ => t
  | none, some t => t
  | none, none =>
    if (s.mc n).flight.any (fun r => r.addr / 64 == own / 64) || (s.mc po.1).flight.any (fun r => r.addr / 64 == own / 64) then s else
    let s := match ue with | some w => s.upset (own + 8 * (w % 8)) 2 | none => s
    let src := if s.migBack then other else own
    let dst := if s.migBack then own else other
    let s := ((s.touchRow n (g * 4096 + b % 64 * 64)).1.touchRow po.1 (po.2 * 4096 + b % 64 * 64)).1
    let bad := (List.range 8).any (fun i => s.wordErr (src / 8 + i) == 2)
    let s := (times 64 (fun i s => s.setRaw (dst + i) (s.rawByte (src + i))) s).moveErrs src dst
    let s := s.when bad (fun s => (s.cnt (R.MC_UE_MIGRATED n)).mcChErr n 2)
    ((((s.wrN (R.MC_MIG_PTR n) (b + 1)).reroute n).reroute po.1).cnt (R.MC_MIGRATED_BLOCKS n)).migCheck n

end Sys2Proof.Machine
end

