-- ==== Sys2Proof/Machine/RegAct.lean ====
section
/-! DEFINITION. What a write of a register does where it is more than storing a value (R378): the commands of the SC registers, the
registers with ranges, and the registers whose write acts at once. -/

namespace Sys2Proof.Machine

/-- The commands of an SC register, for each bit written 1, from the lowest bit up (R378). -/
def scBits (v : Word) (fs : List (State → State)) (s : State) : State :=
  fs.zipIdx.foldl (fun s e => if v.getLsbD e.2 then e.1 s else s) s

/-- Storing a value whose range is checked (R255, R284, R308): a value out of range is ignored and reported. -/
def rangeWrite (ok : Bool) (a : Nat) (v : Word) (err : State → State) (s : State) : State := if ok then s.wr a v else err s

abbrev RegAct := Option (State → State)

/-- LANE (R46, R59): a RETRAIN and an APPLY in one write give the APPLY alone. -/
def actLane (d : Nat) (v : Word) : RegAct :=
  let q := d / 0x10000
  let o := d % 0x10000
  let n := 4 * q + (o - 0x1000) / 0x400
  if o == 4 then some (if F.LANE_QUAD_CMD_APPLY.get v == 1 then quadApply q else scBits v [id, quadRetrain q])
  else if o < 0x1000 then none
  else match o % 0x400 with
    | 0x00 => some (laneCtlWrite n v)
    | 0x04 => some (laneFfeWrite n v)
    | 0x08 => some (scBits v [laneRetrain n, injSingle n, injBurst n, eyeStart n])
    | 0x18 => some (prbsCtlWrite n v)
    | _ => none

/-- PORT_CMD (R82): each bit acts in the state that stands when it is written. -/
def portCmd (q : Nat) (v : Word) (s : State) : State :=
  scBits v [portStart q, fun t => if s.pst q == psRun then portStop q t else t, portResetLink q, portRediscover q] s

/-- ACT (R98). -/
def actAct (d : Nat) (v : Word) : RegAct :=
  let q := d / 0x10000
  match d % 0x10000 with
  | 0x004 => some (portCmd q v)
  | 0x1c0 => some (outVcWrite q 0 v)
  | 0x1c4 => some (outVcWrite q 1 v)
  | 0x1c8 => some (outVcWrite q 2 v)
  | 0x1cc => some (outVcWrite q 3 v)
  | 0x0c8 => some (scBits v [bcGo q])
  | 0x144 => some (scBits v [tsGo q])
  | _ => none

/-- FE (R124). -/
def actFe (d : Nat) (v : Word) : RegAct :=
  let n := d / 0x40000
  match d % 0x40000 with
  | 0x000 => some (feCtlWrite n v)
  | 0x004 => some (scBits v [feApply n, feSwitchNext n, tabInit n])
  | 0x064 => some (tabDataWrite n v)
  | _ => none

/-- STITCH and DRIFT (R152, R153). -/
def actStitch (d : Nat) (v : Word) : RegAct :=
  if d == 4 then some (stitchTabLoWrite v)
  else if d == 8 then some (stitchTabHiWrite v)
  else if decide (0x1000 ≤ d) && d % 0x400 == 4 then
    let w := (d - 0x1000) / 0x400
    some (scBits v [viewApply w, viewSwap w, viewCancelSwap w])
  else none

def actDrift (d : Nat) (v : Word) : RegAct :=
  let w := d / 0x400
  if d % 0x400 == 0 then some (driftCtlWrite w v)
  else if d % 0x400 == 4 then some (scBits v [driftSeed w, driftProbe w])
  else none

/-- HEARTH (R176, R177): the tile registers and, in the window of T0, the group registers. -/
def actHearth (d : Nat) (v : Word) : RegAct :=
  let t := d / 0x100000
  let o := d % 0x100000
  if 0xf0000 ≤ o then
    let g := (o - 0xf0000) / 0x400
    if o % 0x400 == 4 then some (scBits v [groupApply g, swapProg g, swapClut g, groupCancelSwap g]) else none
  else if o == 8 then some (rowCycWrite t v)
  else if decide (0x20 ≤ o) && decide (o < 0x60) && o % 0x10 == 4 then
    let c := (o - 0x20) / 0x10
    some (scBits v [ctxResume t c, ctxContinue t c, ctxHalt t c])
  else none

/-- A write of MCTL (R231): EN acts at once, the other fields at APPLY (R229). -/
def mctlWrite (v : Word) (s : State) : State :=
  let v := v &&& (((regInfo R.MORAINE_MCTL).map (·.mask)).getD 0)
  (s.wr R.MORAINE_MCTL v).sf R.MORAINE_MSTAT F.MORAINE_MSTAT_RUNNING (F.MORAINE_MCTL_EN.get v)

/-- A write of a register that gives the highest value since it was last written (R225, R238): it reads at least the value in use. -/
def peakWrite (peak used : Nat) (v : Word) (s : State) : State := s.wrN peak (max (v.toNat % 0x20000) (s.rdN used))

/-- MORAINE (R231). -/
def actMoraine (d : Nat) (v : Word) : RegAct :=
  match d with
  | 0x000 => some (mctlWrite v)
  | 0x004 => some (scBits v [moraineApply, swapRules, swapFt, moraineClear])
  | 0x03c => some (peakWrite R.MORAINE_OBJ_PEAK R.MORAINE_OBJ_USED v)
  | _ => none

/-- BELLOWS and EJL (R255, R256): DISARM and ARM in one write give a disarm (R253). -/
def actBellows (d : Nat) (v : Word) : RegAct :=
  match d with
  | 0x000 => some (bctlWrite v)
  | 0x004 => some (scBits v [fun s => if v.getLsbD 1 then s else armCmd s, disarmCmd, kick, testAct, bellowsClear])
  | 0x010 =>
    let ahead := (⟨0, 16⟩ : Fld).get v
    let least := (⟨16, 8⟩ : Fld).get v
    some (rangeWrite (decide (100 ≤ ahead) && decide (ahead ≤ 50000) && decide (40 ≤ least)) R.BELLOWS_LEAD (v &&& 0xffffff)
      (·.belErr 8))
  | 0x020 => some (peakWrite R.BELLOWS_Q_PEAK R.BELLOWS_Q_USED v)
  | 0x018 =>
    let us := (⟨0, 16⟩ : Fld).get v
    some (rangeWrite (decide (200 ≤ us) && decide (us ≤ 50000)) R.BELLOWS_MAX_ON_US (v &&& 0xffff) (·.belErr 8))
  | _ =>
    if d < 0x100000 then none else
    let l := (d - 0x100000) / 0x80
    match (d - 0x100000) % 0x80 with
    | 0x00 => some (lctlWrite l v)
    | 0x04 => some (scBits v [linkResync l])
    | _ => none

/-- FB (R284). -/
def actFb (d : Nat) (v : Word) : RegAct :=
  let n := d / 0x80
  match d % 0x80 with
  | 0x00 => some (fbCtlWrite n v)
  | 0x04 => some (scBits (if (bit 2).get v == 1 then v &&& ~~~2#32 else v) [fbSetPos n, armIndex n, disarmIndex n])
  | 0x24 =>
    let us := (⟨0, 24⟩ : Fld).get v
    some (rangeWrite (decide (1000 ≤ us) && decide (us ≤ 10000000)) (R.FB_SPEED_TIMEOUT n) (v &&& 0xffffff) (·.fbErr n 4))
  | _ => none

/-- AX (R285). -/
def actAx (d : Nat) (v : Word) : RegAct :=
  let a := d / 0x200
  match d % 0x200 with
  | 0x000 => some (axCtlWrite a v)
  | 0x004 => some (scBits v [push a, axStopCmd a, estop a, home a, clrLim a, axSetPos a, gearOn a, gearArm a, gearCancel a, stallRearm a])
  | 0x030 => some (rangeWrite (v != 0) (R.AX_STOP_DEC a) v (·.axErr a 11))
  | 0x038 =>
    let f := (⟨16, 8⟩ : Fld).get v
    some (rangeWrite (decide (1 ≤ f) && decide (f ≤ 60)) (R.AX_CHOP a) (v &&& 0xffffff) (·.axErr a 11))
  | 0x05c => some (rangeWrite ((⟨16, 16⟩ : Fld).get v != 0) (R.AX_GEAR a) v (·.axErr a 11))
  | 0x060 => some (rangeWrite ((⟨16, 16⟩ : Fld).get v != 0) (R.AX_GEAR_NEXT a) v (·.axErr a 11))
  | _ => none

/-- A write of CH_CMD (R303): of the commands that the channel's state accepts the later row wins; a command that no row accepts sets
CFG_ERR. -/
def chCmdWrite (n : Nat) (v : Word) (s : State) : State :=
  let b (f : Fld) : Bool := f.get v == 1
  let ev := b F.MC_CH_CMD_EVAC
  let ca := b F.MC_CH_CMD_CANCEL
  let out := b F.MC_CH_CMD_TRAIN || b F.MC_CH_CMD_REFILL || b F.MC_CH_CMD_RETIRE
  if s.cst n == csActive then (s.when ev (evac n)).when (ca || out) (·.mcErr 0)
  else if s.cst n == csEvacuating then (s.when ca (evacCancel n)).when (ev || out) (·.mcErr 0)
  else if s.cst n == csEvacuated then
    (if b F.MC_CH_CMD_RETIRE then retire n s else if b F.MC_CH_CMD_REFILL then refill n s
      else if b F.MC_CH_CMD_TRAIN then chTrain n s else s).when (ev || ca) (·.mcErr 0)
  else s.when (ev || ca || out) (·.mcErr 0)

/-- MC (R308): PERM only while EN = 0 (R294). -/
def actMc (d : Nat) (v : Word) : RegAct :=
  match d with
  | 0x000 => some (mcCtlWrite v)
  | 0x004 => some (scBits v [mcInit, applyTable])
  | 0x01c => some (rangeWrite ((⟨0, 8⟩ : Fld).get v != 0) R.MC_MIGRATE_RATE (v &&& 0xff) (·.mcErr 0))
  | _ =>
    if decide (0x100 ≤ d) && decide (d < 0x200) then
      some (fun s => rangeWrite (!s.on R.MC_CTL F.MC_CTL_EN) (0x48000000 + d)
        (v &&& (((regInfo (0x48000000 + d)).map (·.mask)).getD 0)) (·.mcErr 0) s)
    else if d < 0x1000 then none else
    let n := (d - 0x1000) / 0x400
    match d % 0x400 with
    | 0x04 => some (chCmdWrite n v)
    | 0x10 => some (rangeWrite (decide (1024 ≤ (⟨0, 16⟩ : Fld).get v)) (R.MC_DIST_THR n) (v &&& 0xffff) (·.mcErr 0))
    | 0x14 => some (devTempWrite n v)
    | _ => none

/-- DMA (R336). -/
def actDma (d : Nat) (v : Word) : RegAct :=
  if d < 0x1000 then none else
  let c := (d - 0x1000) / 0x100
  match d % 0x100 with
  | 0x00 => some (dmaChCtlWrite c v)
  | 0x04 => some (scBits v [dmaStart c, dmaAbort c, dmaResume c])
  | 0x08 => some (scBits v [doorbellRing c])
  | _ => none

/-- FIRN (R337). -/
def actFirn (d : Nat) (v : Word) : RegAct :=
  if d < 0x1000 then none else
  let e := (d - 0x1000) / 0x100
  match d % 0x100 with
  | 0x00 => some (firnEctlWrite e v)
  | 0x04 => some (scBits v [firnStart e, firnAbort e, dropCtx e])
  | 0x1c => some (jobWrWrite e v)
  | 0x24 => some (chunkMaxWrite e v)
  | _ => none

/-- ETH (R346). -/
def actEth (d : Nat) (v : Word) : RegAct :=
  match d with
  | 0x018 => some (maxLenWrite v)
  | 0x02c => some (txWrWrite v)
  | 0x050 => some (fun s => s.ethSlotWrite R.ETH_RX_RD R.ETH_RX_ENTRIES v)
  | 0x064 => some (if F.ETH_MDIO_CMD_GO.get v == 1 then mdioGo v else mdioStore v)
  | _ => none

/-- PTP and TPG (R352, R356). -/
def actPtp (d : Nat) (v : Word) : RegAct :=
  match d with
  | 0x004 => some (pcmdWrite v)
  | 0x014 => some (incrNsWrite v)
  | 0x018 => some (stepMaxWrite v)
  | _ =>
    if d < 0x100000 then none else
    let k := (d - 0x100000) / 0x80
    match (d - 0x100000) % 0x80 with
    | 0x00 => some (tpCtlWrite k v)
    | 0x04 => some (tcmdWrite k v)
    | _ => none

/-- EVF (R364). -/
def actEvf (m : Master) (d : Nat) (v : Word) : RegAct :=
  if d == 0 then some (fun s => if v.getLsbD 0 || s.on R.EVF_LOCK (bit 0) then routeLock m s else s)
  else if decide (0x40 ≤ d) && decide (d < 0x48) then some (swFire ((d - 0x40) / 4) v)
  else if decide (0x60 ≤ d) && decide (d < 0x80) then some (chFire ((d - 0x60) / 4) v)
  else if decide (0x1000 ≤ d) && decide (d < 0x1400) then some (evfRouteWrite m false ((d - 0x1000) / 4) v)
  else if decide (0x2000 ≤ d) && decide (d < 0x2200) then some (evfRouteWrite m true ((d - 0x2000) / 4) v)
  else none

/-- A write of BOOT_ADDR_LO, BOOT_ADDR_HI or PROT_LOCK (R382, R391). -/
def bootWrite (m : Master) (a : Nat) (v : Word) (s : State) : State :=
  if s.on R.SYS_PROT_LOCK (bit 0) then s.lockViolation m a else s.wr a v

/-- SYS and GUARD (R391, R392). -/
def actSys (m : Master) (d : Nat) (v : Word) : RegAct :=
  match d with
  | 0x004 => some (scBits v [snapGo])
  | 0x010 => some (coreCtlWrite m v)
  | 0x018 => some (bootWrite m R.SYS_BOOT_ADDR_LO (v &&& 0xfffffffc))
  | 0x01c => some (bootWrite m R.SYS_BOOT_ADDR_HI (v &&& 0xff))
  | 0x020 => some (bootWrite m R.SYS_PROT_LOCK (v &&& 1))
  | _ =>
    if decide (0x0c0 ≤ d) && decide (d < 0x0e0) then some (fun s =>
      let h := (d - 0x0c0) / 4
      let old := s.rdN (R.SYS_MSIP h)
      (s.wr (R.SYS_MSIP h) (v &&& 1)).when (old == 0 && v.getLsbD 0) (·.emit (.softIrq h)))
    else none

def actGuard (m : Master) (d : Nat) (v : Word) : RegAct :=
  match d with
  | 0x000 => some (gctlWrite v)
  | 0x010 => some (fun s => scBits v [toG0, toG1, fun s => if masterPriv m then toApp m s else s] s)
  | _ => none

/-- IRQC (R389, R393): an unprivileged master reaches only what belongs to sources with PRIV = 0. -/
def actIrqc (m : Master) (d : Nat) (v : Word) : RegAct :=
  let p := masterPriv m
  if d < 0x1400 then
    let a := R.IRQC_PRIO (d / 4)
    some (fun s => if p then s.wr a (v &&& 0xf) else if s.irqPriv (d / 4) then s else s.wr a (v &&& 7))
  else if decide (0x2000 ≤ d) && decide (d < 0x20a0) then
    let i := (d - 0x2000) / 4
    some (fun s => s.wr (R.IRQC_PEND i) (s.rd (R.IRQC_PEND i) &&& ~~~(if p then v else v &&& ~~~s.privMask i)))
  else if d < 0x10000 then none
  else
    let t := (d - 0x10000) / 0x100
    let o := d % 0x100
    if o == 0xc8 then some (irqComplete m t (v.toNat % 2048))
    else if o < 0xa0 then
      let a := R.IRQC_ENABLE t (o / 4)
      some (fun s => if p then s.wr a v else
        let k := s.privMask (o / 4)
        s.wr a ((s.rd a &&& k) ||| (v &&& ~~~k)))
    else none

/-- TWIN (R415). -/
def actTwin (d : Nat) (v : Word) : RegAct :=
  match d with
  | 0x000 => some (tctlWrite v)
  | 0x004 => some (scBits v [claim, join, handoverCmd, twinResync, userSend])
  | 0x010 => some (mirrorPeriodWrite v)
  | 0x018 => some (matchWaitWrite v)
  | 0x0c0 => some (userCtlWrite v)
  | _ => none

/-- SUP, CAL and ERRLOG (R430 to R432). -/
def actSup (d : Nat) (v : Word) : RegAct :=
  match d with
  | 0x000000 => some (sctlWrite v)
  | 0x100000 => some (cctlWrite v)
  | 0x100004 => some (fun s => times 8 (fun i s => if v.getLsbD i then calRunCmd i s else s) s)
  | 0x200000 => some (blockStickyClear v)
  | 0x200008 => some (scBits v [errlogClear])
  | _ => none

/-- ETH, UART, QSPI, IIC (R346, R446 to R448). -/
def actSlow (d : Nat) (v : Word) : RegAct :=
  if d < 0x100000 then actEth d v
  else if d < 0x120000 then
    let i := (d - 0x100000) / 0x10000
    if d % 0x10000 == 4 then some (scBits v [uartTxPush i, uartRxPop i, uartFlush i]) else none
  else match d with
    | 0x200004 => some (scBits v [qspiGo])
    | 0x200024 => some (rstReq v)
    | 0x300004 => some (scBits v [iicGo])
    | _ => none

/-- The effect of a write of `v` to the register at `a`; none where the register only stores. -/
def regAct (m : Master) (a : Nat) (v : Word) : RegAct :=
  let d := a % 0x1000000
  match a / 0x1000000 with
  | 0x40 => actSys m d v
  | 0x41 => actGuard m d v
  | 0x42 => actSup d v
  | 0x43 => actIrqc m d v
  | 0x44 => actEvf m d v
  | 0x45 => actPtp d v
  | 0x46 => actDma d v
  | 0x47 => actFirn d v
  | 0x48 => actMc d v
  | 0x49 => actLane d v
  | 0x4a => actAct d v
  | 0x4b => actFe d v
  | 0x4c => actStitch d v
  | 0x4d => actDrift d v
  | 0x50 | 0x51 | 0x52 | 0x53 => actHearth (a - 0x50000000) v
  | 0x54 => actMoraine d v
  | 0x55 => actBellows d v
  | 0x56 => if d < 0x100000 then actFb d v else actAx (d - 0x100000) v
  | 0x57 => actTwin d v
  | 0x58 => actSlow d v
  | _ => none

/-- The obligations of R12 on a write: no reserved code where the spec gives the block no behaviour: LOOPBACK 3, PRBS polynomial 3. -/
def regMust (a : Nat) (v : Word) : Bool :=
  let d := a % 0x10000
  if a / 0x1000000 == 0x49 && decide (0x1000 ≤ d) && d % 0x400 == 0 then F.LANE_LANE_CTL_LOOPBACK.get v != 3
  else if a / 0x1000000 == 0x49 && decide (0x1000 ≤ d) && d % 0x400 == 0x18 then
    F.LANE_PRBS_CTL_GEN_POLY.get v != 3 && F.LANE_PRBS_CTL_CHK_POLY.get v != 3
  else true

end Sys2Proof.Machine
end

