-- ==== Sys2Proof/Machine/Bus.lean ====
section
/-! DEFINITION. The bus: where an address lies (R24, R26, R371), sizes (R372), privilege (R376, R389), reading and writing a register
(R378) or an array, and the answers of the island during a main-domain reset (R369). -/

namespace Sys2Proof.Machine

/-- Where an address lies (R24). -/
inductive Region where
  | rom | sram | dram | win | nowhere
deriving DecidableEq, Repr

def regionOf (a : Nat) : Region :=
  if a < 0x40000 then .rom else if inSram a then .sram else if inDram a then .dram else if inWindow a then .win else .nowhere

/-! Arrays (R172, R176, R204, R231, R271, R285). -/

/-- The arrays in the block windows. -/
inductive Arr where
  | imem (t : Nat) (bc : Bool) | clut (t : Nat) (bc : Bool) | lines (t : Nat) | rules | flights | objects | segs
deriving DecidableEq, Repr

/-- The array at an address, and the offset in it. -/
def arrayAt (a : Nat) : Option (Arr × Nat) :=
  if decide (0x50000000 ≤ a) && decide (a < 0x54000000) then
    let t := (a - 0x50000000) / 0x100000
    let o := a % 0x100000
    if decide (0x10000 ≤ o) && decide (o < 0x14000) then some (.imem t false, o - 0x10000)
    else if decide (0x20000 ≤ o) && decide (o < 0x30000) then some (.clut t false, o - 0x20000)
    else if decide (0x50000 ≤ o) && decide (o < 0x54000) then some (.imem t true, o - 0x50000)
    else if decide (0x60000 ≤ o) && decide (o < 0x70000) then some (.clut t true, o - 0x60000)
    else if decide (0x80000 ≤ o) && decide (o < 0xe0000) then some (.lines t, o - 0x80000)
    else none
  else if decide (0x54010000 ≤ a) && decide (a < 0x54011000) then some (.rules, a - 0x54010000)
  else if decide (0x54020000 ≤ a) && decide (a < 0x54020400) then some (.flights, a - 0x54020000)
  else if decide (0x54800000 ≤ a) && decide (a < 0x55000000) then some (.objects, a - 0x54800000)
  else if decide (0x56180000 ≤ a) && decide (a < 0x561a0000) then some (.segs, a - 0x56180000)
  else none

/-- The rule bank and the flight bank not in force (R228). -/
def State.ruleBank (s : State) : Nat := 1 - s.gf R.MORAINE_MSTAT F.MORAINE_MSTAT_RULE_BANK
def State.ftBank (s : State) : Nat := 1 - s.gf R.MORAINE_MSTAT F.MORAINE_MSTAT_FT_BANK

/-- One byte of an array. -/
def State.arrByte (s : State) (r : Arr) (o : Nat) : BitVec 8 :=
  match r with
  | .imem t _ => wordByte (s.tile t).imem o
  | .clut t _ => lsByte (s.tile t).clut ((1 - s.tileBank t) * 65536 + o)
  | .lines t => lsByte (s.tile t).ls o
  | .rules => wordByte s.rules (4096 * s.ruleBank + o)
  | .flights => wordByte s.flights (1024 * s.ftBank + o)
  | .objects => ((s.objs.get (fun _ => {}) (o / 128)).bytes (o / 128)).getD (o % 128) 0
  | .segs => wordByte s.segs o

/-- Bytes of an access into an array; the object table ignores writes. -/
def State.arrPut (s : State) (r : Arr) (o : Nat) (bs : List (BitVec 8)) : State :=
  match r with
  | .imem t bc => imemPut t bc o bs s
  | .clut t bc => clutPut t bc o bs s
  | .lines t => linePut t o bs s
  | .rules => { s with rules := putWords s.rules (4096 * s.ruleBank + o) bs }
  | .flights => { s with flights := putWords s.flights (1024 * s.ftBank + o) bs }
  | .objects => s
  | .segs => { s with segs := putWords s.segs o bs }

/-! Reading a register (R378). -/

/-- The bits of an SC register that read 1 because their command is pending or runs (R378), beside the ones that the register itself
holds. -/
def State.scPending (s : State) (a : Nat) : List (Nat × Bool) :=
  let d := a % 0x1000000
  match a / 0x1000000 with
  | 0x41 => (List.range 3).map (fun i => (i, s.doorPer.getD i none == some s.per))
  | 0x42 =>
    if d != 0x100004 then [] else
    (List.range 8).map (fun i => (i, s.calWant.contains i || s.on (R.CAL_DSTAT i) F.CAL_DSTAT_BUSY))
  | 0x44 =>
    if d < 0x60 then [] else
    (List.range 32).map (fun j => (j, s.chanIn.any (fun e => e.1 == 8 * (d - 0x60) + j && e.2.2)))
  | 0x45 =>
    if d == 4 then [(2, s.rdI R.PTP_SLEW_LEFT != 0)] else [(1, (s.tp ((d - 0x100000) / 0x80)).stop)]
  | 0x46 =>
    let c := (d - 0x1000) / 0x100
    if d % 0x100 == 4 then [(1, s.dst c == dmAborting)] else [(0, s.on (R.DMA_CH_STAT c) F.DMA_CH_STAT_DB_PEND)]
  | 0x47 => [(1, (s.firn ((d - 0x1000) / 0x100)).abort)]
  | 0x48 =>
    if d == 4 then [(0, s.on R.MC_STAT F.MC_STAT_INIT_BUSY)] else
    let n := (d - 0x1000) / 0x400
    let c := s.cst n
    let back := c == csRefilling && decide (s.migTop < s.belowRes n * 64)
    [(0, c == csEvacuating), (1, back), (2, (s.mc n).trainPend || (c == csTraining && s.on (R.MC_CH_STAT n) F.MC_CH_STAT_INSVC)),
      (3, c == csRefilling && !back)]
  | 0x4a =>
    let q := d / 0x10000
    if d % 0x10000 == 4 then
      [(1, (s.port q).stopPend), (3, (s.pst q == psLinked || s.pst q == psRun) && (s.port q).descTry != 0)]
    else if d % 0x10000 == 0x144 then [(0, s.on (R.ACT_TS_STAT q) F.ACT_TS_STAT_BUSY)] else []
  | 0x4b =>
    let n := d / 0x40000
    [(0, s.on (R.FE_FE_STAT n) F.FE_FE_STAT_APPLY_PENDING), (1, (s.fe n).swSoft)]
  | 0x4c => [(1, s.on (R.STITCH_VIEW_STAT ((d - 0x1000) / 0x400)) F.STITCH_VIEW_STAT_SWAP_PENDING)]
  | 0x4d =>
    let w := d / 0x400
    [(0, s.on (R.DRIFT_DRIFT_STAT w) F.DRIFT_DRIFT_STAT_SEED_PENDING), (1, s.on (R.DRIFT_PROBE_STAT w) F.DRIFT_PROBE_STAT_BUSY)]
  | 0x50 | 0x51 | 0x52 | 0x53 =>
    let o := d % 0x100000
    if o < 0xf0000 then [(2, (s.ctx ((a - 0x50000000) / 0x100000) ((o - 0x20) / 0x10)).haltReq)] else
    let g := (o - 0xf0000) / 0x400
    [(1, s.on (R.HEARTH_GSTAT g) F.HEARTH_GSTAT_SWAP_PROG_P), (2, s.on (R.HEARTH_GSTAT g) F.HEARTH_GSTAT_SWAP_CLUT_P)]
  | 0x54 => [(1, s.on R.MORAINE_MSTAT F.MORAINE_MSTAT_SWAP_RULES_P), (2, s.on R.MORAINE_MSTAT F.MORAINE_MSTAT_SWAP_FT_P)]
  | 0x55 => if d == 4 then [(3, !s.testIn.isEmpty)] else [(0, (s.ejLink ((d - 0x100000) / 0x80)).resync)]
  | 0x57 => [(0, s.on R.TWIN_TSTAT F.TWIN_TSTAT_CLAIMING), (2, s.handover), (4, s.userPending)]
  | _ => []

/-- What an SC register reads (R378): 1 for each command that is pending or running. -/
def State.scValue (s : State) (a : Nat) : Word :=
  (s.scPending a).foldl (fun w e => if e.2 then (bit e.1).put w 1 else w) (s.rd a)

/-- SPILL_HELD of a group (R167, R177). -/
def State.spillHeld (s : State) (g : Nat) : Nat :=
  (List.range 4).foldl (fun n k => n + 2 ^ (4 * k) * (((s.group g).spills.filter (fun f => f.k == k)).length % 16)) 0

/-- The registers whose value the hardware forms when they are read. -/
def State.roValue (s : State) (a : Nat) : Word :=
  let v := s.rd a
  let d := a % 0x1000000
  let putB (w : Word) (f : Fld) (b : Bool) : Word := f.put w (b2n b)
  match a / 0x1000000 with
  | 0x40 =>
    if d == 0x10 then s.tvRead a
    else if d == 0x40 then s.time.mtime.extractLsb' 0 32
    else if d == 0x44 then s.time.mtime.extractLsb' 32 32 else v
  | 0x41 => if d == 0 then s.tvRead a else v
  | 0x42 =>
    if d == 0x200020 then BitVec.ofNat 32 s.aonUs
    else if d == 0x200024 then BitVec.ofNat 32 (s.aonUs / 0x100000000) else v
  | 0x43 =>
    if d < 0x10000 then v
    else if d % 0x100 == 0xc4 then BitVec.ofNat 32 (s.topWord ((d - 0x10000) / 0x100))
    else if d % 0x100 == 0xc8 then 0 else v
  | 0x46 =>
    if d == 0 then BitVec.ofNat 32 (((List.range 32).map (fun c => 2 ^ c * b2n (s.dst c == dmRunning || s.dst c == dmAborting))).sum)
    else v
  | 0x48 =>
    if d != 8 then v else
    let act := ((List.range 6).map (fun c => 2 ^ c * b2n (s.cst c == csActive))).sum
    putB (F.MC_STAT_CH_ACTIVE.put v act) F.MC_STAT_RES_SHORT s.resShort
  | 0x4b =>
    let n := d / 0x40000
    if d % 0x40000 == 0x64 then SMap.get (fun _ => 0x4000#32) (s.fe n).tab (s.gf (R.FE_TAB_ADDR n) ⟨0, 16⟩) else v
  | 0x4c =>
    let e := SMap.get (fun _ => 0#40) s.stTab (s.rdN R.STITCH_TAB_ADDR % 524288)
    if d == 4 then e.extractLsb' 0 32 else if d == 8 then (e.extractLsb' 32 8).setWidth 32 else v
  | 0x50 =>
    if decide (0xf0000 ≤ d) && decide (d < 0x100000) && d % 0x400 == 8 then F.HEARTH_GSTAT_SPILL_HELD.put v (s.spillHeld ((d - 0xf0000) / 0x400)) else v
  | 0x55 =>
    if d == 8 then putB v F.BELLOWS_BSTAT_WARN_HOLD (s.on R.SUP_SSTAT F.SUP_SSTAT_WARN_NOW)
    else if decide (0x100000 ≤ d) && d % 0x80 == 8 then F.EJL_LSTAT_OUTSTANDING.put v (min 511 (s.outstanding ((d - 0x100000) / 0x80)))
    else v
  | 0x57 =>
    if d == 8 then putB (putB v F.TWIN_TSTAT_LINK_MAIN (s.linkUp 31)) F.TWIN_TSTAT_LINK_AUX (s.linkUp 30) else v
  | 0x58 =>
    if decide (0x100000 ≤ d) && decide (d < 0x120000) && d % 0x10000 == 8 then BitVec.ofNat 32 (s.ustat ((d - 0x100000) / 0x10000)) else v
  | _ => v

/-- The value of the register at `a` for a privileged master. -/
def State.regValue (s : State) (a : Nat) : Word :=
  match regInfo a with
  | some r => if r.acc == .sc then s.scValue a else s.roValue a
  | none => s.rd a

/-- Is the address a register, or a holding register? -/
def isReg (a : Nat) : Bool := (regInfo a).isSome || isHolding a

/-- The bits of the register at `a` that only a privileged access reaches (R376, R386, R389). -/
def State.privBits (s : State) (a : Nat) : Word :=
  let all : Word := 0xffffffff
  let d := a % 0x1000000
  if ((regInfo a).map (·.priv)).getD false then all
  else if a == R.PTP_PCMD then 0x10
  else if a == R.TWIN_TCMD then 0xf
  else if a == R.GUARD_DOORBELL then 4
  else if a / 0x1000000 == 0x43 then
    if d < 0x1400 then (if s.irqPriv (d / 4) then all else 8)
    else if decide (0x2000 ≤ d) && decide (d < 0x20a0) then s.privMask ((d - 0x2000) / 4)
    else if decide (0x10000 ≤ d) && irqTargetP ((d - 0x10000) / 0x100) then all
    else if decide (0x10000 ≤ d) && decide (d % 0x100 < 0xa0) then s.privMask (d % 0x100 / 4)
    else 0
  else 0

/-- A read of the register at `a` (R376, R378): the state with a denied access counted, and the value. -/
def State.regRead (s : State) (m : Master) (a : Nat) : State × Word :=
  let k := s.privBits a
  if masterPriv m || k == 0 then (s, s.regValue a) else (s.denied, s.regValue a &&& ~~~k)

/-- What a write leaves in a register that only stores (R378). -/
def storeValue (r : RegRow) (old v : Word) : Word :=
  match r.acc with
  | .rw => v &&& r.mask
  | .w1c => old &&& ~~~(v &&& r.mask)
  | _ => old

/-- A write of the register at `a` (R376 to R378, R382). The bits of type P of an unprivileged access are taken off; where all are P nothing
else happens. COMPLETE and CORE_CTL judge privilege themselves. -/
def State.regWrite (s : State) (m : Master) (a : Nat) (v : Word) : State :=
  match regInfo a with
  | none => s
  | some r =>
    let k := if a == R.SYS_CORE_CTL then 0 else s.privBits a
    let den := !masterPriv m && k != 0
    if den && k == 0xffffffff then s.denied else
    let s := s.when den State.denied
    let v := if den && a / 0x1000000 != 0x43 then v &&& ~~~k else v
    match regAct m a v with
    | some f => f s
    | none => if r.acc == .rw || r.acc == .w1c then s.wr a (storeValue r (s.rd a) v) else s

/-! Accesses (R26, R369, R371, R372). -/

/-- Which sizes an access to an array may have (R372): 1, 2, 4 or 8 bytes from the cores, 4 from the other masters. -/
def arraySize (m : Master) (n : Nat) : Bool :=
  match m with
  | .hart _ _ => n == 1 || n == 2 || n == 4 || n == 8
  | .guardian _ => n == 1 || n == 2 || n == 4
  | _ => n == 4

/-- Does an access of `n` bytes at `a` touch a register? -/
def touchesReg (a n : Nat) : Bool := (List.range ((a % 4 + n + 3) / 4)).any (fun i => isReg (a / 4 * 4 + 4 * i))

/-- What the bus makes of an access inside a window (R26, R311, R372). -/
inductive WinAcc where
  | arr (r : Arr) (o : Nat) | reg | size | empty
deriving DecidableEq, Repr

def winAcc (m : Master) (a n : Nat) : WinAcc :=
  let dma := match m with | .dma _ => true | _ => false
  if dma && n != 4 then .size else
  match arrayAt a with
  | some (r, o) => if arraySize m n && a % n == 0 then .arr r o else .size
  | none => if touchesReg a n then (if n == 4 && a % 4 == 0 then .reg else .size) else .empty

/-- Does a master see the caches (R374)? A DMA channel's data by the COH of its descriptor. -/
def masterCoherent (m : Master) (s : State) : Bool :=
  match m with
  | .hart _ _ | .guardian _ | .mac => true
  | .dma c => (s.dma c).d.ctl / 8 % 2 == 1
  | _ => false

/-- A byte of memory as a master sees it (R374). -/
def State.memByte (s : State) (m : Master) (a : Nat) : BitVec 8 :=
  match m with
  | .hart h _ => s.hartByte h a
  | _ => if masterCoherent m s then s.cohByte a else s.rdByte a

/-- What a master's read of memory leaves, and whether it ends in an error response. -/
def State.memAccess (s : State) (m : Master) (a n : Nat) : State × Bool := if masterCoherent m s then s.cohRead a n else s.memRead a n

/-- What a master's write to memory leaves. -/
def State.memStore (s : State) (m : Master) (a : Nat) (bs : List (BitVec 8)) : State × Bool := if masterCoherent m s then s.cohPut a bs else s.memPut a bs

/-- The block whose window holds an address (R24, R25): the order of R373 holds within one. -/
def blockOf (a : Nat) : Nat :=
  let w := a / 0x1000000
  if w == 0x42 || w == 0x45 || w == 0x55 || w == 0x56 || w == 0x58 then a / 0x100000
  else if decide (0x50 ≤ w) && decide (w ≤ 0x53) then 0x500 else 16 * w

/-- The answer to a guardian core's access during a main-domain reset (R369): is it served? -/
def islandServes (m : Master) (a : Nat) : Bool :=
  match m with
  | .guardian _ => isIsland a
  | _ => false

/-- A read of `n` bytes: the state, an error response or not, the data. -/
def State.busRead (s : State) (m : Master) (a n : Nat) : State × Bool × Nat :=
  if s.mainReset && !islandServes m a then (s, true, 0) else
  match regionOf a with
  | .rom => (s, false, leNat ((List.range n).map (fun i => Config.bootRom (a + i))))
  | .win =>
    match winAcc m a n with
    | .arr r o => (s, false, leNat ((List.range n).map (fun i => s.arrByte r (o + i))))
    | .reg => let x := s.regRead m a; (x.1, false, x.2.toNat)
    | .size => (if s.mainReset then s else s.sizeErr a, true, 0)
    | .empty => (s, false, 0)
  | _ =>
    if s.memOk a n then
      let x := s.memAccess m a n
      (x.1, x.2, leNat ((List.range n).map (fun i => x.1.memByte m (a + i))))
    else (s.decodeErr a, true, 0)

/-- A write of `n` bytes: the state, and an error response or not. Bytes to memory go through the caches for a guardian core. -/
def State.busWrite (s : State) (m : Master) (a n v : Nat) : State × Bool :=
  if s.mainReset && !islandServes m a then (s, true) else
  match regionOf a with
  | .rom => (s, true)
  | .win =>
    match winAcc m a n with
    | .arr r o => (s.arrPut r o (leBytes n v), false)
    | .reg => (s.regWrite m a (BitVec.ofNat 32 v), false)
    | .size => (if s.mainReset then s else s.sizeErr a, true)
    | .empty => (s, false)
  | _ => if s.memOk a n then s.memStore m a (leBytes n v) else (s.decodeErr a, true)

/-- BUS_ACCESS_UNMAPPED (R26, R292, R369): an access outside every window, or to DRAM that does not answer. -/
def busAccessUnmapped (m : Master) (a : Nat) (s : State) : State :=
  if s.mainReset then (match m with | .guardian _ => s.emit (.busResp m true 0) | _ => s)
  else if regionOf a == .nowhere || (regionOf a == .dram && !s.memOk a 1) then (s.decodeErr a).emit (.busResp m true 0)
  else s

/-- REGISTER_WRITE (R378): master `m` writes `v` to the register at `a`. No register leads to the guardian cores' private memory (R369), the
reset sources or the fuses (R436). -/
def registerWrite (m : Master) (a : Nat) (v : Word) (s : State) : State :=
  if s.mainReset && !islandServes m a then s else (s.regWrite m a v).keepIsland s

end Sys2Proof.Machine
end

