-- ==== Sys2Proof/Machine/Cores.lean ====
section
/-! DEFINITION. What an instruction of a core does outside the core (R365, R366, R369, R371, R374): its accesses through the caches, the write
buffer and the bus, and its state as a unit. -/

namespace Sys2Proof.Machine

/-! The causes of the exceptions that the spec names: access faults and an illegal instruction. -/
def cFetch : Nat := 1
def cIllegal : Nat := 2
def cLoad : Nat := 5
def cStore : Nat := 7

def State.trap (s : State) (h cause : Nat) : State := s.emit (.coreTrap h cause)

/-- What an access of a core is for. -/
inductive AccKind where
  | fetch | load | store
deriving DecidableEq, Repr

/-- The causes of the faults of an access. -/
def AccKind.access : AccKind → Nat
  | .fetch => cFetch
  | .load => cLoad
  | .store => cStore
def AccKind.page : AccKind → Nat
  | .fetch => 12
  | .load => 13
  | .store => 15

/-! Physical memory protection (R365): 16 entries. -/

/-- How many low bits of a number are 1, up to `f`. -/
def trailOnes : Nat → Nat → Nat
  | 0, _ => 0
  | f + 1, a => if a % 2 == 1 then 1 + trailOnes f (a / 2) else 0

def HartX.cfg (x : HartX) (i : Nat) : Nat := (x.pmpcfg.get (fun _ => 0) i).toNat
def HartX.pmp (x : HartX) (i : Nat) : Nat := (x.pmpaddr.get (fun _ => 0) i).toNat

/-- The bytes that entry `i` covers: from the first on, up to the second. -/
def HartX.pmpRange (x : HartX) (i : Nat) : Nat × Nat :=
  match x.cfg i / 8 % 4 with
  | 0 => (0, 0)
  | 1 => (if i == 0 then 0 else 4 * x.pmp (i - 1), 4 * x.pmp i)
  | 2 => (4 * x.pmp i, 4 * x.pmp i + 4)
  | _ =>
    let k := trailOnes 54 (x.pmp i)
    let b := x.pmp i / 2 ^ (k + 1) * 2 ^ (k + 3)
    (b, b + 2 ^ (k + 3))

/-- Does PMP let an access in `mode` pass? The lowest entry that covers a byte of it decides. -/
def HartX.pmpOk (x : HartX) (mode : Nat) (k : AccKind) (a n : Nat) : Bool :=
  match (List.range 16).find? (fun i => decide ((x.pmpRange i).1 < a + n) && decide (a < (x.pmpRange i).2)) with
  | none => mode == 3
  | some i =>
    let r := x.pmpRange i
    let c := x.cfg i
    let perm := match k with | .load => c % 2 == 1 | .store => c / 2 % 2 == 1 | .fetch => c / 4 % 2 == 1
    decide (r.1 ≤ a) && decide (a + n ≤ r.2) && ((mode == 3 && c / 128 % 2 == 0) || perm)

/-! Sv39 (R365). -/

/-- The page-table walk for virtual address `va` from level `l - 1` on, in the table at `t`: the state, a cause or 0, the physical address. -/
def State.walk (s : State) (h mode : Nat) (k : AccKind) (va : Nat) : Nat → Nat → State × Nat × Nat
  | 0, _ => (s, k.page, 0)
  | l + 1, t =>
    let x := s.hart h
    let p := t + 8 * (va / 2 ^ (12 + 9 * l) % 512)
    let r := regionOf p
    if !x.pmpOk 1 .load p 8 || r == .win then (s, k.access, 0)
    else if r != .rom && !s.memOk p 8 then (s.decodeErr p, k.access, 0)
    else
      let y := s.cohRead p 8
      if y.2 then (y.1, k.access, 0) else
      let e := if r == .rom then leNat ((List.range 8).map (fun i => Config.bootRom (p + i))) else leNat (y.1.cohBytes p 8)
      let b (i : Nat) : Bool := e / 2 ^ i % 2 == 1
      let ppn := e / 1024 % 2 ^ 44
      let mxr := x.mstatus.getLsbD 19
      let sum := x.mstatus.getLsbD 18
      if !b 0 || (!b 1 && b 2) || e / 2 ^ 54 != 0 then (y.1, k.page, 0)
      else if !b 1 && !b 3 then
        if b 4 || b 6 || b 7 then (y.1, k.page, 0) else y.1.walk h mode k va l (ppn * 4096)
      else
        let ok := match k with | .fetch => b 3 | .load => b 1 || (mxr && b 3) | .store => b 2
        let user := if mode == 0 then b 4 else !b 4 || (sum && k != .fetch)
        if !ok || !user || ppn % 2 ^ (9 * l) != 0 || !b 6 || (k == .store && !b 7) then (y.1, k.page, 0)
        else (y.1, 0, ppn * 4096 + va % 2 ^ (12 + 9 * l))

/-- Is an access of hart `h` privileged (R376): in M mode or in debug mode? -/
def State.hartPriv (s : State) (h : Nat) : Bool := (s.hart h).mode == 3 || s.hartDebug h

/-- The mode that an access is made in: that of MPP for loads and stores under MPRV. -/
def State.accMode (s : State) (h : Nat) (k : AccKind) : Nat :=
  let x := s.hart h
  if s.hartDebug h then 3
  else if x.mode == 3 && k != .fetch && x.mstatus.getLsbD 17 then (x.mstatus.extractLsb' 11 2).toNat
  else x.mode

/-- Where an access of `n` bytes at `a` goes (R365): translated by Sv39 below M mode, checked by PMP. The state, a cause or 0, the physical
address. -/
def State.reach (s : State) (h : Nat) (k : AccKind) (a n : Nat) : State × Nat × Nat :=
  let x := s.hart h
  let mode := s.accMode h k
  let t : State × Nat × Nat :=
    if mode == 3 || x.satp.toNat / 2 ^ 60 != 8 then (s, 0, a)
    else if !(decide (a < 2 ^ 38) || (decide (2 ^ 64 - 2 ^ 38 ≤ a) && decide (a < 2 ^ 64))) then (s, k.page, 0)
    else s.walk h mode k a 3 (x.satp.toNat % 2 ^ 44 * 4096)
  if t.2.1 == 0 && !x.pmpOk mode k t.2.2 n then (t.1, k.access, 0) else t

/-! Accesses of the application cores. -/

/-- A write that a core has posted takes effect (R373). -/
def State.landOne (s : State) (e : IoEnt) : State :=
  let x := s.busWrite (.hart e.hart e.priv) e.addr e.len e.val
  if x.2 then x.1.trap e.hart cStore else x.1

/-- The posted writes that satisfy a test take effect, in their order. -/
def State.landAll (s : State) (p : IoEnt → Bool) : State :=
  { s with ioBuf := s.ioBuf.filter (fun e => !p e) } |> (s.ioBuf.filter p).foldl (fun s e => s.landOne e)

/-- A posted write takes effect, after those of its core to the same block that came before it (R373). -/
def State.land (s : State) (h k : Nat) : State :=
  let mine := s.ioBuf.filter (fun e => e.hart == h)
  match mine[k]? with
  | some e =>
    let now := (mine.take (k + 1)).filter (fun f => blockOf f.addr == blockOf e.addr)
    { s with ioBuf := now.foldl (fun l f => erase1 f l) s.ioBuf } |> now.foldl (fun s f => s.landOne f)
  | none => s

/-- Is the range in system SRAM or in DRAM that answers? -/
def State.cacheable (s : State) (a n : Nat) : Bool := (regionOf a == .sram || regionOf a == .dram) && s.memOk a n

/-- A load of `n` bytes by hart `h` (R366, R371, R373): cacheable memory is read through the caches; an access to a block window comes after
the core's writes to that block. -/
def State.hartLoad (s : State) (h a n : Nat) : State :=
  let m : Master := .hart h (s.hartPriv h)
  let r := s.reach h .load a n
  if r.2.1 != 0 then r.1.trap h r.2.1 else
  let a := r.2.2
  if r.1.cacheable a n then
    let x := r.1.fillLines a n
    if x.2 then x.1.trap h cLoad else x.1.emit (.busResp m false (leNat ((List.range n).map (fun i => x.1.hartByte h (a + i)))))
  else
    let s := r.1.landAll (fun e => e.hart == h && blockOf e.addr == blockOf a)
    let x := s.busRead m a n
    if x.2.1 then (x.1.emit (.busResp m true x.2.2)).trap h cLoad else x.1.emit (.busResp m false x.2.2)

/-- A store by hart `h`: to memory it waits in the core's write buffer (R374), to a block window it is posted (R373). -/
def State.hartStore (s : State) (h a n v : Nat) : State :=
  let r := s.reach h .store a n
  if r.2.1 != 0 then r.1.trap h r.2.1 else
  let a := r.2.2
  let s := r.1
  if s.cacheable a n then { s with wbuf := s.wbuf ++ [{ hart := h, addr := a, data := leBytes n v }] }
  else if regionOf a == .win then { s with ioBuf := s.ioBuf ++ [⟨h, s.hartPriv h, a, n, v⟩] }
  else
    let x := s.busWrite (.hart h (s.hartPriv h)) a n v
    if x.2 then x.1.trap h cStore else x.1

/-- An atomic access (R371): system SRAM and DRAM only. It takes the place of what the core's write buffer holds for its bytes. -/
def State.hartAmo (s : State) (h a n : Nat) (v : Option Nat) : State :=
  let r := s.reach h .store a n
  if r.2.1 != 0 then r.1.trap h r.2.1 else
  let a := r.2.2
  let s := r.1
  if s.cacheable a n then
    let x := s.fillLines a n
    if x.2 then x.1.trap h cStore else
    let s := x.1.emit (.busResp (.hart h (s.hartPriv h)) false (leNat ((List.range n).map (fun i => x.1.hartByte h (a + i)))))
    match v with
    | some v => ((s.wbufCut h a n).corePuts h a (leBytes n v)).1
    | none => s
  else
    let s := if regionOf a == .rom || regionOf a == .win then s else s.decodeErr a
    s.trap h cStore

/-- A cache-block operation (R365): 0 clean, 1 flush, 2 invalidate. A clean or flush waits behind the stores to its block that the write
buffer holds (R374). -/
def State.hartCbo (s : State) (h op a : Nat) : State :=
  let r := s.reach h .load a 1
  if r.2.1 != 0 then r.1.trap h r.2.1 else
  let a := r.2.2
  let s := r.1
  if decide (2 ≤ op) then s.dropLine a
  else if s.wbufHas h a then { s with wbuf := s.wbuf ++ [{ hart := h, addr := a, data := [], cbo := some (op == 0) }] }
  else s.cleanLine a (op == 0)

/-- An instruction fetch of four bytes (R366, R371). -/
def State.hartFetch (s : State) (h a : Nat) : State :=
  let m : Master := .hart h (s.hartPriv h)
  let r := s.reach h .fetch a 4
  if r.2.1 != 0 then r.1.trap h r.2.1 else
  let a := r.2.2
  let s := r.1
  if regionOf a == .win then s.trap h cFetch
  else if regionOf a == .rom then s.emit (.busResp m false (leNat ((List.range 4).map (fun i => Config.bootRom (a + i)))))
  else if !s.cacheable a 4 then (s.decodeErr a).trap h cFetch
  else
    let miss (s : State) (p : Nat) : Bool := !((s.hart h).icache.any (fun e => e.1 == p / 64))
    let x := if miss s a then s.fillInstr h a else (s, false)
    let y := if !x.2 && miss x.1 (a + 3) then x.1.fillInstr h (a + 3) else x
    if y.2 then y.1.trap h cFetch else
    let b (p : Nat) : BitVec 8 := (SMap.get (fun _ => []) (y.1.hart h).icache (p / 64)).getD (p % 64) 0
    y.1.emit (.busResp m false (leNat ((List.range 4).map (fun i => b (a + i)))))

/-- A line of the instruction cache fails parity (R366): it is fetched again. -/
def State.hartParity (s : State) (h a : Nat) : State :=
  if !((s.hart h).icache.any (fun e => e.1 == a / 64)) then s else
  let s := s.setHart h { s.hart h with icache := SMap.del (s.hart h).icache (a / 64) }
  let s := s.cnt R.SYS_CACHE_CE
  if s.cacheable (a / 64 * 64) 64 then
    let x := s.fillInstr h a
    if x.2 then x.1.trap h cFetch else x.1
  else s

/-! CSRs (R365, R367): those that an access or the block depends on. -/

/-- The pending bits that the block drives: software, timer, supervisor external, machine external (R365, R367, R386). -/
def State.hartMip (s : State) (h : Nat) : Nat :=
  8 * (s.rdN (R.SYS_MSIP h) % 2) + 128 * b2n (decide (s.rd64N (R.SYS_MTIMECMP_LO h) (R.SYS_MTIMECMP_HI h) ≤ s.time.mtime.toNat))
    + 512 * b2n (s.irqLine (2 * h + 1)) + 2048 * b2n (s.irqLine (2 * h))

/-- Is entry `i` of PMP locked against a write of its address? -/
def HartX.pmpLocked (x : HartX) (i : Nat) : Bool :=
  x.cfg i / 128 % 2 == 1 || (x.cfg (i + 1) / 128 % 2 == 1 && x.cfg (i + 1) / 8 % 4 == 1)

/-- The value of a CSR; `none` for one that stays within the core. -/
def State.csrRead (s : State) (h n : Nat) : Option Nat :=
  let x := s.hart h
  if n == 0xc01 then some s.time.mtime.toNat
  else if n == 0x344 then some (s.hartMip h)
  else if n == 0x300 then some x.mstatus.toNat
  else if n == 0x180 then some x.satp.toNat
  else if n == 0x3a0 || n == 0x3a2 then some (leNat ((List.range 8).map (fun i => x.pmpcfg.get (fun _ => 0) ((n - 0x3a0) * 4 + i))))
  else if decide (0x3b0 ≤ n) && decide (n < 0x3c0) then some (x.pmp (n - 0x3b0))
  else none

/-- A CSR takes a value. -/
def HartX.csrWrite (x : HartX) (n v : Nat) : HartX :=
  if n == 0x300 then { x with mstatus := BitVec.ofNat 64 v }
  else if n == 0x180 then (if v / 2 ^ 60 % 16 == 0 || v / 2 ^ 60 % 16 == 8 then { x with satp := BitVec.ofNat 64 v } else x)
  else if n == 0x3a0 || n == 0x3a2 then
    (List.range 8).foldl (fun x i =>
      let k := (n - 0x3a0) * 4 + i
      if x.cfg k / 128 % 2 == 1 then x
      else { x with pmpcfg := SMap.set (fun _ => 0) x.pmpcfg k (BitVec.ofNat 8 (v / 256 ^ i) &&& 0x9f) }) x
  else if decide (0x3b0 ≤ n) && decide (n < 0x3c0) then
    (if x.pmpLocked (n - 0x3b0) then x else { x with pmpaddr := SMap.set (fun _ => 0) x.pmpaddr (n - 0x3b0) (BitVec.ofNat 64 (v % 2 ^ 54)) })
  else x

/-- An access to a CSR: one of a higher mode, and a write of a read-only one, are illegal instructions. -/
def State.hartCsr (s : State) (h n : Nat) (v : Option Nat) : State :=
  if (!s.hartDebug h && decide ((s.hart h).mode < n / 256 % 4)) || (v.isSome && n / 1024 % 4 == 3) then s.trap h cIllegal else
  match s.csrRead h n with
  | none => s
  | some old =>
    let s := s.emit (.busResp (.hart h (s.hartPriv h)) false old)
    match v with
    | some v => s.setHart h ((s.hart h).csrWrite n v)
    | none => s

/-- The bits of CORE_STAT. -/
def State.hartBit (s : State) (lo h : Nat) (v : Bool) : State := s.setBit R.SYS_CORE_STAT ⟨lo, 8⟩ h v

/-- An instruction of a hart that is out of reset, by what it does outside the core. -/
def State.hartAct (s : State) (h : Nat) (act : CoreAct) : State :=
  match act with
  | .none => s
  | .load a n => s.hartLoad h a n
  | .store a n v => s.hartStore h a n v
  | .amo a n v => s.hartAmo h a n v
  | .fence o => let s := s.drain h; if o then s.landAll (fun e => e.hart == h) else s
  | .land k => s.land h k
  | .cbo op a => s.hartCbo h op a
  | .evict a => s.cleanLine a false
  | .fetch a => s.hartFetch h a
  | .fenceI => s.setHart h { s.hart h with icache := [] }
  | .parity a => s.hartParity h a
  | .csr n v => s.hartCsr h n v
  | .mode m => if m == 0 || m == 1 || m == 3 then s.setHart h { s.hart h with mode := m } else s
  | .wfi => s.hartBit 8 h true
  | .wake => s.hartBit 8 h false
  | .debug halt => if s.jtagDis && halt then s else s.hartBit 16 h halt
  | .cacheCe => s.cnt R.SYS_CACHE_CE
  | .cacheUe a store =>
    match s.line? a with
    | some l =>
      if l.dirty then (((s.cnt R.SYS_CACHE_UE).raise R.SYS_SYS_ERR 1 siteSys)).trap h (if store then cStore else cLoad) else s
    | none => s
  | .illegal => s.trap h cIllegal
  | .privLoad _ _ => s
  | .privStore _ _ _ => s

/-- What a core that waits in WFI can still meet. -/
def idleAct : CoreAct → Bool
  | .wake => true
  | .debug _ => true
  | .evict _ => true
  | .land _ => true
  | .mode _ => true
  | _ => false

/-- HART_INSTRUCTION (R365): what an instruction of hart `h` does outside the core. -/
def hartInstruction (h : Nat) (act : CoreAct) (s : State) : State :=
  if s.hartRuns h && (!s.hartWfi h || idleAct act) then s.hartAct h act else s

/-- Private memory of a guardian core (R369). -/
def State.guardByte (s : State) (g o : Nat) : BitVec 8 := SMap.get (fun _ => 0) s.guardMem (65536 * g + o)
def State.guardPut (s : State) (g o : Nat) (bs : List (BitVec 8)) : State :=
  { s with guardMem := bs.zipIdx.foldl (fun m e => SMap.set (fun _ => 0) m (65536 * g + o + e.2) e.1) s.guardMem }

/-- An instruction of a guardian core that is out of reset; its exceptions and responses carry the number 8 + g. -/
def State.guardAct (s : State) (g : Nat) (act : CoreAct) : State :=
  let m : Master := .guardian g
  match act with
  | .load a n =>
    let x := s.busRead m a n
    let s := (x.1.keepIsland s).emit (.busResp m x.2.1 x.2.2)
    if x.2.1 then s.trap (8 + g) cLoad else s
  | .store a n v =>
    let x := s.busWrite m a n v
    let s := x.1.keepIsland s
    if x.2 then s.trap (8 + g) cStore else s
  | .fetch a =>
    if s.mainReset || regionOf a == .win then s.trap (8 + g) cFetch else
    let x := s.busRead m a 4
    if x.2.1 then (x.1.keepIsland s).trap (8 + g) cFetch else (x.1.keepIsland s).emit (.busResp m false x.2.2)
  | .wfi => s.setBit R.GUARD_GSTAT ⟨2, 2⟩ g true
  | .wake => s.setBit R.GUARD_GSTAT ⟨2, 2⟩ g false
  | .illegal => s.trap (8 + g) cIllegal
  | .privLoad o n =>
    if o + n ≤ 65536 then s.emit (.busResp m false (leNat ((List.range n).map (fun i => s.guardByte g (o + i)))))
    else s.trap (8 + g) cLoad
  | .privStore o n v => if o + n ≤ 65536 then s.guardPut g o (leBytes n v) else s.trap (8 + g) cStore
  | _ => s

/-- GUARD_INSTRUCTION (R369). -/
def guardInstruction (g : Nat) (act : CoreAct) (s : State) : State :=
  if s.guardRuns g && (!s.guardWfi g || idleAct act) then s.guardAct g act else s

/-- The obligations of R12 on a store to a register. -/
def coreMust (act : CoreAct) : Bool :=
  match act with
  | .store a 4 v => regMust a (BitVec.ofNat 32 v)
  | _ => true

/-- The same for a store of a hart, whose address is translated. -/
def hartMust (h : Nat) (act : CoreAct) (s : State) : Bool :=
  match act with
  | .store a 4 v => let r := s.reach h .store a 4; r.2.1 != 0 || regMust r.2.2 (BitVec.ofNat 32 v)
  | _ => true

/-- SRAM_ACCESS (R374, R390): `n` bytes at `a` within one 64-bit word, read or written with `data`; where the access reads the SRAM, `ecc` says what
has befallen the word: 0 nothing, 1 a single-bit error, 2 a double-bit error. A hart reads through its caches and writes into its write buffer. -/
def sramAccess (m : Master) (a n : Nat) (data : Option (List (BitVec 8))) (ecc : Nat) (s : State) : State :=
  let cached := masterCoherent m s && (s.line? a).isSome
  match data with
  | none =>
    let s := if cached then s else s.upset a ecc
    let x := match m with | .hart _ _ => s.fillLine a | _ => (s, false)
    let y := if x.2 then (x.1, true) else x.1.memAccess m a n
    let s := y.1.emit (.busResp m y.2 (leNat ((List.range n).map (fun i => y.1.memByte m (a + i)))))
    (match m with | .hart h _ => s.when y.2 (·.trap h cLoad) | _ => s)
  | some d =>
    match m with
    | .hart h _ => { s with wbuf := s.wbuf ++ [({ hart := h, addr := a, data := d.take n } : WbEnt)] }.emit (.busResp m false 0)
    | _ =>
      let s := if partialWord a n then s.upset a ecc else s
      let y := s.memStore m a (d.take n)
      y.1.emit (.busResp m y.2 0)

end Sys2Proof.Machine
end

