-- ==== Sys2Proof/Machine/ExecControl.lean ====
section
/-! DEFINITION. The meanings of the commands of this family: the domain each belongs to, the units it names, and its effect. -/

namespace Sys2Proof.Machine

/-- CORE_CTL_WRITE (R368). -/
def execCoreCtlWrite (m : Master) (v : Word) (s : State) : Out := onMain true s (coreCtlWrite m v)

/-- MTIMER_PENDING (R367). -/
def execMtimerPending (h : Nat) (s : State) : Out := onMain (h < 8) s (mtimerPending h)

/-- HART_INSTRUCTION (R365). -/
def execHartInstruction (h : Nat) (act : CoreAct) (s : State) : Out :=
  onMust (hartMust h act s) (onMain (h < 8 && act.ofHart) s (hartInstruction h act))

/-- GUARD_INSTRUCTION (R369). -/
def execGuardInstruction (g : Nat) (act : CoreAct) (s : State) : Out :=
  onMust (coreMust act) (onGuard (g < 2 && act.ofGuard) s (guardInstruction g act))

/-- TV_SCRUB (R381). -/
def execTvScrub (upsets : List (Nat × Nat × Word)) (s : State) : Out := onIsland true s (tvScrub upsets)

/-- TO_APP (R370). -/
def execToApp (m : Master) (s : State) : Out := onIsland true s (toApp m)

/-- IRQ_COMPLETE (R388). -/
def execIrqComplete (m : Master) (t id : Nat) (s : State) : Out := onMain (t < 18) s (irqComplete m t id)

/-- SRAM_ACCESS (R390). -/
def execSramAccess (m : Master) (a n : Nat) (data : Option (List (BitVec 8))) (ecc : Nat) (s : State) : Out :=
  onMain (0x08000000 ≤ a && a % 8 + n ≤ 8 && a + n ≤ 0x08800000 && ecc < 3) s (sramAccess m a n data ecc)

/-- BUS_ACCESS_UNMAPPED (R26). -/
def execBusAccessUnmapped (m : Master) (a : Nat) (s : State) : Out := onIsland true s (busAccessUnmapped m a)

/-- REGISTER_WRITE (R378). -/
def execRegisterWrite (m : Master) (a : Nat) (v : Word) (s : State) : Out :=
  onMust (regMust a v) (onIsland true s (registerWrite m a v))

/-- SNAP_GO (R380). -/
def execSnapGo (s : State) : Out := onMain true s snapGo

/-- SNAP_INPUT (R380). -/
def execSnapInput (s : State) : Out := onMain true s snapInput

/-- SNAPSHOT_TAKEN (R380). -/
def execSnapshotTaken (s : State) : Out := onMain true s snapshotTaken

/-- TO_G_0 (R370). -/
def execToG0 (s : State) : Out := onIsland true s toG0

/-- TO_G_1 (R370). -/
def execToG1 (s : State) : Out := onIsland true s toG1

end Sys2Proof.Machine
end

