-- ==== Sys2Proof/Machine/DmaMove.lean ====
section
/-! DEFINITION. The moves of DMA elements (R309, R311, R313, R316): which channel issues, the read's data, the write and its
acknowledge, and error responses (R319). -/

namespace Sys2Proof.Machine

/-- May channel `c` issue an element read? -/
def State.dmaCanIssue (s : State) (c : Nat) : Bool :=
  s.dst c == dmRunning && (s.dma c).wait == .move && decide ((s.dma c).idx < (s.dma c).d.total)

/-- The channel that issues among those that are ready (R309): the highest PRIO, and round-robin from the last that issued. -/
def State.dmaWinner (s : State) (ready : BitVec 32) : Option Nat :=
  let cs := ((List.range 32).map (fun i => (s.dmaLast + 1 + i) % 32)).filter (fun c => ready.getLsbD c && s.dmaCanIssue c)
  let prio (c : Nat) : Nat := s.gf (R.DMA_CH_CTL c) F.DMA_CH_CTL_PRIO
  cs.foldl (fun b c => match b with
    | some x => if prio x < prio c then some c else some x
    | none => some c) none

/-- DMA_ELEMENT_ISSUE (R309, R311). -/
def dmaElementIssue (ready : BitVec 32) (s : State) : State :=
  match s.dmaWinner ready with
  | some c =>
    let x := s.dma c
    { s.setDma c { x with reads := x.reads ++ [x.idx], idx := x.idx + x.d.run x.idx } with dmaLast := c }
  | none => s

/-- What an access of `n` bytes at `a` by channel `c` meets: does it answer without an error response? -/
def State.dmaOk (s : State) (c : Nat) (wr : Bool) (a n : Nat) : Bool :=
  match regionOf a with
  | .rom => !wr
  | .win => winAcc (.dma c) a n != .size
  | _ => s.memOk a n && (wr || !s.dmaBad ((s.dma c).d.ctl / 8 % 2 == 1) a n)

/-- What a failing access of `n` bytes at `a` leaves (R26, R289, R372, R390). -/
def State.dmaFault (s : State) (c : Nat) (wr : Bool) (a n : Nat) : State :=
  match regionOf a with
  | .rom => s
  | .win => if winAcc (.dma c) a n == .size then s.sizeErr a else s
  | _ =>
    if !s.memOk a n then s.decodeErr a
    else if wr then s else (s.dmaRead ((s.dma c).d.ctl / 8 % 2 == 1) a n).1

/-- The data of an element read. -/
def State.dmaFetchData (s : State) (c : Nat) (coh : Bool) (a n : Nat) : State × List (BitVec 8) :=
  if regionOf a == .sram || regionOf a == .dram then ((s.dmaRead coh a n).1, s.dmaGet coh a n)
  else
    let x := s.busRead (.dma c) a n
    (x.1, leBytes n x.2.2)

/-- The store of an element write, and whether it meets an error response. -/
def State.dmaStore (s : State) (c : Nat) (coh : Bool) (a n : Nat) (bs : List (BitVec 8)) : State × Bool :=
  if !s.dmaOk c true a n then (s.dmaFault c true a n, true)
  else if regionOf a == .sram || regionOf a == .dram then s.dmaPut coh a bs else s.busWrite (.dma c) a n (leNat bs)

/-- May the write of access `n` issue (R309): 64 element writes outstanding to memory, one to a block window? -/
def State.dmaRoom (s : State) (c n : Nat) : Bool :=
  let x := s.dma c
  if inBlocks (x.d.dstOf n) then !x.writes.any (fun k => inBlocks (x.d.dstOf k))
  else decide (x.d.run n + (x.writes.map x.d.run).sum ≤ 64)

/-- The obligations of R12 on the element write that comes next. -/
def dmaMust (c : Nat) (s : State) : Bool :=
  let x := s.dma c
  match x.reads with
  | n :: _ =>
    let a := x.d.dstOf n
    if winAcc (.dma c) a x.d.size == .reg && regionOf a == .win then
      regMust a (BitVec.ofNat 32 (leNat (s.dmaFetchData c (x.d.ctl / 8 % 2 == 1) (x.d.srcOf n) x.d.size).2))
    else true
  | [] => true

/-- DMA_READ_DATA (R311, R316): the oldest outstanding read returns and its write issues. -/
def dmaReadData (c : Nat) (s : State) : State :=
  let x := s.dma c
  match x.reads with
  | [] => s
  | n :: rest =>
    let sz := x.d.len n
    let coh := x.d.ctl / 8 % 2 == 1
    if !s.dmaOk c false (x.d.srcOf n) sz || !s.dmaRoom c n then s else
    let y := s.dmaFetchData c coh (x.d.srcOf n) sz
    let z := y.1.dmaStore c coh (x.d.dstOf n) sz y.2
    z.1.setDma c { z.1.dma c with reads := rest, writes := x.writes ++ [n], lost := if z.2 then x.lost ++ [n] else x.lost }

/-- DMA_WRITE_ACK (R313): outstanding write `k`, counted from the oldest, is acknowledged; the last one completes the descriptor. -/
def dmaWriteAck (c k : Nat) (s : State) : State :=
  let x := s.dma c
  match x.writes[k]? with
  | none => s
  | some n =>
    if x.lost.contains n then s else
    let m := x.moved + x.d.len n
    let s := s.setDma c { x with writes := x.writes.eraseIdx k, moved := m % 64 }
    (s.cntN (R.DMA_BLOCKS c) (m / 64)).dmaSettle c

/-- DMA_ERROR_RESPONSE (R319), with what the failing access itself leaves in the error record. -/
def dmaErrorCmd (c dir k : Nat) (s : State) : State :=
  let x := s.dma c
  let st := s.dst c
  let live := st == dmRunning || st == dmAborting || st == dmParked
  let s := if dir == 0 then (match x.reads[k]? with | some n => s.dmaFault c false (x.d.srcOf n) (x.d.len n) | none => s)
    else if dir == 1 then s
    else if live && (x.wait == .fetch || x.wait == .next || x.wait == .again) then
      (if s.memOk (s.dmaCur c) 64 then
        let off := if x.wait == .fetch then 0 else 8
        (s.dmaRead (s.descCoh c) (s.dmaCur c + off) (if x.wait == .fetch then 64 else 8)).1
      else s.decodeErr (s.dmaCur c))
    else if live && x.wait == .writeBack && !s.memOk (s.dmaCur c) 64 then s.decodeErr (s.dmaCur c) else s
  dmaErrorResponse c dir k s

end Sys2Proof.Machine
end

