-- ==== Sys2Proof/Machine/ExecDma.lean ====
section
/-! DEFINITION. The meanings of the commands of this family: the domain each belongs to, the units it names, and its effect. -/

namespace Sys2Proof.Machine

/-- DMA_START (R317). -/
def execDmaStart (c : Nat) (s : State) : Out := onMain (c < 32) s (dmaStart c)

/-- DMA_ABORT (R317). -/
def execDmaAbort (c : Nat) (s : State) : Out := onMain (c < 32) s (dmaAbort c)

/-- DMA_RESUME (R319). -/
def execDmaResume (c : Nat) (s : State) : Out := onMain (c < 32) s (dmaResume c)

/-- DOORBELL_RING (R315). -/
def execDoorbellRing (c : Nat) (s : State) : Out := onMain (c < 32) s (doorbellRing c)

/-- DMA_CH_CTL_WRITE (R317). -/
def execDmaChCtlWrite (c : Nat) (v : Word) (s : State) : Out := onMain (c < 32) s (dmaChCtlWrite c v)

/-- DMA_TRIGGER_INPUT (R315). -/
def execDmaTriggerInput (c : Nat) (s : State) : Out := onMain (c < 32) s (dmaTriggerInput c)

/-- DESC_FETCH_DONE (R312). -/
def execDescFetchDone (c : Nat) (s : State) : Out := onMain (c < 32) s (descFetchDone c)

/-- DMA_ELEMENT_ISSUE (R311). -/
def execDmaElementIssue (ready : BitVec 32) (s : State) : Out := onMain true s (dmaElementIssue ready)

/-- DMA_READ_DATA (R311). -/
def execDmaReadData (c : Nat) (s : State) : Out := onMust (dmaMust c s) (onMain (c < 32) s (dmaReadData c))

/-- DMA_WRITE_ACK (R313). -/
def execDmaWriteAck (c k : Nat) (s : State) : Out := onMain (c < 32) s (dmaWriteAck c k)

/-- NEXT_READ_DONE (R313). -/
def execNextReadDone (c : Nat) (s : State) : Out := onMain (c < 32) s (nextReadDone c)

/-- DMA_ERROR_RESPONSE (R319). -/
def execDmaErrorResponse (c dir k : Nat) (s : State) : Out := onMain (c < 32 && dir < 4) s (dmaErrorCmd c dir k)

/-- DESC_WRITE_BACK_DONE (R313). -/
def execDescWriteBackDone (c : Nat) (s : State) : Out := onMain (c < 32) s (descWriteBackDone c)

end Sys2Proof.Machine
end

