-- ==== Sys2Proof/Machine/ExecEvents.lean ====
section
/-! DEFINITION. The meanings of the commands of this family: the domain each belongs to, the units it names, and its effect. -/

namespace Sys2Proof.Machine

/-- CHANNEL_EVENT_ARRIVE (R360). -/
def execChannelEventArrive (n : Nat) (s : State) : Out := onMain (n < 256) s (channelEventArrive n)

/-- PENDING_EVENT_DELIVER (R360). -/
def execPendingEventDeliver (n : Nat) (s : State) : Out := onMain (n < 256) s (pendingEventDeliver n)

/-- CH_FIRE (R361). -/
def execChFire (i : Nat) (v : Word) (s : State) : Out := onMain (i < 8) s (chFire i v)

/-- SW_FIRE (R361). -/
def execSwFire (i : Nat) (v : Word) (s : State) : Out := onMain (i < 2) s (swFire i v)

/-- EVF_ROUTE_WRITE (R363). -/
def execEvfRouteWrite (m : Master) (cons : Bool) (i : Nat) (v : Word) (s : State) : Out :=
  onMain (i < (if cons then 128 else 256)) s (evfRouteWrite m cons i v)

/-- ROUTE_LOCK (R363). -/
def execRouteLock (m : Master) (s : State) : Out := onMain true s (routeLock m)

/-- WARN_BELLOWS (R362). -/
def execWarnBellows (s : State) : Out := onMain true s warnBellows

/-- WARN_AXES (R362). -/
def execWarnAxes (s : State) : Out := onMain true s warnAxes

end Sys2Proof.Machine
end

