-- ==== Sys2Proof/Machine/ExecFeedback.lean ====
section
/-! DEFINITION. The meanings of the commands of this family: the domain each belongs to, the units it names, and its effect. -/

namespace Sys2Proof.Machine

/-- HALL_EDGE (R258). -/
def execHallEdge (n h run sub : Nat) (s : State) : Out := onMain (n < 24 && h < 8) s (hallEdge n h run sub)

/-- FB_SPEED_REFRESH (R263). -/
def execFbSpeedRefresh (n : Nat) (s : State) : Out := onMain (n < 24) s (fbSpeedRefresh n)

/-- SPEED_TIMEOUT (R264). -/
def execSpeedTimeout (n : Nat) (s : State) : Out := onMain (n < 24) s (speedTimeout n)

/-- FB_SET_POS (R260). -/
def execFbSetPos (n : Nat) (s : State) : Out := onMain (n < 24) s (fbSetPos n)

/-- ARM_INDEX (R261). -/
def execArmIndex (n : Nat) (s : State) : Out := onMain (n < 24) s (armIndex n)

/-- DISARM_INDEX (R261). -/
def execDisarmIndex (n : Nat) (s : State) : Out := onMain (n < 24) s (disarmIndex n)

/-- FB_CTL_WRITE (R265). -/
def execFbCtlWrite (n : Nat) (v : Word) (s : State) : Out := onMain (n < 24) s (fbCtlWrite n v)

end Sys2Proof.Machine
end

