-- ==== Sys2Proof/Machine/ExecFirn.lean ====
section
/-! DEFINITION. The meanings of the commands of this family: the domain each belongs to, the units it names, and its effect. -/

namespace Sys2Proof.Machine

/-- FIRN_START (R334). -/
def execFirnStart (e : Nat) (s : State) : Out := onMain (e < 8) s (firnStart e)

/-- FIRN_ABORT (R334). -/
def execFirnAbort (e : Nat) (s : State) : Out := onMain (e < 8) s (firnAbort e)

/-- DROP_CTX (R330). -/
def execDropCtx (e : Nat) (s : State) : Out := onMain (e < 8) s (dropCtx e)

/-- FIRN_ECTL_WRITE (R334). -/
def execFirnEctlWrite (e : Nat) (v : Word) (s : State) : Out := onMain (e < 8) s (firnEctlWrite e v)

/-- JOB_WR_WRITE (R324). -/
def execJobWrWrite (e : Nat) (v : Word) (s : State) : Out := onMain (e < 8) s (jobWrWrite e v)

/-- FIRN_JOB_START (R326). -/
def execFirnJobStart (e : Nat) (s : State) : Out := onMain (e < 8) s (firnJobStart e)

/-- FIRN_JOB_END (R327). -/
def execFirnJobEnd (e fault : Nat) (s : State) : Out := onMain (e < 8) s (firnJobEnd e fault)

/-- FIRN_PACKET_SEND (R333). -/
def execFirnPacketSend (e stall : Nat) (s : State) : Out := onMain (e < 8) s (firnPacketSend e stall)

end Sys2Proof.Machine
end

