-- ==== Sys2Proof/Machine/ExecFrontEnd.lean ====
section
/-! DEFINITION. The meanings of the commands of this family: the domain each belongs to, the units it names, and its effect. -/

namespace Sys2Proof.Machine

/-- FE_APPLY (R101). -/
def execFeApply (n : Nat) (s : State) : Out := onMain (n < 24) s (feApply n)

/-- FE_SWITCH_NEXT (R118). -/
def execFeSwitchNext (n : Nat) (s : State) : Out := onMain (n < 24) s (feSwitchNext n)

/-- TAB_INIT (R109). -/
def execTabInit (n : Nat) (s : State) : Out := onMain (n < 24) s (tabInit n)

/-- TAB_INIT_DONE (R109). -/
def execTabInitDone (n : Nat) (s : State) : Out := onMain (n < 24) s (tabInitDone n)

/-- TAB_DATA_WRITE (R109). -/
def execTabDataWrite (n : Nat) (v : BitVec 32) (s : State) : Out := onMain (n < 24) s (tabDataWrite n v)

/-- FE_CTL_WRITE (R100). -/
def execFeCtlWrite (n : Nat) (v : BitVec 32) (s : State) : Out := onMain (n < 24) s (feCtlWrite n v)

/-- FE_FRAME_START (R107). -/
def execFeFrameStart (n : Nat) (s : State) : Out := onMain (n < 24) s (feFrameStart n)

/-- FE_LINE_START (R103). -/
def execFeLineStart (n : Nat) (s : State) : Out := onMain (n < 24) s (feLineStart n)

/-- FE_PIXEL_PACKET (R104). -/
def execFePixelPacket (n count : Nat) (s : State) : Out := onMain (n < 24) s (fePixelPacket n count)

/-- FE_LINE_END (R102). -/
def execFeLineEnd (n : Nat) (s : State) : Out := onMain (n < 24) s (feLineEnd n)

/-- FE_FRAME_END (R102). -/
def execFeFrameEnd (n : Nat) (s : State) : Out := onMain (n < 24) s (feFrameEnd n)

/-- LINE_TIMEOUT (R102). -/
def execLineTimeout (n : Nat) (s : State) : Out := onMain (n < 24) s (lineTimeout n)

/-- WINDOW_WAIT_TIMEOUT (R113). -/
def execWindowWaitTimeout (n : Nat) (s : State) : Out := onMain (n < 24) s (windowWaitTimeout n)

/-- FE_LINE_OUT (R117). -/
def execFeLineOut (n : Nat) (s : State) : Out := onMain (n < 24) s (feLineOut n)

/-- STAT_RECORD_WRITE (R122). -/
def execStatRecordWrite (n : Nat) (s : State) : Out := onMain (n < 24) s (statRecordWrite n)

/-- STAT_OUT_HOLD_EXPIRY (R122). -/
def execStatOutHoldExpiry (n q v : Nat) (s : State) : Out :=
  onMain (n < 24 && q < 32 && v < 4) s (statOutHoldExpiry n q v)

end Sys2Proof.Machine
end

