-- ==== Sys2Proof/Machine/ExecHearth.lean ====
section
/-! DEFINITION. The meanings of the commands of this family: the domain each belongs to, the units it names, and its effect. -/

namespace Sys2Proof.Machine

/-- HEARTH_ROW_DELIVER (R162). -/
def execHearthRowDeliver (t c : Nat) (s : State) : Out := onMain (t < 64 && c < 4) s (hearthRowDeliver t c)

/-- SPILL_REPLAY_ROW (R168). -/
def execSpillReplayRow (t c : Nat) (s : State) : Out := onMain (t < 64 && c < 4) s (spillReplayRow t c)

/-- CTX_FRAME_ENTRY (R163). -/
def execCtxFrameEntry (t c : Nat) (s : State) : Out := onMain (t < 64 && c < 4) s (ctxFrameEntry t c)

/-- CTX_ROW_ENTRY (R163). -/
def execCtxRowEntry (t c : Nat) (s : State) : Out := onMain (t < 64 && c < 4) s (ctxRowEntry t c)

/-- WDOG_EXPIRY (R164). -/
def execWdogExpiry (t c : Nat) (s : State) : Out := onMain (t < 64 && c < 4) s (wdogExpiry t c)

/-- CTX_RESUME (R164). -/
def execCtxResume (t c : Nat) (s : State) : Out := onMain (t < 64 && c < 4) s (ctxResume t c)

/-- CTX_CONTINUE (R164). -/
def execCtxContinue (t c : Nat) (s : State) : Out := onMain (t < 64 && c < 4) s (ctxContinue t c)

/-- CTX_HALT (R164). -/
def execCtxHalt (t c : Nat) (s : State) : Out := onMain (t < 64 && c < 4) s (ctxHalt t c)

/-- GROUP_APPLY (R174). -/
def execGroupApply (g : Nat) (s : State) : Out := onMain (g < 16) s (groupApply g)

/-- SWAP_PROG (R173). -/
def execSwapProg (g : Nat) (s : State) : Out := onMain (g < 16) s (swapProg g)

/-- SWAP_CLUT (R173). -/
def execSwapClut (g : Nat) (s : State) : Out := onMain (g < 16) s (swapClut g)

/-- GROUP_CANCEL_SWAP (R173). -/
def execGroupCancelSwap (g : Nat) (s : State) : Out := onMain (g < 16) s (groupCancelSwap g)

/-- FRAGMENT_QUEUE_DRAIN (R170). -/
def execFragmentQueueDrain (t : Nat) (s : State) : Out := onMain (t < 64) s (fragmentQueueDrain t)

/-- CLASS_ROW_RELEASE (R171). -/
def execClassRowRelease (v : Nat) (s : State) : Out := onMain (v < 4) s (classRowRelease v)

/-- IMEM_WRITE (R172). -/
def execImemWrite (t : Nat) (bc : Bool) (i : Nat) (w : BitVec 32) (s : State) : Out :=
  onMain (t < 64 && i < 4096) s (imemWrite t bc i w)

/-- CLUT_WRITE (R172). -/
def execClutWrite (t : Nat) (bc : Bool) (i : Nat) (w : BitVec 32) (s : State) : Out :=
  onMain (t < 64 && i < 16384) s (clutWrite t bc i w)

/-- LINE_STORE_WRITE (R172). -/
def execLineStoreWrite (t i : Nat) (w : BitVec 32) (s : State) : Out :=
  onMain (t < 64 && i < 98304) s (lineStoreWrite t i w)

end Sys2Proof.Machine
end

