-- ==== Sys2Proof/Machine/HearthVec.lean ====
section
/-! DEFINITION. The vector instructions of Hearth (R184 to R191, R193, R197). -/

namespace Sys2Proof.Machine

/-- A value narrowed to an element (R184): saturated under ST, else its low bits. -/
def narrowElem (w : Nat) (sg st : Bool) (r : Int) : Nat :=
  let b := ebits w
  let lo : Int := if sg then -(2 ^ (b - 1)) else 0
  let hi : Int := if sg then 2 ^ (b - 1) - 1 else 2 ^ b - 1
  (BitVec.ofInt b (if st then sat r lo hi else r)).toNat

/-- An element as its operand value: sign-extended under SG (R184). -/
def opValue (w : BitVec 64) (a : Nat) : Int := if wSG w then signed (ebits (wW w)) a else a

/-- A vector whose guarded elements are replaced (R184). -/
def HCtx.guarded (x : HCtx) (w : BitVec 64) (f : Nat → Nat) : BitVec 3072 :=
  let d := x.rv (wVD w)
  ofElems (wW w) ((List.range (ecount (wW w))).map (fun e => if x.guard w e then f e else elem (wW w) d e))

/-- The standard rule of R184 with operation `op` on exact values. -/
def HCtx.std (x : HCtx) (w : BitVec 64) (st : Bool) (op : Int → Int → Int) : VRes :=
  .vec (wVD w) (x.guarded w (fun e =>
    narrowElem (wW w) (wSG w) st (op (opValue w (elem (wW w) (x.rv (wVA w)) e)) (opValue w (x.opB w e)))))

/-- The standard rule with an operation on the bits of the elements. -/
def HCtx.stdBits (x : HCtx) (w : BitVec 64) (op : Nat → Nat → Nat) : VRes :=
  .vec (wVD w) (x.guarded w (fun e => op (elem (wW w) (x.rv (wVA w)) e) (x.opB w e)))

/-- A compare (R185): guarded elements that compare true; the bits from n on are cleared. -/
def HCtx.compare (x : HCtx) (w : BitVec 64) (op : Int → Int → Bool) : VRes :=
  let bits := (List.range (ecount (wW w))).map (fun e =>
    b2n (x.guard w e && op (opValue w (elem (wW w) (x.rv (wVA w)) e)) (opValue w (x.opB w e))))
  .pred (wVD w % 8) (BitVec.ofNat 768 (packElems 1 bits))

/-- The slot column that element `e` reads (R186). -/
def State.loadCol (s : State) (t c : Nat) (x : HCtx) (w : BitVec 64) (e : Nat) : Nat :=
  (sat ((x.rs 15).toInt + signed 5 (wVB w) + e) 0 ((s.ctxGroup t c).slotW - 1 : Nat)).toNat

/-- A load from the ring (R186): `half` reads the place, `f` gives the element from it. -/
def State.ringLoad (s : State) (t c : Nat) (x : HCtx) (w : BitVec 64) (half : Nat → Nat → Nat → Nat) (f : Nat → Nat) : VRes :=
  let slot := s.rowSlot t c (signed 6 (wImm8 w / 4))
  .vec (wVD w) (x.guarded w (fun e => f (half slot (wImm8 w % 4) (s.loadCol t c x w e)) % 2 ^ ebits (wW w)))

/-- VNOP. -/
def vnop (t c : Nat) (s : State) : State := s.vecIssue t c 0x00 (fun _ _ s => (s, .none))

/-- VLDP (R186): pixel values. -/
def vldp (t c : Nat) (s : State) : State := s.vecIssue t c 0x01 (fun x w s =>
  (s, s.ringLoad t c x w ((s.ctxGroup t c).half (s.tile t).ls) (fun h =>
    let v := h % 4096
    if wW w == 0 then v / 256 else if wW w == 1 then v / 16 else v)))

/-- VLDR (R186): Drift references. -/
def vldr (t c : Nat) (s : State) : State := s.vecIssue t c 0x02 (fun x w s =>
  (s, s.ringLoad t c x w ((s.ctxGroup t c).refHalf (s.tile t).ls) (fun f =>
    if wW w == 0 then f / 4096 else if wW w == 1 then f / 256 else if wW w == 2 then f / 16 else f)))

/-- VLDF (R186): column flags. -/
def vldf (t c : Nat) (s : State) : State := s.vecIssue t c 0x03 (fun x w s =>
  (s, s.ringLoad t c x w ((s.ctxGroup t c).half (s.tile t).ls) (fun h => h / 4096)))

/-- VLDS (R188): the guarded elements take 384 bytes of scratch. -/
def vlds (t c : Nat) (s : State) : State := s.vecIssue t c 0x04 (fun x w s =>
  (s, .vec (wVD w) (x.guarded w (elem (wW w) (s.scratchVec t c (x.vAddr w))))))

/-- VSTS (R188): the guarded elements go to scratch. -/
def vsts (t c : Nat) (s : State) : State := s.vecIssue t c 0x05 (fun x w s =>
  let m := ofElems (wW w) ((List.range (ecount (wW w))).map (fun e => if x.guard w e then 2 ^ ebits (wW w) - 1 else 0))
  (s, .mem (x.vAddr w) (x.rv (wVD w)) m))

/-- A class code at a column of the class row of the invocation's row (R197). -/
def State.classPut (s : State) (t c col code : Nat) : State :=
  match (s.ctx t c).bind with
  | none => s
  | some (g, k, i) =>
    let no := (s.ctx t c).rowNo
    let v := (s.group g).viewOf k
    let rec go : List ClassRow → List ClassRow
      | [] => []
      | r :: rs => if r.rowNo == no && r.waiting.contains (g, k, i) then
          { r with codes := r.codes.set (fun _ => 0) col code } :: rs else r :: go rs
    s.setClass v (go (s.classOf v))

/-- VCLS (R197): class codes of the guarded elements inside the stripe. -/
def vcls (t c : Nat) (s : State) : State := s.vecIssue t c 0x06 (fun x w s =>
  match x.bind with
  | none => (s, .none)
  | some (g, k, i) =>
    let gx := s.group g
    let s := times (ecount (wW w)) (fun e s =>
      let j : Int := (x.rs 15).toInt + e
      if x.guard w e && decide ((gx.apron : Int) ≤ j) && decide (j < ((gx.apron + gx.stripeWidth k i : Nat) : Int)) then
        s.classPut t c (gx.stripeCol k i + j.toNat - gx.apron) (elem (wW w) (x.rv (wVA w)) e % 16)
      else s) s
    (s, .none))

/-- VMOVI. -/
def vmovi (t c : Nat) (s : State) : State := s.vecIssue t c 0x08 (fun x w s =>
  let i : Int := if wSG w then signed 8 (wImm8 w) else wImm8 w
  (s, x.std w (wST w) (fun _ _ => i)))

/-- VADD (R184). -/
def vadd (t c : Nat) (s : State) : State := s.vecIssue t c 0x09 (fun x w s => (s, x.std w (wST w) (fun a b => a + b)))
/-- VSUB (R184). -/
def vsub (t c : Nat) (s : State) : State := s.vecIssue t c 0x0a (fun x w s => (s, x.std w (wST w) (fun a b => a - b)))
/-- VMUL (R184). -/
def vmul (t c : Nat) (s : State) : State := s.vecIssue t c 0x0b (fun x w s => (s, x.std w (wST w) (fun a b => a * b)))
/-- VMIN. -/
def vmin (t c : Nat) (s : State) : State :=
  s.vecIssue t c 0x0c (fun x w s => (s, x.std w (wST w) (fun a b => if a ≤ b then a else b)))
/-- VMAX. -/
def vmax (t c : Nat) (s : State) : State :=
  s.vecIssue t c 0x0d (fun x w s => (s, x.std w (wST w) (fun a b => if a ≤ b then b else a)))
/-- VABSD, with ST ignored. -/
def vabsd (t c : Nat) (s : State) : State := s.vecIssue t c 0x0e (fun x w s =>
  (s, x.std w false (fun a b => ((a - b).natAbs : Int))))
/-- VAND. -/
def vand (t c : Nat) (s : State) : State := s.vecIssue t c 0x0f (fun x w s => (s, x.stdBits w (fun a b => a &&& b)))
/-- VOR. -/
def vor (t c : Nat) (s : State) : State := s.vecIssue t c 0x10 (fun x w s => (s, x.stdBits w (fun a b => a ||| b)))
/-- VXOR. -/
def vxor (t c : Nat) (s : State) : State := s.vecIssue t c 0x11 (fun x w s => (s, x.stdBits w (fun a b => a ^^^ b)))

/-- VSHL; a shift of the element width or more gives 0. -/
def vshl (t c : Nat) (s : State) : State := s.vecIssue t c 0x12 (fun x w s =>
  let sh := wImm8 w % 32
  (s, x.std w (wST w) (fun a _ => if ebits (wW w) ≤ sh then 0 else a * 2 ^ sh)))

/-- VSHR, arithmetic when SG = 1. -/
def vshr (t c : Nat) (s : State) : State := s.vecIssue t c 0x13 (fun x w s =>
  (s, x.std w (wST w) (fun a _ => a / 2 ^ (wImm8 w % 32))))

/-- VSEL: every element is written. -/
def vsel (t c : Nat) (s : State) : State := s.vecIssue t c 0x14 (fun x w s =>
  (s, .vec (wVD w) (ofElems (wW w) ((List.range (ecount (wW w))).map (fun e =>
    if x.guard w e then elem (wW w) (x.rv (wVA w)) e else x.opB w e)))))

/-- VCMPEQ. -/
def vcmpeq (t c : Nat) (s : State) : State := s.vecIssue t c 0x18 (fun x w s => (s, x.compare w (fun a b => a == b)))
/-- VCMPLT. -/
def vcmplt (t c : Nat) (s : State) : State := s.vecIssue t c 0x19 (fun x w s => (s, x.compare w (fun a b => decide (a < b))))
/-- VCMPLE. -/
def vcmple (t c : Nat) (s : State) : State := s.vecIssue t c 0x1a (fun x w s => (s, x.compare w (fun a b => decide (a ≤ b))))

/-- PAND: all 768 bits. -/
def pand (t c : Nat) (s : State) : State := s.vecIssue t c 0x1b (fun x w s =>
  (s, .pred (wVD w % 8) (x.rp' (wVA w % 8) &&& x.rp' (wVB w % 8))))
/-- POR. -/
def por (t c : Nat) (s : State) : State := s.vecIssue t c 0x1c (fun x w s =>
  (s, .pred (wVD w % 8) (x.rp' (wVA w % 8) ||| x.rp' (wVB w % 8))))
/-- PXOR. -/
def pxor (t c : Nat) (s : State) : State := s.vecIssue t c 0x1d (fun x w s =>
  (s, .pred (wVD w % 8) (x.rp' (wVA w % 8) ^^^ x.rp' (wVB w % 8))))

/-- VQNT (R189). -/
def vqnt (t c : Nat) (s : State) : State := s.vecIssue t c 0x20 (fun x w s =>
  let sh := wImm8 w % 32
  (s, .vec (wVD w) (x.guarded w (fun e =>
    let a := opValue w (elem (wW w) (x.rv (wVA w)) e)
    (sat (if sh = 0 then a else (a + 2 ^ (sh - 1)) / 2 ^ sh) 0 15).toNat))))

/-- A nibble of a number. -/
def nibble (a k : Nat) : Nat := a / 16 ^ k % 16

/-- VINS (R189): nibble `k` of the destination takes nibble 0 of the source. -/
def vins (t c : Nat) (s : State) : State := s.vecIssue t c 0x21 (fun x w s =>
  let k := wImm8 w % 8
  (s, .vec (wVD w) (x.guarded w (fun e =>
    let d := elem (wW w) (x.rv (wVD w)) e
    d - nibble d k * 16 ^ k + nibble (elem (wW w) (x.rv (wVA w)) e) 0 * 16 ^ k))))

/-- VEXT (R189). -/
def vext (t c : Nat) (s : State) : State := s.vecIssue t c 0x22 (fun x w s =>
  (s, .vec (wVD w) (x.guarded w (fun e =>
    let n := nibble (elem (wW w) (x.rv (wVA w)) e) (wImm8 w % 8)
    if wSG w then (BitVec.ofInt (ebits (wW w)) (signed 4 n)).toNat else n))))

/-- VLUT (R189): lookup in the CLUT bank in force for the context. -/
def vlut (t c : Nat) (s : State) : State := s.vecIssue t c 0x23 (fun x w s =>
  let b := s.gf (R.HEARTH_CTX_STAT t c) F.HEARTH_CTX_STAT_CLUT_BANK
  (s, .vec (wVD w) (x.guarded w (fun e =>
    (lsByte (s.tile t).clut (b * 65536 + elem (wW w) (x.rv (wVA w)) e % 65536)).toNat))))

/-- VDOT4 (R190). -/
def vdot4 (t c : Nat) (s : State) : State := s.vecIssue t c 0x24 (fun x w s =>
  let b := ebits (wW w)
  (s, .vec (wVD w) (x.guarded w (fun e =>
    let a := elem (wW w) (x.rv (wVA w)) e
    let k := x.opB w e
    let acc := ((List.range (gang (wW w))).map (fun i => (nibble a i : Int) * signed 4 (nibble k i))).foldl (· + ·) 0
    narrowElem (wW w) true true (signed b (elem (wW w) (x.rv (wVD w)) e) + acc)))))

/-- VNAR (R191): elements of a wider source width. -/
def vnar (t c : Nat) (s : State) : State := s.vecIssue t c 0x25 (fun x w s =>
  let sw := wImm8 w / 8 % 8
  let ns := ecount sw
  let p := wImm8 w % 8
  let v := (List.range (ecount (wW w))).map (fun d =>
    if decide (p * ns ≤ d) && decide (d < (p + 1) * ns) && x.guard w d then
      let a := elem sw (x.rv (wVA w)) (d - p * ns)
      narrowElem (wW w) (wSG w) (wST w) (if wSG w then signed (ebits sw) a else a)
    else elem (wW w) (x.rv (wVD w)) d)
  (s, .vec (wVD w) (ofElems (wW w) v)))

/-- VWID (R191): elements of a narrower source width. -/
def vwid (t c : Nat) (s : State) : State := s.vecIssue t c 0x26 (fun x w s =>
  let sw := wImm8 w / 8 % 8
  let nd := ecount (wW w)
  (s, .vec (wVD w) (x.guarded w (fun e =>
    let a := elem sw (x.rv (wVA w)) (wImm8 w % 8 * nd + e)
    if wSG w then (BitVec.ofInt (ebits (wW w)) (signed (ebits sw) a)).toNat else a))))

/-- VRSUM: the guarded elements summed into a scalar. -/
def vrsum (t c : Nat) (s : State) : State := s.vecIssue t c 0x27 (fun x w s =>
  let sum := ((List.range (ecount (wW w))).map (fun e =>
    if x.guard w e then opValue w (elem (wW w) (x.rv (wVA w)) e) else 0)).foldl (· + ·) 0
  (s, .scal (wVD w % 16) (BitVec.ofInt 32 sum)))

/-- Is any plane of row r at slot column `j` PADDED (R193)? -/
def State.colPadded (s : State) (t c slot j : Nat) : Bool :=
  (List.range 4).any (fun p => (s.ctxGroup t c).half (s.tile t).ls slot p j / 4096 % 2 == 1)

/-- VRUN (R193): the guarded columns of a chunk become runs. -/
def vrun (t c : Nat) (s : State) : State := s.vecIssue t c 0x30 (fun x w s =>
  match x.bind with
  | none => (s, .none)
  | some (g, k, i) =>
    let gx := s.group g
    let slot := s.rowSlot t c 0
    let n := ecount (wW w)
    let y := (List.range n).foldl (fun (y : HCtx) (e : Nat) =>
      let j : Int := (x.rs 15).toInt + e
      if x.guard w e && decide ((gx.apron : Int) ≤ j) && decide (j < ((gx.apron + gx.stripeWidth k i : Nat) : Int)) then
        y.runColumn j.toNat (elem (wW w) (x.rv (wVA w)) e % 16)
          ((List.range 4).map (fun q => if wImm8 w / 2 ^ q % 2 == 1 then elem (wW w) (x.rv ((wVB w + q) % 32)) e else 0))
          (s.colPadded t c slot j.toNat)
      else y.closeRun) x
    (s.setCtx t c { y with runNext := some ((x.rs 15).toInt + n) }, .none))

end Sys2Proof.Machine
end

