-- ==== Sys2Proof/Machine/HearthIsa.lean ====
section
/-! DEFINITION. The scalar, control and label instructions of Hearth (R192 to R196). -/

namespace Sys2Proof.Machine

/-- A scalar result. -/
def State.sres (s : State) (w : BitVec 64) (v : Word) : State × SRes := (s, { reg := some (wSD w, v) })

/-- A scalar operation on SA and SB. -/
def State.scalOp (s : State) (t c op : Nat) (f : Word → Word → Word) : State :=
  s.scalIssue t c op (fun x w s => s.sres w (f (x.rs (wSA w)) (x.rs (wSB w))))

/-- A scalar operation on SA and IMM12. -/
def State.scalImm (s : State) (t c op : Nat) (f : Word → Nat → Word) : State :=
  s.scalIssue t c op (fun x w s => s.sres w (f (x.rs (wSA w)) (wImm12 w)))

/-- A branch on SA and SD (R182, R192). -/
def State.branch (s : State) (t c op : Nat) (f : Word → Word → Bool) : State :=
  s.scalIssue t c op (fun x w s => (s, { target := if f (x.rs (wSA w)) (x.rs (wSD w)) then some (wImm12 w) else none }))

/-- SNOP. -/
def snop (t c : Nat) (s : State) : State := s.scalIssue t c 0x00 (fun _ _ s => (s, {}))
/-- SLI. -/
def sli (t c : Nat) (s : State) : State := s.scalIssue t c 0x01 (fun _ w s => s.sres w (BitVec.ofNat 32 (wImm16 w)))
/-- SLIH. -/
def slih (t c : Nat) (s : State) : State := s.scalIssue t c 0x02 (fun x w s =>
  s.sres w (BitVec.ofNat 32 (wImm16 w * 0x10000 + (x.rs (wSD w)).toNat % 0x10000)))
/-- SADDI. -/
def saddi (t c : Nat) (s : State) : State := s.scalImm t c 0x03 (fun a i => a + BitVec.ofInt 32 (signed 12 i))
/-- SADD. -/
def sadd (t c : Nat) (s : State) : State := s.scalOp t c 0x04 (fun a b => a + b)
/-- SSUB. -/
def ssub (t c : Nat) (s : State) : State := s.scalOp t c 0x05 (fun a b => a - b)
/-- SAND. -/
def sand (t c : Nat) (s : State) : State := s.scalOp t c 0x06 (fun a b => a &&& b)
/-- SOR. -/
def sor (t c : Nat) (s : State) : State := s.scalOp t c 0x07 (fun a b => a ||| b)
/-- SXOR. -/
def sxor (t c : Nat) (s : State) : State := s.scalOp t c 0x08 (fun a b => a ^^^ b)
/-- SSHLI. -/
def sshli (t c : Nat) (s : State) : State := s.scalImm t c 0x09 (fun a i => a <<< (i % 32))
/-- SSHRI. -/
def sshri (t c : Nat) (s : State) : State := s.scalImm t c 0x0a (fun a i => a >>> (i % 32))
/-- SSRAI. -/
def ssrai (t c : Nat) (s : State) : State := s.scalImm t c 0x0b (fun a i => a.sshiftRight (i % 32))
/-- SMUL. -/
def smul (t c : Nat) (s : State) : State := s.scalOp t c 0x0c (fun a b => a * b)
/-- SMIN. -/
def smin (t c : Nat) (s : State) : State := s.scalOp t c 0x0d (fun a b => if b.slt a then b else a)
/-- SMAX. -/
def smax (t c : Nat) (s : State) : State := s.scalOp t c 0x0e (fun a b => if a.slt b then b else a)
/-- SSLT. -/
def sslt (t c : Nat) (s : State) : State := s.scalOp t c 0x0f (fun a b => if a.slt b then 1 else 0)

/-- The value that SGET reads (R194). -/
def State.sideband (s : State) (t c : Nat) (x : HCtx) (w : BitVec 64) : Nat :=
  let f := wImm12 w % 32
  let gx := s.ctxGroup t c
  let m := (s.tile t).ls
  let a := s.rowSlot t c (signed 6 (wImm12 w / 32))
  match x.bind with
  | none => 0
  | some (g, k, i) =>
    if f == 0 then lsNat m a 4
    else if f == 1 then lsNat m (a + 4) 4
    else if f == 2 then lsNat m (a + 8) 2
    else if f == 3 then lsNat m (a + 10) 2 + 0x10000 * lsNat m (a + 22) 2
    else if f == 4 then lsNat m (a + 12) 4
    else if f == 5 then lsNat m (a + 16) 4
    else if f == 6 then lsNat m (a + 20) 1 % 4 + 256 * lsNat m (a + 21) 1
    else if f == 7 then gx.stripeCol k i
    else if f == 8 then gx.stripeWidth k i
    else if f == 9 then gx.apron
    else if f == 10 then gx.slotW
    else if f == 11 then c + 4 * k + 16 * i + 0x10000 * g + 0x100000 * t
    else if f == 12 then s.gf (R.HEARTH_CTX_STAT t c) F.HEARTH_CTX_STAT_CLUT_BANK
    else if f == 13 then gx.scratch * 64
    else if f == 14 then x.issueAt w
    else if f == 15 then gx.frameRows k
    else (s.view (gx.viewOf k)).width

/-- SGET (R194). -/
def sget (t c : Nat) (s : State) : State := s.scalIssue t c 0x10 (fun x w s =>
  s.sres w (BitVec.ofNat 32 (s.sideband t c x w)))

/-- SLDS (R188). -/
def slds (t c : Nat) (s : State) : State := s.scalIssue t c 0x11 (fun x w s =>
  s.sres w (BitVec.ofNat 32 (lsNat (s.tile t).ls ((s.ctxGroup t c).scratchAddr c + x.sAddr w) 4)))

/-- SSTS (R188). -/
def ssts (t c : Nat) (s : State) : State := s.scalIssue t c 0x12 (fun x w s =>
  (s, { mem := some (x.sAddr w, x.rs (wSD w)) }))

/-- SPCNT. -/
def spcnt (t c : Nat) (s : State) : State := s.scalIssue t c 0x13 (fun x w s =>
  s.sres w (BitVec.ofNat 32 ((List.range (ecount (wImm12 w % 8))).filter (fun e => (x.rp' (wSA w % 8)).getLsbD e)).length))

/-- B. -/
def bOp (t c : Nat) (s : State) : State := s.branch t c 0x14 (fun _ _ => true)
/-- BZ. -/
def bz (t c : Nat) (s : State) : State := s.branch t c 0x15 (fun a _ => a == 0)
/-- BNZ. -/
def bnz (t c : Nat) (s : State) : State := s.branch t c 0x16 (fun a _ => a != 0)
/-- BLT: SA below SD, signed. -/
def blt (t c : Nat) (s : State) : State := s.branch t c 0x17 (fun a d => a.slt d)

/-- What the label unit needs of the invocation's row (R195), read from its slot. -/
def State.rowEnv (s : State) (t c : Nat) (x : HCtx) : RowEnv :=
  let gx := s.ctxGroup t c
  let m := (s.tile t).ls
  let a := s.rowSlot t c 0
  let fl := lsNat m (a + 10) 2
  let k := match x.bind with | some (_, k, _) => k | none => 0
  let i := match x.bind with | some (_, _, i) => i | none => 0
  ⟨⟨x.rowNo, lsNat m (a + 4) 4, lsNat m (a + 8) 2, BitVec.ofNat 64 (lsNat m (a + 12) 8)⟩, gx.stripeCol k i, gx.stripeWidth k i,
    gx.apron, (s.view (gx.viewOf k)).width, flag fl 0 || flag fl 3 || flag fl 4 || flag fl 8,
    flag (lsNat m (a + 22) 2) 2⟩

/-- The row's runs are connected (R195): truncated labels leave as records. The labels closed and the cycles. -/
def State.connect (s : State) (t c : Nat) (conn : Bool) : State × Nat × Nat :=
  let x := s.ctx t c
  let r := x.lrowRun conn (s.rowEnv t c x)
  let s := s.setCtx t c r.1
  (r.2.1.foldl (fun s l => s.putFrag t c (s.mkFrag t c l false true)) s, r.2.2.1, r.2.2.2)

/-- The closed labels that the program has not handled leave as they stand (R196). -/
def State.emitClosed (s : State) (t c : Nat) : State :=
  let x := s.ctx t c
  let s' := (x.labels.filter (fun p => p.2.closed)).foldl (fun s p => s.putFrag t c (s.mkFrag t c p.2 false false)) s
  s'.setCtx t c { x with labels := x.labels.filter (fun p => !p.2.closed) }

/-- END (R182, R196): a row invocation performs an LROW it owes and emits the closed labels left. -/
def endOp (t c : Nat) (s : State) : State := s.scalIssue t c 0x18 (fun x _ s =>
  if !x.inRow then (s, { fin := true }) else
  let r := if x.lrow then (s, 0, 0) else s.connect t c x.conn
  (r.1.emitClosed t c, { fin := true, hold := r.2.2 }))

/-- BRK (R199). -/
def brk (t c : Nat) (s : State) : State := s.scalIssue t c 0x19 (fun _ _ s => (s, { brk := true }))

/-- LROW (R195). -/
def lrow (t c : Nat) (s : State) : State := s.scalIssue t c 0x1a (fun _ w s =>
  let r := s.connect t c (wImm12 w % 2 == 1)
  (r.1, { reg := some (wSD w, BitVec.ofNat 32 r.2.1), hold := r.2.2 }))

/-- LCLOSED (R196): the lowest closed ID not yet returned. -/
def lclosed (t c : Nat) (s : State) : State := s.scalIssue t c 0x1b (fun x w s =>
  match x.labels.find? (fun p => p.2.closed && !x.returned.contains p.1) with
  | some p => (s.setCtx t c { s.ctx t c with returned := x.returned ++ [p.1] }).sres w (BitVec.ofNat 32 p.1)
  | none => s.sres w 0xffffffff)

/-- LGET (R196): a free label reads 0; a field that the spec does not list has no stated value. -/
def lget (t c : Nat) (s : State) : State := s.scalIssue t c 0x1c (fun x w s =>
  match x.labels.find? (fun p => p.1 == (x.rs (wSA w)).toNat) with
  | none => s.sres w 0
  | some p =>
    match p.2.field (wImm12 w) with
    | some n => s.sres w (BitVec.ofNat 32 n)
    | none => s.freeNext.sres w (s.free.setWidth 32))

/-- LSET (R196). -/
def lset (t c : Nat) (s : State) : State := s.scalIssue t c 0x1d (fun x w s =>
  let id := (x.rs (wSA w)).toNat
  let y := s.ctx t c
  (s.setCtx t c { y with labels := y.labels.map (fun p =>
    if p.1 == id then (p.1, p.2.setField (wImm12 w) (x.rs (wSD w))) else p) }, {}))

/-- A closed label's ID is freed. -/
def State.freeLabel (s : State) (t c id : Nat) : State :=
  s.setCtx t c { s.ctx t c with labels := SMap.del (s.ctx t c).labels id }

/-- FEMIT (R170, R196). -/
def femit (t c : Nat) (s : State) : State := s.scalIssue t c 0x1e (fun x w s =>
  let id := (x.rs (wSA w)).toNat
  match x.labels.find? (fun p => p.1 == id) with
  | some p => ((s.freeLabel t c id).putFrag t c (s.mkFrag t c p.2 false false), {})
  | none => (s, {}))

/-- LDROP (R196). -/
def ldrop (t c : Nat) (s : State) : State := s.scalIssue t c 0x1f (fun x w s =>
  (s.freeLabel t c (x.rs (wSA w)).toNat, {}))

end Sys2Proof.Machine
end

