-- ==== Sys2Proof/Machine/ExecHearthIsa.lean ====
section
/-! DEFINITION. The meanings of the commands of this family: the domain each belongs to, the units it names, and its effect. -/

namespace Sys2Proof.Machine

/-- ILLEGAL_INSTRUCTION (R199). -/
def execIllegalInstruction (t c : Nat) (s : State) : Out := onMain (t < 64 && c < 4) s (illegalInstruction t c)

/-- VNOP (R185). -/
def execVnop (t c : Nat) (s : State) : Out := onMain (t < 64 && c < 4) s (vnop t c)

/-- VLDP (R186). -/
def execVldp (t c : Nat) (s : State) : Out := onMain (t < 64 && c < 4) s (vldp t c)

/-- VLDR (R186). -/
def execVldr (t c : Nat) (s : State) : Out := onMain (t < 64 && c < 4) s (vldr t c)

/-- VLDF (R186). -/
def execVldf (t c : Nat) (s : State) : Out := onMain (t < 64 && c < 4) s (vldf t c)

/-- VLDS (R188). -/
def execVlds (t c : Nat) (s : State) : Out := onMain (t < 64 && c < 4) s (vlds t c)

/-- VSTS (R188). -/
def execVsts (t c : Nat) (s : State) : Out := onMain (t < 64 && c < 4) s (vsts t c)

/-- VCLS (R197). -/
def execVcls (t c : Nat) (s : State) : Out := onMain (t < 64 && c < 4) s (vcls t c)

/-- VMOVI (R185). -/
def execVmovi (t c : Nat) (s : State) : Out := onMain (t < 64 && c < 4) s (vmovi t c)

/-- VADD (R184). -/
def execVadd (t c : Nat) (s : State) : Out := onMain (t < 64 && c < 4) s (vadd t c)

/-- VSUB (R184). -/
def execVsub (t c : Nat) (s : State) : Out := onMain (t < 64 && c < 4) s (vsub t c)

/-- VMUL (R184). -/
def execVmul (t c : Nat) (s : State) : Out := onMain (t < 64 && c < 4) s (vmul t c)

/-- VMIN (R185). -/
def execVmin (t c : Nat) (s : State) : Out := onMain (t < 64 && c < 4) s (vmin t c)

/-- VMAX (R185). -/
def execVmax (t c : Nat) (s : State) : Out := onMain (t < 64 && c < 4) s (vmax t c)

/-- VABSD (R185). -/
def execVabsd (t c : Nat) (s : State) : Out := onMain (t < 64 && c < 4) s (vabsd t c)

/-- VAND (R185). -/
def execVand (t c : Nat) (s : State) : Out := onMain (t < 64 && c < 4) s (vand t c)

/-- VOR (R185). -/
def execVor (t c : Nat) (s : State) : Out := onMain (t < 64 && c < 4) s (vor t c)

/-- VXOR (R185). -/
def execVxor (t c : Nat) (s : State) : Out := onMain (t < 64 && c < 4) s (vxor t c)

/-- VSHL (R185). -/
def execVshl (t c : Nat) (s : State) : Out := onMain (t < 64 && c < 4) s (vshl t c)

/-- VSHR (R185). -/
def execVshr (t c : Nat) (s : State) : Out := onMain (t < 64 && c < 4) s (vshr t c)

/-- VSEL (R185). -/
def execVsel (t c : Nat) (s : State) : Out := onMain (t < 64 && c < 4) s (vsel t c)

/-- VCMPEQ (R185). -/
def execVcmpeq (t c : Nat) (s : State) : Out := onMain (t < 64 && c < 4) s (vcmpeq t c)

/-- VCMPLT (R185). -/
def execVcmplt (t c : Nat) (s : State) : Out := onMain (t < 64 && c < 4) s (vcmplt t c)

/-- VCMPLE (R185). -/
def execVcmple (t c : Nat) (s : State) : Out := onMain (t < 64 && c < 4) s (vcmple t c)

/-- PAND (R185). -/
def execPand (t c : Nat) (s : State) : Out := onMain (t < 64 && c < 4) s (pand t c)

/-- POR (R185). -/
def execPor (t c : Nat) (s : State) : Out := onMain (t < 64 && c < 4) s (por t c)

/-- PXOR (R185). -/
def execPxor (t c : Nat) (s : State) : Out := onMain (t < 64 && c < 4) s (pxor t c)

/-- VQNT (R189). -/
def execVqnt (t c : Nat) (s : State) : Out := onMain (t < 64 && c < 4) s (vqnt t c)

/-- VINS (R189). -/
def execVins (t c : Nat) (s : State) : Out := onMain (t < 64 && c < 4) s (vins t c)

/-- VEXT (R189). -/
def execVext (t c : Nat) (s : State) : Out := onMain (t < 64 && c < 4) s (vext t c)

/-- VLUT (R189). -/
def execVlut (t c : Nat) (s : State) : Out := onMain (t < 64 && c < 4) s (vlut t c)

/-- VDOT4 (R190). -/
def execVdot4 (t c : Nat) (s : State) : Out := onMain (t < 64 && c < 4) s (vdot4 t c)

/-- VNAR (R191). -/
def execVnar (t c : Nat) (s : State) : Out := onMain (t < 64 && c < 4) s (vnar t c)

/-- VWID (R191). -/
def execVwid (t c : Nat) (s : State) : Out := onMain (t < 64 && c < 4) s (vwid t c)

/-- VRSUM (R185). -/
def execVrsum (t c : Nat) (s : State) : Out := onMain (t < 64 && c < 4) s (vrsum t c)

/-- VRUN (R193). -/
def execVrun (t c : Nat) (s : State) : Out := onMain (t < 64 && c < 4) s (vrun t c)

/-- SNOP (R192). -/
def execSnop (t c : Nat) (s : State) : Out := onMain (t < 64 && c < 4) s (snop t c)

/-- SLI (R192). -/
def execSli (t c : Nat) (s : State) : Out := onMain (t < 64 && c < 4) s (sli t c)

/-- SLIH (R192). -/
def execSlih (t c : Nat) (s : State) : Out := onMain (t < 64 && c < 4) s (slih t c)

/-- SADDI (R192). -/
def execSaddi (t c : Nat) (s : State) : Out := onMain (t < 64 && c < 4) s (saddi t c)

/-- SADD (R192). -/
def execSadd (t c : Nat) (s : State) : Out := onMain (t < 64 && c < 4) s (sadd t c)

/-- SSUB (R192). -/
def execSsub (t c : Nat) (s : State) : Out := onMain (t < 64 && c < 4) s (ssub t c)

/-- SAND (R192). -/
def execSand (t c : Nat) (s : State) : Out := onMain (t < 64 && c < 4) s (sand t c)

/-- SOR (R192). -/
def execSor (t c : Nat) (s : State) : Out := onMain (t < 64 && c < 4) s (sor t c)

/-- SXOR (R192). -/
def execSxor (t c : Nat) (s : State) : Out := onMain (t < 64 && c < 4) s (sxor t c)

/-- SSHLI (R192). -/
def execSshli (t c : Nat) (s : State) : Out := onMain (t < 64 && c < 4) s (sshli t c)

/-- SSHRI (R192). -/
def execSshri (t c : Nat) (s : State) : Out := onMain (t < 64 && c < 4) s (sshri t c)

/-- SSRAI (R192). -/
def execSsrai (t c : Nat) (s : State) : Out := onMain (t < 64 && c < 4) s (ssrai t c)

/-- SMUL (R192). -/
def execSmul (t c : Nat) (s : State) : Out := onMain (t < 64 && c < 4) s (smul t c)

/-- SMIN (R192). -/
def execSmin (t c : Nat) (s : State) : Out := onMain (t < 64 && c < 4) s (smin t c)

/-- SMAX (R192). -/
def execSmax (t c : Nat) (s : State) : Out := onMain (t < 64 && c < 4) s (smax t c)

/-- SSLT (R192). -/
def execSslt (t c : Nat) (s : State) : Out := onMain (t < 64 && c < 4) s (sslt t c)

/-- SGET (R194). -/
def execSget (t c : Nat) (s : State) : Out := onMain (t < 64 && c < 4) s (sget t c)

/-- SLDS (R188). -/
def execSlds (t c : Nat) (s : State) : Out := onMain (t < 64 && c < 4) s (slds t c)

/-- SSTS (R188). -/
def execSsts (t c : Nat) (s : State) : Out := onMain (t < 64 && c < 4) s (ssts t c)

/-- SPCNT (R192). -/
def execSpcnt (t c : Nat) (s : State) : Out := onMain (t < 64 && c < 4) s (spcnt t c)

/-- B (R182). -/
def execBOp (t c : Nat) (s : State) : Out := onMain (t < 64 && c < 4) s (bOp t c)

/-- BZ (R192). -/
def execBz (t c : Nat) (s : State) : Out := onMain (t < 64 && c < 4) s (bz t c)

/-- BNZ (R192). -/
def execBnz (t c : Nat) (s : State) : Out := onMain (t < 64 && c < 4) s (bnz t c)

/-- BLT (R192). -/
def execBlt (t c : Nat) (s : State) : Out := onMain (t < 64 && c < 4) s (blt t c)

/-- END (R196). -/
def execEndOp (t c : Nat) (s : State) : Out := onMain (t < 64 && c < 4) s (endOp t c)

/-- BRK (R199). -/
def execBrk (t c : Nat) (s : State) : Out := onMain (t < 64 && c < 4) s (brk t c)

/-- LROW (R195). -/
def execLrow (t c : Nat) (s : State) : Out := onMain (t < 64 && c < 4) s (lrow t c)

/-- LCLOSED (R196). -/
def execLclosed (t c : Nat) (s : State) : Out := onMain (t < 64 && c < 4) s (lclosed t c)

/-- LGET (R196). -/
def execLget (t c : Nat) (s : State) : Out := onMain (t < 64 && c < 4) s (lget t c)

/-- LSET (R196). -/
def execLset (t c : Nat) (s : State) : Out := onMain (t < 64 && c < 4) s (lset t c)

/-- FEMIT (R196). -/
def execFemit (t c : Nat) (s : State) : Out := onMain (t < 64 && c < 4) s (femit t c)

/-- LDROP (R196). -/
def execLdrop (t c : Nat) (s : State) : Out := onMain (t < 64 && c < 4) s (ldrop t c)

end Sys2Proof.Machine
end

