-- ==== Sys2Proof/Machine/Link.lean ====
section
/-! DEFINITION. The port stream as it is received (R61 to R66, R69, R70, R400): the blocks of the lanes are lined up, columns are taken
out, units are put back in order and become packets, which act as the commands that name whole packets do. -/

namespace Sys2Proof.Machine

/-- A block of the port stream (R63); none for a control block of another type. -/
def rxEntOf (hdr : BitVec 2) (p : BitVec 64) (cyc : Nat) : Option RxEnt :=
  let f (lo w : Nat) : Nat := (p.extractLsb' lo w).toNat
  if hdr == 0b10#2 then some (.data p)
  else match f 0 8 with
    | 0x1e => some .idle
    | 0x4b => some (.align (f 8 8) (f 16 4) cyc)
    | 0x55 => some .trigger
    | 0x66 => some (.stripe (f 8 4) (f 16 8) (p.getLsbD 12) (p.getLsbD 13))
    | _ => none

def RxEnt.isUnit : RxEnt → Bool
  | .data _ | .idle => true
  | .align .. | .trigger | .stripe .. => false

def RxEnt.isStripe : RxEnt → Bool
  | .stripe .. => true
  | .data _ | .idle | .align .. | .trigger => false

/-- ALIGN_SEQ, MASK and the cycle of arrival. -/
def RxEnt.alignOf : RxEnt → Option (Nat × Nat × Nat)
  | .align q m c => some (q, m, c)
  | .data _ | .idle | .trigger | .stripe .. => none

/-- What waits on logical lane `k` of a port. -/
def PortX.fifo (x : PortX) (k : Nat) : List RxEnt := x.rxLanes.getD k []

/-- The logical lanes of a mask. -/
def lanesOf (m : Nat) : List Nat := (List.range 4).filter (inMask m)

/-- The entry at the head of each of the given lanes; none where a lane has nothing. -/
def PortX.heads (x : PortX) (ks : List Nat) : Option (List RxEnt) := ks.mapM (fun k => (x.fifo k).head?)

/-- The head of each of the given lanes is taken. -/
def PortX.pop (x : PortX) (ks : List Nat) : PortX :=
  { x with rxLanes := (List.range 4).map (fun k => if ks.contains k then (x.fifo k).drop 1 else x.fifo k) }

/-- The skew between the blocks of an ALIGN column, in ns, on the grid of CLK_TIME (R66). -/
def skewOf (cs : List Nat) : Nat := 8 * (cs.foldl max 0 - cs.foldl min (cs.headD 0))

/-- An ALIGN column has come: it completes a STRIPE column before it, or stands for itself (R66). -/
def State.rxAlignCol (s : State) (q mask seq skew : Nat) : State :=
  let x := s.port q
  match x.rxStripe with
  | some (m, _, ack, atFrame) =>
    let s := s.setPort q { x with rxStripe := none }
    if ack then stripeAckRx q m skew s else stripeReqRx q m seq atFrame skew s
  | none => alignRx q mask seq [] skew s

/-- A packet of the Clohar link acts by its TYPE (R401). -/
def State.twinAny (s : State) (q : Nat) (p : Pkt) : State :=
  match hdrCheck p.hdr with
  | none => userRx q p s
  | some (h, _) =>
    match (h.extractLsb' 0 8).toNat with
    | 0x01 => heartbeatRx (.link q p) s
    | 0x10 => decideRx q p s
    | 0x11 => cycleEndRx q p s
    | 0x12 => mirrorAckRx q p s
    | 0x13 => checkRx q p s
    | 0x14 => resyncReqRx q p s
    | _ => userRx q p s

/-- A packet acts as its class or TYPE says. -/
def State.rxPacket (s : State) (q : Nat) (p : Pkt) : State := if s.role q == 3 then s.twinAny q p else s.rxAny q p

/-- A unit of the port stream (R65, R69, R70): a header, more of the packet under reception, or IDLE. -/
def State.rxUnit (s : State) (q : Nat) (e : RxEnt) : State :=
  let x := s.port q
  match e with
  | .data d =>
    if x.hunt then s else
    match x.rxPart with
    | none =>
      match hdrCheck d with
      | none =>
        let s := s.rxPacket q ⟨d, [], 0, false⟩
        s.setPort q { s.port q with hunt := true }
      | some (h, _) => if hLen h == 0 then s.rxPacket q ⟨d, [], 0, false⟩ else s.setPort q { x with rxPart := some (d, []) }
    | some (hdr, bs) =>
      let n := 4 * ((hdrCheck hdr).map (fun h => hLen h.1)).getD 0
      let bs := bs ++ leBytes 8 d.toNat
      if bs.length < n + 4 then s.setPort q { x with rxPart := some (hdr, bs) }
      else (s.setPort q { x with rxPart := none }).rxPacket q ⟨hdr, bs.take n, BitVec.ofNat 32 (leAt bs n 4), false⟩
  | _ =>
    let part := x.rxPart.map (fun r => (⟨r.1, r.2, 0, true⟩ : Pkt))
    let s := s.setPort q { x with rxPart := none }
    if s.role q != 3 then idleUnitRx q part s
    else
      let s := match part with
        | some p => s.twinAny q p
        | none => s
      s.setPort q { s.port q with hunt := false }

/-- A STRIPE column that has come on every lane of its mask: those lanes go on after it, the others are out of use (R89, R91). -/
def PortX.takeStripe (x : PortX) : Option PortX :=
  match x.rxLanes.flatten.find? RxEnt.isStripe with
  | some (.stripe m q a f) =>
    let e := RxEnt.stripe m q a f
    if (lanesOf m).all (fun k => (x.fifo k).contains e) then
      some { x with rxStripe := some (m, q, a, f), rxSync := false, rxPart := none,
                    rxLanes := (List.range 4).map (fun k =>
                      if inMask m k then ((x.fifo k).dropWhile (fun y => y != e)).drop 1 else []) }
    else none
  | _ => none

/-- Lanes that are not lined up look for an ALIGN column: of lanes whose ALIGN blocks differ, the one whose block came first goes on (R66). -/
def State.rxSeek (s : State) (q : Nat) : Option State :=
  let x := s.port q
  let keep (l : List RxEnt) : List RxEnt := l.dropWhile (fun e => e.alignOf.isNone && !e.isStripe)
  let x := { x with rxLanes := x.rxLanes.map keep }
  let s := s.setPort q x
  match x.rxLanes.findSome? (fun l => (l.head?).bind RxEnt.alignOf) with
  | none => none
  | some (seq, mask, _) =>
    match x.heads (lanesOf mask) with
    | none => none
    | some es =>
      let as := es.filterMap RxEnt.alignOf
      if as.length != es.length then none
      else if as.all (fun a => a.1 == seq && a.2.1 == mask) then
        some ((s.setPort q { x.pop (lanesOf mask) with rxSync := true }).rxAlignCol q mask seq (skewOf (as.map (·.2.2))))
      else
        let first := as.foldl (fun m a => min m a.2.2) (((as.head?).map (·.2.2)).getD 0)
        (lanesOf mask).findSome? (fun k =>
          match ((x.fifo k).head?).bind RxEnt.alignOf with
          | some (_, _, c) => if c == first then some (s.setPort q (x.pop [k])) else none
          | none => none)

/-- Lanes that are lined up give a column: an ALIGN or TRIGGER column, or one unit from each lane (R61, R62). -/
def State.rxColumn (s : State) (q : Nat) : Option State :=
  let x := s.port q
  let ks := lanesOf x.rxMask
  if ks.isEmpty then none else
  match x.heads ks with
  | none => none
  | some es =>
    if es.all RxEnt.isUnit then some (es.foldl (fun s e => s.rxUnit q e) (s.setPort q (x.pop ks)))
    else if es.all (· == .trigger) then some (triggerRx q (s.setPort q (x.pop ks)))
    else if es.any RxEnt.isStripe then none
    else
      let as := es.filterMap RxEnt.alignOf
      match as with
      | (seq, mask, _) :: _ =>
        if as.length == es.length && as.all (fun a => a.1 == seq) then
          some ((s.setPort q (x.pop ks)).rxAlignCol q mask seq (skewOf (as.map (·.2.2))))
        else some (s.setPort q { x with rxSync := false })
      | [] => some (s.setPort q { x with rxSync := false })

/-- What has arrived is taken as far as it goes, in at most `fuel` columns. -/
def State.rxDrain : Nat → Nat → State → State
  | 0, _, s => s
  | fuel + 1, q, s =>
    let x := s.port q
    match (if x.rxSync then s.rxColumn q else none) with
    | some t => State.rxDrain fuel q t
    | none =>
      match x.takeStripe with
      | some y => State.rxDrain fuel q (s.setPort q y)
      | none =>
        if x.rxSync then s else
        match s.rxSeek q with
        | some t => State.rxDrain fuel q t
        | none => s

/-- The layer above takes a block of lane `n` (R41, R62, R64). -/
def State.portBlockRx (s : State) (n : Nat) (hdr : BitVec 2) (p : BitVec 64) : State :=
  let q := n / 4
  let k := if s.rxRev q then 3 - n % 4 else n % 4
  if s.role q == 0 then s else
  match rxEntOf hdr p s.cyc with
  | none => unknownCtrlBlockRx q (p.extractLsb' 0 8) s
  | some e =>
    let x := s.port q
    let s := s.setPort q { x with rxLanes := x.rxLanes.set k (x.fifo k ++ [e]) }
    State.rxDrain (2 * (s.port q).rxLanes.flatten.length + 2) q s

/-- A lane of a listening quad that trains counts the ALIGN blocks it receives (R409). -/
def State.listenAlign (s : State) (n : Nat) (hdr : BitVec 2) (p : BitVec 64) : State :=
  match (if hdr == 0b01#2 then alignFields p else none) with
  | some (log, _) => (s.setLane n { s.lane n with align := (s.lane n).align + 1, alignLog := log }).orderDecide (n / 4)
  | none => s

/-- LANE_BLOCK_RX (R39, R61): the lane layer takes the block; what it passes on goes to the port. -/
def linkBlockRx (n : Nat) (hdr : BitVec 2) (payload : BitVec 64) (s : State) : State :=
  let s := laneBlockRx n hdr payload (s.setLane n { s.lane n with rxBlock := none })
  match (s.lane n).rxBlock with
  | none => s
  | some (h, p) => if s.laneSt n == stReady then s.portBlockRx n h p else s.listenAlign n h p

end Sys2Proof.Machine
end

