-- ==== Sys2Proof/Machine/ExecLane.lean ====
section
/-! DEFINITION. The meanings of the commands of this family: the domain each belongs to, the units it names, and its effect. -/

namespace Sys2Proof.Machine

/-- QUAD_APPLY (R37). -/
def execQuadApply (q : Nat) (s : State) : Out := onMain (q < 32) s (quadApply q)

/-- QUAD_RETRAIN (R38). -/
def execQuadRetrain (q : Nat) (s : State) : Out := onMain (q < 32) s (quadRetrain q)

/-- QUAD_PLL_LOCK (R46). -/
def execQuadPllLock (q : Nat) (s : State) : Out := onMain (q < 32) s (quadPllLock q)

/-- QUAD_PLL_UNLOCK (R46). -/
def execQuadPllUnlock (q : Nat) (s : State) : Out := onMain (q < 32) s (quadPllUnlock q)

/-- REFCLK_LOSS (R49). -/
def execRefclkLoss (b : Bool) (s : State) : Out := onMain true s (refclkLoss b)

/-- ACQUIRE_DONE (R46). -/
def execAcquireDone (n : Nat) (ctle : Nat) (s : State) : Out := onMain (n < 128 && ctle < 16) s (acquireDone n ctle)

/-- LANE_BLOCK_RX (R39). -/
def execLaneBlockRx (n : Nat) (hdr : BitVec 2) (payload : BitVec 64) (s : State) : Out :=
  onMain (n < 128) s (linkBlockRx n hdr payload)

/-- HI_BER_CLEAR (R40). -/
def execHiBerClear (n : Nat) (s : State) : Out := onMain (n < 128) s (hiBerClear n)

/-- BLOCK_LOCK_ACQUIRED (R40). -/
def execBlockLockAcquired (n : Nat) (s : State) : Out := onMain (n < 128) s (blockLockAcquired n)

/-- BLOCK_LOCK_LOST (R40). -/
def execBlockLockLost (n : Nat) (s : State) : Out := onMain (n < 128) s (blockLockLost n)

/-- SIGNAL_LOST (R46). -/
def execSignalLost (n : Nat) (s : State) : Out := onMain (n < 128) s (signalLost n)

/-- RX_POLARITY_INVERT (R42). -/
def execRxPolarityInvert (n : Nat) (s : State) : Out := onMain (n < 128) s (rxPolarityInvert n)

/-- TRAIN_BLOCK_RX (R41). -/
def execTrainBlockRx (n : Nat) (payload : BitVec 64) (s : State) : Out := onMain (n < 128) s (trainBlockRx n payload)

/-- TRAIN_LOCKED (R46). -/
def execTrainLocked (n : Nat) (s : State) : Out := onMain (n < 128) s (trainLocked n)

/-- LANE_READY (R46). -/
def execLaneReady (n : Nat) (s : State) : Out := onMain (n < 128) s (laneReady n)

/-- LISTEN_LANE_READY (R409). -/
def execListenLaneReady (n : Nat) (s : State) : Out := onMain (n < 128) s (listenLaneReady n)

/-- TRAIN_TIMEOUT (R46). -/
def execTrainTimeout (n : Nat) (s : State) : Out := onMain (n < 128) s (trainTimeout n)

/-- LANE_RETRAIN (R46). -/
def execLaneRetrain (n : Nat) (s : State) : Out := onMain (n < 128) s (laneRetrain n)

/-- CTLE_TRACK_STEP (R45). -/
def execCtleTrackStep (n : Nat) (up : Bool) (s : State) : Out := onMain (n < 128) s (ctleTrackStep n up)

/-- LANE_CTL_WRITE (R59). -/
def execLaneCtlWrite (n : Nat) (v : BitVec 32) (s : State) : Out :=
  onMust (F.LANE_LANE_CTL_LOOPBACK.get v != 3) (onMain (n < 128) s (laneCtlWrite n v))

/-- LANE_FFE_WRITE (R44). -/
def execLaneFfeWrite (n : Nat) (v : BitVec 32) (s : State) : Out := onMain (n < 128) s (laneFfeWrite n v)

/-- PRBS_CTL_WRITE (R52). -/
def execPrbsCtlWrite (n : Nat) (v : BitVec 32) (s : State) : Out :=
  onMust (F.LANE_PRBS_CTL_GEN_POLY.get v != 3 && F.LANE_PRBS_CTL_CHK_POLY.get v != 3) (onMain (n < 128) s (prbsCtlWrite n v))

/-- PRBS_LOCK_GAINED (R52). -/
def execPrbsLockGained (n : Nat) (s : State) : Out := onMain (n < 128) s (prbsLockGained n)

/-- PRBS_LOCK_LOST (R52). -/
def execPrbsLockLost (n : Nat) (s : State) : Out := onMain (n < 128) s (prbsLockLost n)

/-- INJ_SINGLE (R53). -/
def execInjSingle (n : Nat) (s : State) : Out := onMain (n < 128) s (injSingle n)

/-- INJ_BURST (R53). -/
def execInjBurst (n : Nat) (s : State) : Out := onMain (n < 128) s (injBurst n)

/-- INJECTION_SENT (R53). -/
def execInjectionSent (n : Nat) (s : State) : Out := onMain (n < 128) s (injectionSent n)

/-- EYE_START (R55). -/
def execEyeStart (n : Nat) (s : State) : Out := onMain (n < 128) s (eyeStart n)

/-- EYE_POINT_DONE (R55). -/
def execEyePointDone (n : Nat) (errs : BitVec 32) (s : State) : Out := onMain (n < 128) s (eyePointDone n errs)

/-- LANE_CAL_APPLY (R51). -/
def execLaneCalApply (n : Nat) (s : State) : Out := onMain (n < 128) s (laneCalApply n)

/-- ROOT_PLL_LOSS (R22). -/
def execRootPllLoss (s : State) : Out := onIsland true s rootPllLoss

end Sys2Proof.Machine
end

