-- ==== Sys2Proof/Machine/ExecMemory.lean ====
section
/-! DEFINITION. The meanings of the commands of this family: the domain each belongs to, the units it names, and its effect. -/

namespace Sys2Proof.Machine

/-- TRAINING_DONE (R300). -/
def execTrainingDone (n : Nat) (rd wr : List Word) (ecc : Bool) (s : State) : Out :=
  onMain (n < 6) s (trainingDone n rd wr ecc)

/-- MC_CTL_WRITE (R301). -/
def execMcCtlWrite (v : Word) (s : State) : Out := onMain true s (mcCtlWrite v)

/-- EVAC (R303). -/
def execEvac (n : Nat) (s : State) : Out := onMain (n < 6) s (evac n)

/-- EVAC_CANCEL (R303). -/
def execEvacCancel (n : Nat) (s : State) : Out := onMain (n < 6) s (evacCancel n)

/-- CH_TRAIN (R304). -/
def execChTrain (n : Nat) (s : State) : Out := onMain (n < 6) s (chTrain n)

/-- REFILL (R303). -/
def execRefill (n : Nat) (s : State) : Out := onMain (n < 6) s (refill n)

/-- RETIRE (R303). -/
def execRetire (n : Nat) (s : State) : Out := onMain (n < 6) s (retire n)

/-- REFRESH_DUE (R297). -/
def execRefreshDue (n : Nat) (s : State) : Out := onMain (n < 6) s (refreshDue n)

/-- REFRESH_ISSUE (R297). -/
def execRefreshIssue (n : Nat) (s : State) : Out := onMain (n < 6) s (refreshIssue n)

/-- CHANNEL_TEMP_SAMPLE (R298). -/
def execChannelTempSample (n : Nat) (s : State) : Out := onMain (n < 6) s (channelTempSample n)

/-- HOT_ZONE_EXIT (R298). -/
def execHotZoneExit (n : Nat) (s : State) : Out := onMain (n < 6) s (hotZoneExit n)

/-- DEV_TEMP_WRITE (R298). -/
def execDevTempWrite (n : Nat) (v : Word) (s : State) : Out := onMain (n < 6) s (devTempWrite n v)

/-- DEV_TEMP_STALE (R298). -/
def execDevTempStale (n : Nat) (s : State) : Out := onMain (n < 6) s (devTempStale n)

/-- MEM_REQUEST (R296). -/
def execMemRequest (tag addr len : Nat) (wr : Bool) (data : List (BitVec 8)) (s : State) : Out :=
  onMain true s (memRequest tag addr len wr data)

/-- MEM_COMMAND_ISSUE (R296). -/
def execMemCommandIssue (n : Nat) (s : State) : Out := onMain (n < 6) s (memCommandIssue n)

/-- MEM_READ_DONE (R289). -/
def execMemReadDone (n ecc w : Nat) (s : State) : Out := onMain (n < 6) s (memReadDone n ecc w)

/-- ROW_IDLE_CLOSE (R288). -/
def execRowIdleClose (n b : Nat) (s : State) : Out := onMain (n < 6 && b < 16) s (rowIdleClose n b)

/-- REFRESH_WINDOW_BOUNDARY (R299). -/
def execRefreshWindowBoundary (n : Nat) (s : State) : Out := onMain (n < 6) s (refreshWindowBoundary n)

/-- MIGRATE_BLOCK (R305). -/
def execMigrateBlock (n : Nat) (ue : Option Nat) (s : State) : Out := onMain (n < 6) s (migrateBlock n ue)

/-- MC_INIT (R301). -/
def execMcInit (s : State) : Out := onMain true s mcInit

/-- APPLY_TABLE (R294). -/
def execApplyTable (s : State) : Out := onMain true s applyTable

end Sys2Proof.Machine
end

