-- ==== Sys2Proof/Machine/ExecMoraine.lean ====
section
/-! DEFINITION. The meanings of the commands of this family: the domain each belongs to, the units it names, and its effect. -/

namespace Sys2Proof.Machine

/-- HORIZON_TIMEOUT (R205). -/
def execHorizonTimeout (v : Nat) (s : State) : Out := onMain (v < 4) s (horizonTimeout v)

/-- FUSION_WINDOW_EXPIRY (R212). -/
def execFusionWindowExpiry (e : Nat) (s : State) : Out := onMain (e < 65536) s (fusionWindowExpiry e)

/-- ENTRY_RETIRE (R224). -/
def execEntryRetire (e : Nat) (s : State) : Out := onMain (e < 65536) s (entryRetire e)

/-- FRAGMENT_IN (R206). -/
def execFragmentIn (s : State) : Out := onMain true s fragmentIn

/-- ROW_MARK_IN (R205). -/
def execRowMarkIn (s : State) : Out := onMain true s rowMarkIn

/-- OBJECT_DECIDE (R226). -/
def execObjectDecide (s : State) : Out := onMain true s objectDecide

/-- DEFECT_PKT_FLUSH (R223). -/
def execDefectPktFlush (s : State) : Out := onMain true s defectPktFlush

/-- MORAINE_APPLY (R229). -/
def execMoraineApply (s : State) : Out := onMain true s moraineApply

/-- SWAP_RULES (R228). -/
def execSwapRules (s : State) : Out := onMain true s swapRules

/-- SWAP_FT (R228). -/
def execSwapFt (s : State) : Out := onMain true s swapFt

/-- MORAINE_CLEAR (R229). -/
def execMoraineClear (s : State) : Out := onMain true s moraineClear

end Sys2Proof.Machine
end

