-- ==== Sys2Proof/Machine/Jtag.lean ====
section
/-! DEFINITION. The JTAG port (R473) and the fuse array through it (R474). -/

namespace Sys2Proof.Machine

/-- Bits as a number, the first one lowest. -/
def bitsNat : List Bool → Nat
  | [] => 0
  | b :: bs => b2n b + 2 * bitsNat bs

/-- The TAP takes an instruction. -/
def State.ir (s : State) (code : Nat) : State := { s with jtagIr := code }

/-- An instruction that selects bypass, which captures 0. -/
def State.tapBypass (s : State) (code : Nat) : State := (s.ir code).emit (.jtagOut 0)

/-- An instruction that selects the boundary register: it captures the cells and takes what is shifted in. -/
def State.boundary (s : State) (code : Nat) (cells shift : List Bool) : State :=
  { (s.ir code).emit (.jtagOut (bitsNat cells)) with bscan := shift }

/-- EXTEST (R473). -/
def extest (cells shift : List Bool) (s : State) : State := s.boundary 0x00 cells shift

/-- SAMPLE/PRELOAD (R473). -/
def samplePreload (cells shift : List Bool) (s : State) : State := s.boundary 0x01 cells shift

/-- IDCODE (R473). -/
def idcode (s : State) : State := (s.ir 0x02).emit (.jtagOut 0x1ea9053f)

/-- HIGHZ (R473). -/
def highz (s : State) : State := s.tapBypass 0x03

/-- CLAMP (R473). -/
def clamp (s : State) : State := s.tapBypass 0x04

/-- EXTEST_PULSE (R473). -/
def extestPulse (cells shift : List Bool) (s : State) : State := s.boundary 0x08 cells shift

/-- EXTEST_TRAIN (R473). -/
def extestTrain (cells shift : List Bool) (s : State) : State := s.boundary 0x09 cells shift

/-- BYPASS and every code that no instruction has (R473). -/
def bypass (code : Nat) (s : State) : State := s.tapBypass (code % 256)

/-- An instruction with a code from 0x10 to 0x22: bypass while JTAG_DIS = 1 (R473). -/
def State.privateIr (s : State) (code : Nat) (f : State → State) : State := if s.jtagDis then s.tapBypass code else f (s.ir code)

/-- DTMCS (R473): what the debug transport control register captures is the RISC-V debug specification's, which this manual does not restate. -/
def dtmcs (s : State) : State := s.privateIr 0x10 (fun s => (s.emit (.jtagOut (s.free.toNat % 0x100000000))).freeNext)

/-- DMI (R473): what the debug module does for the access: it halts or resumes hart `h`, or reads or writes on the bus (R432). -/
def dmi (h : Nat) (act : CoreAct) (s : State) : State :=
  s.privateIr 0x11 (fun s =>
    if s.mainReset then s else
    match act with
    | .debug halt => if s.on R.SYS_CORE_STAT (bit h) then s.sf R.SYS_CORE_STAT (bit (16 + h)) (b2n halt) else s
    | .load a n =>
      let x := s.busRead .jtag a n
      (x.1.keepIsland s).emit (.busResp .jtag x.2.1 x.2.2)
    | .store a n v =>
      let x := s.busWrite .jtag a n v
      (x.1.keepIsland s).emit (.busResp .jtag x.2 0)
    | _ => s)

/-- FUSE_SEL (R474). -/
def fuseSelect (addr : BitVec 8) (s : State) : State := s.privateIr 0x20 (fun s => { s with fuseSel := addr.toNat })

/-- FUSE_DATA (R474): it captures the word's present value, then holds what is shifted in. -/
def fuseDataIr (v : Word) (s : State) : State :=
  s.privateIr 0x21 (fun s => { s.emit (.jtagOut (s.fuseWord s.fuseSel).toNat) with fuseData := v })

/-- FUSE_PROG (R474): every bit that is 1 in FUSE_DATA is blown, with VDD_IO_3 (in mV) at 1.8 V ±5 % and a junction of 0 to 85 °C. -/
def fuseProg (mv : Nat) (temp : Int) (s : State) : State :=
  s.privateIr 0x22 (fun s =>
    let s := s.emit (.jtagOut 0)
    if decide (1710 ≤ mv) && decide (mv ≤ 1890) && decide (0 ≤ temp) && decide (temp ≤ 85) then
      { s with fuses := SMap.set (fun _ => 0) s.fuses s.fuseSel (s.fuseWord s.fuseSel ||| s.fuseData) }
    else s)

end Sys2Proof.Machine
end

