-- ==== Sys2Proof/Machine/ExecPackage.lean ====
section
/-! DEFINITION. The meanings of the commands of this family: the domain each belongs to, the units it names, and its effect. -/

namespace Sys2Proof.Machine

/-- EXTEST (R473). -/
def execExtest (cells shift : List Bool) (s : State) : Out := onAlways true s (extest cells shift)

/-- SAMPLE_PRELOAD (R473). -/
def execSamplePreload (cells shift : List Bool) (s : State) : Out := onAlways true s (samplePreload cells shift)

/-- EXTEST_PULSE (R473). -/
def execExtestPulse (cells shift : List Bool) (s : State) : Out := onAlways true s (extestPulse cells shift)

/-- EXTEST_TRAIN (R473). -/
def execExtestTrain (cells shift : List Bool) (s : State) : Out := onAlways true s (extestTrain cells shift)

/-- DMI (R473). -/
def execDmi (h : Nat) (act : CoreAct) (s : State) : Out := onMust (coreMust act) (onAlways (h < 8) s (dmi h act))

/-- FUSE_SEL (R474). -/
def execFuseSel (addr : BitVec 8) (s : State) : Out := onAlways true s (fuseSelect addr)

/-- FUSE_DATA (R474). -/
def execFuseData (v : Word) (s : State) : Out := onAlways true s (fuseDataIr v)

/-- FUSE_PROG (R474). -/
def execFuseProg (mv : Nat) (temp : Int) (s : State) : Out := onAlways true s (fuseProg mv temp)

/-- BYPASS (R473). -/
def execBypass (code : Nat) (s : State) : Out := onAlways true s (bypass code)

/-- IDCODE (R473). -/
def execIdcode (s : State) : Out := onAlways true s idcode

/-- HIGHZ (R473). -/
def execHighz (s : State) : Out := onAlways true s highz

/-- CLAMP (R473). -/
def execClamp (s : State) : Out := onAlways true s clamp

/-- DTMCS (R473). -/
def execDtmcs (s : State) : Out := onAlways true s dtmcs

end Sys2Proof.Machine
end

