-- ==== Sys2Proof/Machine/ExecPeriph.lean ====
section
/-! DEFINITION. The meanings of the commands of this family: the domain each belongs to, the units it names, and its effect. -/

namespace Sys2Proof.Machine

/-- QSPI_DONE (R446). -/
def execQspiDone (data : List (BitVec 8)) (busErr : Bool) (s : State) : Out := onMain true s (qspiDone data busErr)

/-- UART_TX_PUSH (R447). -/
def execUartTxPush (i : Nat) (s : State) : Out := onMain (i < 2) s (uartTxPush i)

/-- UART_RX_POP (R447). -/
def execUartRxPop (i : Nat) (s : State) : Out := onMain (i < 2) s (uartRxPop i)

/-- UART_FLUSH (R447). -/
def execUartFlush (i : Nat) (s : State) : Out := onMain (i < 2) s (uartFlush i)

/-- UART_BYTE_RX (R447). -/
def execUartByteRx (i : Nat) (b : BitVec 8) (framing parity : Bool) (s : State) : Out :=
  onMain (i < 2) s (uartByteRx i b framing parity)

/-- UART_BYTE_SENT (R447). -/
def execUartByteSent (i : Nat) (s : State) : Out := onMain (i < 2) s (uartByteSent i)

/-- IIC_DONE (R448). -/
def execIicDone (result : Nat) (data : List (BitVec 8)) (s : State) : Out :=
  onMain (result < 3) s (iicDone result data)

/-- QSPI_GO (R446). -/
def execQspiGo (s : State) : Out := onMain true s qspiGo

/-- IIC_GO (R448). -/
def execIicGo (s : State) : Out := onMain true s iicGo

/-- IIC_TIMEOUT (R448). -/
def execIicTimeout (s : State) : Out := onMain true s iicTimeout

end Sys2Proof.Machine
end

