-- ==== Sys2Proof/Machine/ExecPort.lean ====
section
/-! DEFINITION. The meanings of the commands of this family: the domain each belongs to, the units it names, and its effect. -/

namespace Sys2Proof.Machine

/-- LINK_WAIT_EXPIRY (R82). -/
def execLinkWaitExpiry (q : Nat) (s : State) : Out := onMain (q < 32) s (linkWaitExpiry q)

/-- STRIPE_ACK_RX (R82). -/
def execStripeAckRx (q mask : Nat) (skewNs : Nat) (s : State) : Out := onMain (q < 32) s (stripeAckRx q mask skewNs)

/-- STRIPE_REQ_RX (R92). -/
def execStripeReqRx (q mask seq : Nat) (atFrame : Bool) (skewNs : Nat) (s : State) : Out :=
  onMain (q < 32) s (stripeReqRx q mask seq atFrame skewNs)

/-- ALIGN_RX (R66). -/
def execAlignRx (q mask seq : Nat) (logs : List Nat) (skewNs : Nat) (s : State) : Out :=
  onMain (q < 32) s (alignRx q mask seq logs skewNs)

/-- ALIGN_SEND (R66). -/
def execAlignSend (q : Nat) (s : State) : Out := onMain (q < 32) s (alignSend q)

/-- RESTRIPE_TIMEOUT (R89). -/
def execRestripeTimeout (q : Nat) (s : State) : Out := onMain (q < 32) s (restripeTimeout q)

/-- TRIGGER_SEND (R78). -/
def execTriggerSend (q offset : Nat) (s : State) : Out := onMain (q < 32) s (triggerSend q offset)

/-- TRIGGER_RX (R81). -/
def execTriggerRx (q : Nat) (s : State) : Out := onMain (q < 32) s (triggerRx q)

/-- IDLE_UNIT_RX (R65). -/
def execIdleUnitRx (q : Nat) (part : Option Pkt) (s : State) : Out := onMain (q < 32) s (idleUnitRx q part)

/-- UNKNOWN_CTRL_BLOCK_RX (R64). -/
def execUnknownCtrlBlockRx (q : Nat) (type : BitVec 8) (s : State) : Out :=
  onMain (q < 32) s (unknownCtrlBlockRx q type)

/-- FRAME_START_RX (R74). -/
def execFrameStartRx (q : Nat) (p : Pkt) (s : State) : Out := onMain (q < 32) s (frameStartRx q p)

/-- FRAME_END_RX (R74). -/
def execFrameEndRx (q : Nat) (p : Pkt) (s : State) : Out := onMain (q < 32) s (frameEndRx q p)

/-- LINE_START_RX (R80). -/
def execLineStartRx (q : Nat) (p : Pkt) (s : State) : Out := onMain (q < 32) s (lineStartRx q p)

/-- LINE_END_RX (R74). -/
def execLineEndRx (q : Nat) (p : Pkt) (s : State) : Out := onMain (q < 32) s (lineEndRx q p)

/-- PIXEL_PACKET_RX (R75). -/
def execPixelPacketRx (q : Nat) (p : Pkt) (s : State) : Out := onMain (q < 32) s (pixelPacketRx q p)

/-- RING_PACKET_RX (R95). -/
def execRingPacketRx (q : Nat) (p : Pkt) (s : State) : Out := onMain (q < 32) s (ringPacketRx q p)

/-- CTRL_RESP_RX (R87). -/
def execCtrlRespRx (q : Nat) (p : Pkt) (s : State) : Out := onMain (q < 32) s (ctrlRespRx q p)

/-- SET_ACK_RX (R88). -/
def execSetAckRx (q : Nat) (p : Pkt) (s : State) : Out := onMain (q < 32) s (setAckRx q p)

/-- NULL_PACKET_RX (R73). -/
def execNullPacketRx (q : Nat) (p : Pkt) (s : State) : Out := onMain (q < 32) s (nullPacketRx q p)

/-- BAD_PACKET_RX (R96). -/
def execBadPacketRx (q : Nat) (p : Pkt) (s : State) : Out := onMain (q < 32) s (badPacketRx q p)

/-- HOST_REQUEST_RX (R85). -/
def execHostRequestRx (q : Nat) (p : Pkt) (s : State) : Out := onMain (q < 32) s (hostRequestRx q p)

/-- CTRL_WRITE_RX (R92). -/
def execCtrlWriteRx (q : Nat) (p : Pkt) (s : State) : Out := onMain (q < 32) s (ctrlWriteRx q p)

/-- CTRL_READ_RX (R92). -/
def execCtrlReadRx (q : Nat) (p : Pkt) (s : State) : Out := onMain (q < 32) s (ctrlReadRx q p)

/-- SET_TAGGED_RX (R92). -/
def execSetTaggedRx (q : Nat) (p : Pkt) (s : State) : Out := onMain (q < 32) s (setTaggedRx q p)

/-- CTRL_TIMEOUT (R87). -/
def execCtrlTimeout (q : Nat) (desc : Bool) (s : State) : Out := onMain (q < 32) s (ctrlTimeout q desc)

/-- PORT_START (R82). -/
def execPortStart (q : Nat) (s : State) : Out := onMain (q < 32) s (portStart q)

/-- PORT_STOP (R82). -/
def execPortStop (q : Nat) (s : State) : Out := onMain (q < 32) s (portStop q)

/-- PORT_RESET_LINK (R82). -/
def execPortResetLink (q : Nat) (s : State) : Out := onMain (q < 32) s (portResetLink q)

/-- PORT_REDISCOVER (R82). -/
def execPortRediscover (q : Nat) (s : State) : Out := onMain (q < 32) s (portRediscover q)

/-- PORT_LANE_LOST (R89). -/
def execPortLaneLost (q : Nat) (s : State) : Out := onMain (q < 32) s (portLaneLost q)

/-- PORT_LANE_RETURN (R91). -/
def execPortLaneReturn (q : Nat) (s : State) : Out := onMain (q < 32) s (portLaneReturn q)

/-- ALL_LANES_LOST (R82). -/
def execAllLanesLost (q : Nat) (s : State) : Out := onMain (q < 32) s (allLanesLost q)

/-- BC_GO (R87). -/
def execBcGo (q : Nat) (s : State) : Out := onMain (q < 32) s (bcGo q)

/-- TS_GO (R88). -/
def execTsGo (q : Nat) (s : State) : Out := onMain (q < 32) s (tsGo q)

/-- STREAM_OUT_SEND (R92). -/
def execStreamOutSend (q v : Nat) (s : State) : Out := onMain (q < 32 && v < 4) s (streamOutSend q v)

end Sys2Proof.Machine
end

