-- ==== Sys2Proof/Machine/ExecReset.lean ====
section
/-! DEFINITION. The meanings of the commands of this family: the domain each belongs to, the units it names, and its effect. -/

namespace Sys2Proof.Machine

/-- POR_RELEASE (R434). -/
def execPorRelease (twinId : Bool) (s : State) : Out := onAlways true s (porRelease twinId)

/-- MAIN_RESET_RELEASE (R434). -/
def execMainResetRelease (bootMode : Nat) (s : State) : Out := onAlways (bootMode < 4) s (mainResetRelease bootMode)

/-- RST_REQ (R446). -/
def execRstReq (v : Word) (s : State) : Out := onMain true s (rstReq v)

/-- POR_ASSERT (R434). -/
def execPorAssert (s : State) : Out := onAlways true s porAssert

/-- RESET_N_ASSERT (R434). -/
def execResetNAssert (s : State) : Out := onAlways true s resetNAssert

/-- RESET_N_RELEASE (R434). -/
def execResetNRelease (s : State) : Out := onAlways true s resetNRelease

/-- DEBUG_RESET (R434). -/
def execDebugReset (s : State) : Out := onAlways true s debugReset

end Sys2Proof.Machine
end

