-- ==== Sys2Proof/Machine/ExecStitch.lean ====
section
/-! DEFINITION. The meanings of the commands of this family: the domain each belongs to, the units it names, and its effect. -/

namespace Sys2Proof.Machine

/-- VIEW_APPLY (R126). -/
def execViewApply (v : Nat) (s : State) : Out := onMain (v < 4) s (viewApply v)

/-- VIEW_SWAP (R141). -/
def execViewSwap (v : Nat) (s : State) : Out := onMain (v < 4) s (viewSwap v)

/-- VIEW_CANCEL_SWAP (R141). -/
def execViewCancelSwap (v : Nat) (s : State) : Out := onMain (v < 4) s (viewCancelSwap v)

/-- STITCH_TAB_LO_WRITE (R140). -/
def execStitchTabLoWrite (v : BitVec 32) (s : State) : Out := onMain true s (stitchTabLoWrite v)

/-- STITCH_TAB_HI_WRITE (R140). -/
def execStitchTabHiWrite (v : BitVec 32) (s : State) : Out := onMain true s (stitchTabHiWrite v)

/-- STITCH_LINE_IN (R128). -/
def execStitchLineIn (n stalls : Nat) (s : State) : Out := onMain (n < 24) s (stitchLineIn n stalls)

/-- ROW_DEADLINE (R129). -/
def execRowDeadline (v stalls : Nat) (s : State) : Out := onMain (v < 4) s (rowDeadline v stalls)

/-- DRIFT_ROW_IN (R144). -/
def execDriftRowIn (v : Nat) (s : State) : Out := onMain (v < 4) s (driftRowIn v)

/-- DRIFT_SEED (R147). -/
def execDriftSeed (v : Nat) (s : State) : Out := onMain (v < 4) s (driftSeed v)

/-- DRIFT_PROBE (R150). -/
def execDriftProbe (v : Nat) (s : State) : Out := onMain (v < 4) s (driftProbe v)

/-- DRIFT_FREEZE_EVENT (R146). -/
def execDriftFreezeEvent (v : Nat) (s : State) : Out := onMain (v < 4) s (driftFreezeEvent v)

/-- DRIFT_CTL_WRITE (R148). -/
def execDriftCtlWrite (v : Nat) (x : BitVec 32) (s : State) : Out := onMain (v < 4) s (driftCtlWrite v x)

end Sys2Proof.Machine
end

