-- ==== Sys2Proof/Machine/ExecSupply.lean ====
section
/-! DEFINITION. The meanings of the commands of this family: the domain each belongs to, the units it names, and its effect. -/

namespace Sys2Proof.Machine

/-- TEMP_SAMPLE (R416). -/
def execTempSample (i : Nat) (reading : BitVec 16) (valid : Bool) (s : State) : Out :=
  onMain (i < 8) s (tempSample i reading valid)

/-- CAL_RUN (R417). -/
def execCalRun (d : Nat) (s : State) : Out := onMain (d < 8) s (calRunCmd d)

/-- CAL_RUN_START (R420). -/
def execCalRunStart (temp : BitVec 16) (s : State) : Out := onMain true s (calRunStart temp)

/-- CAL_STAGED (R420). -/
def execCalStaged (res : BitVec 16) (failed : List Nat) (s : State) : Out := onMain true s (calStagedCmd res failed)

/-- VDD_CORE_WARN (R423). -/
def execVddCoreWarn (mv : Nat) (s : State) : Out := onIsland true s (vddCoreWarn mv)

/-- VDD_CORE_WARN_CLEAR (R423). -/
def execVddCoreWarnClear (mv : Nat) (s : State) : Out := onIsland true s (vddCoreWarnClear mv)

/-- VDD_CORE_UV (R423). -/
def execVddCoreUv (mv : Nat) (s : State) : Out := onAlways true s (vddCoreUv mv)

/-- RAIL_LOW (R423). -/
def execRailLow (r : Nat) (s : State) : Out := onIsland (r < 3) s (railLow r)

/-- RAIL_LOW_CLEAR (R423). -/
def execRailLowClear (r : Nat) (s : State) : Out := onIsland (r < 3) s (railLowClear r)

/-- AON_FEED_LOW (R423). -/
def execAonFeedLow (x : Nat) (s : State) : Out := onIsland (x < 2) s (aonFeedLow x)

/-- AON_FEED_OK (R423). -/
def execAonFeedOk (x : Nat) (oneMs twinId : Bool) (s : State) : Out := onAlways (x < 2) s (aonFeedOk x oneMs twinId)

/-- FEED_SENSE_LOW (R423). -/
def execFeedSenseLow (x mv : Nat) (s : State) : Out := onIsland (x < 2) s (feedSenseLow x mv)

/-- FEED_SENSE_OK (R423). -/
def execFeedSenseOk (x mv : Nat) (s : State) : Out := onIsland (x < 2) s (feedSenseOk x mv)

/-- BLOCK_STICKY_CLEAR (R428). -/
def execBlockStickyClear (v : Word) (s : State) : Out := onIsland true s (blockStickyClear v)

/-- VDD_SRAM_UV (R423). -/
def execVddSramUv (s : State) : Out := onAlways true s vddSramUv

/-- MAIN_SUPPLY_RELEASE (R423). -/
def execMainSupplyRelease (s : State) : Out := onAlways true s mainSupplyRelease

/-- BOTH_AON_FEEDS_LOST (R423). -/
def execBothAonFeedsLost (s : State) : Out := onAlways true s bothAonFeedsLost

/-- ERRLOG_CLEAR (R428). -/
def execErrlogClear (s : State) : Out := onIsland true s errlogClear

end Sys2Proof.Machine
end

