-- ==== Sys2Proof/Machine/ExecTime.lean ====
section
/-! DEFINITION. The meanings of the commands of this family: the domain each belongs to, the units it names, and its effect. -/

namespace Sys2Proof.Machine

/-- INCR_NS_WRITE (R347). -/
def execIncrNsWrite (v : Word) (s : State) : Out := onMain true s (incrNsWrite v)

/-- CAPTURE (R351). -/
def execCapture (i : Nat) (s : State) : Out := onMain (i < 4) s (capture i)

/-- ETH_LINK_STATUS (R340). -/
def execEthLinkStatus (link : Bool) (speed : Nat) (full : Bool) (s : State) : Out :=
  onMain (speed < 3) s (ethLinkStatus link speed full)

/-- TX_WR_WRITE (R343). -/
def execTxWrWrite (v : Word) (s : State) : Out := onMain true s (txWrWrite v)

/-- RX_FRAME (R344). -/
def execRxFrame (frame : List (BitVec 8)) (fcsOk : Bool) (age : Nat) (s : State) : Out :=
  onMain true s (rxFrame frame fcsOk age)

/-- MDIO_GO (R346). -/
def execMdioGo (v : Word) (s : State) : Out := onMain true s (mdioGo v)

/-- MDIO_DONE (R346). -/
def execMdioDone (data : BitVec 16) (s : State) : Out := onMain true s (mdioDone data)

/-- TP_ARM (R355). -/
def execTpArm (k : Nat) (s : State) : Out := onMain (k < 16) s (tpArm k)

/-- TP_STOP (R355). -/
def execTpStop (k : Nat) (s : State) : Out := onMain (k < 16) s (tpStop k)

/-- TP_ABORT (R355). -/
def execTpAbort (k : Nat) (s : State) : Out := onMain (k < 16) s (tpAbort k)

/-- TP_START_INPUT (R355). -/
def execTpStartInput (k : Nat) (s : State) : Out := onMain (k < 16) s (tpStartInput k)

/-- TP_EDGE_COMPUTE (R354). -/
def execTpEdgeCompute (k : Nat) (s : State) : Out := onMain (k < 16) s (tpEdgeCompute k)

/-- TP_LEADING_EDGE (R353). -/
def execTpLeadingEdge (k : Nat) (s : State) : Out := onMain (k < 16) s (tpLeadingEdge k)

/-- TP_TRAILING_EDGE (R353). -/
def execTpTrailingEdge (k : Nat) (s : State) : Out := onMain (k < 16) s (tpTrailingEdge k)

/-- PTP_LATCH (R351). -/
def execPtpLatch (s : State) : Out := onMain true s ptpLatch

/-- PTP_STEP (R348). -/
def execPtpStep (s : State) : Out := onMain true s ptpStep

/-- PTP_SLEW (R347). -/
def execPtpSlew (s : State) : Out := onMain true s ptpSlew

/-- PTP_SET (R348). -/
def execPtpSet (s : State) : Out := onMain true s ptpSet

/-- INVALIDATE (R348). -/
def execInvalidate (s : State) : Out := onMain true s invalidate

/-- SLEW_STOP (R347). -/
def execSlewStop (s : State) : Out := onMain true s slewStop

/-- SLEW_STEP (R347). -/
def execSlewStep (s : State) : Out := onMain true s slewStep

/-- ALARM (R350). -/
def execAlarm (s : State) : Out := onMain true s alarm

/-- SECOND (R350). -/
def execSecond (s : State) : Out := onMain true s second

/-- TX_FRAME_START (R345). -/
def execTxFrameStart (s : State) : Out := onMain true s txFrameStart

/-- TX_FRAME_DONE (R343). -/
def execTxFrameDone (s : State) : Out := onMain true s txFrameDone

/-- TP_HALT (R355). -/
def execTpHalt (s : State) : Out := onMain true s tpHalt

end Sys2Proof.Machine
end

