-- ==== Sys2Proof/Machine/ExecTwin.lean ====
section
/-! DEFINITION. The meanings of the commands of this family: the domain each belongs to, the units it names, and its effect. -/

namespace Sys2Proof.Machine

/-- TCTL_WRITE (R395). -/
def execTctlWrite (v : Word) (s : State) : Out := onIsland true s (tctlWrite v)

/-- ACT_IN_CHANGE (R396). -/
def execActInChange (level : Bool) (s : State) : Out := onIsland true s (actInChange level)

/-- HEARTBEAT_RX (R399). -/
def execHeartbeatRx (f : HbIn) (s : State) : Out := onIsland (f.ok) s (heartbeatRx f)

/-- HEARTBEAT_MISS (R399). -/
def execHeartbeatMiss (path : Nat) (s : State) : Out := onMain (path < 2) s (heartbeatMiss path)

/-- PATH_SILENT (R399). -/
def execPathSilent (path : Nat) (s : State) : Out := onMain (path < 2) s (pathSilent path)

/-- DECIDE_RX (R403). -/
def execDecideRx (q : Nat) (p : Pkt) (s : State) : Out := onMain (q == 30 || q == 31) s (decideRx q p)

/-- CYCLE_END_RX (R405). -/
def execCycleEndRx (q : Nat) (p : Pkt) (s : State) : Out := onMain (q == 30 || q == 31) s (cycleEndRx q p)

/-- MIRROR_ACK_RX (R402). -/
def execMirrorAckRx (q : Nat) (p : Pkt) (s : State) : Out := onMain (q == 30 || q == 31) s (mirrorAckRx q p)

/-- CHECK_RX (R408). -/
def execCheckRx (q : Nat) (p : Pkt) (s : State) : Out := onMain (q == 30 || q == 31) s (checkRx q p)

/-- RESYNC_REQ_RX (R405). -/
def execResyncReqRx (q : Nat) (p : Pkt) (s : State) : Out := onMain (q == 30 || q == 31) s (resyncReqRx q p)

/-- USER_RX (R401). -/
def execUserRx (q : Nat) (p : Pkt) (s : State) : Out := onMain (q == 30 || q == 31) s (userRx q p)

/-- CLAIM (R395). -/
def execClaim (s : State) : Out := onMain true s claim

/-- CLAIM_WINDOW_EXPIRY (R395). -/
def execClaimWindowExpiry (s : State) : Out := onIsland true s claimWindowExpiry

/-- JOIN (R395). -/
def execJoin (s : State) : Out := onMain true s join

/-- HANDOVER (R413). -/
def execHandover (s : State) : Out := onMain true s handoverCmd

/-- TWIN_RESYNC (R405). -/
def execTwinResync (s : State) : Out := onMain true s twinResync

/-- USER_SEND (R401). -/
def execUserSend (s : State) : Out := onMain true s userSend

/-- HEARTBEAT_SEND (R398). -/
def execHeartbeatSend (s : State) : Out := onIsland true s heartbeatSend

/-- PARTNER_SILENT (R395). -/
def execPartnerSilent (s : State) : Out := onMain true s partnerSilent

/-- MUX_SETTLE_EXPIRY (R410). -/
def execMuxSettleExpiry (s : State) : Out := onMain true s muxSettleExpiry

/-- CYCLE_END_SEND (R402). -/
def execCycleEndSend (s : State) : Out := onMain true s cycleEndSend

/-- MIRROR_ACK_TIMEOUT (R402). -/
def execMirrorAckTimeout (s : State) : Out := onMain true s mirrorAckTimeout

/-- MATCH_WAIT_EXPIRY (R406). -/
def execMatchWaitExpiry (s : State) : Out := onMain true s matchWaitExpiry

/-- CHECK_BLOCK_TIMEOUT (R408). -/
def execCheckBlockTimeout (s : State) : Out := onMain true s checkBlockTimeout

end Sys2Proof.Machine
end

