-- ==== Sys2Proof/Machine/Dispatch.lean ====
section
/-! DEFINITION. The dispatch: one arm per command. -/

namespace Sys2Proof.Machine

def exec (i : Instr) (s : State) : Host.Outcome State Fault Refusal :=
  match i with
  | .quadApply q => Sys2Proof.Machine.execQuadApply q s
  | .quadRetrain q => Sys2Proof.Machine.execQuadRetrain q s
  | .quadPllLock q => Sys2Proof.Machine.execQuadPllLock q s
  | .quadPllUnlock q => Sys2Proof.Machine.execQuadPllUnlock q s
  | .refclkLoss b => Sys2Proof.Machine.execRefclkLoss b s
  | .acquireDone n ctle => Sys2Proof.Machine.execAcquireDone n ctle s
  | .laneBlockRx n hdr payload => Sys2Proof.Machine.execLaneBlockRx n hdr payload s
  | .hiBerClear n => Sys2Proof.Machine.execHiBerClear n s
  | .blockLockAcquired n => Sys2Proof.Machine.execBlockLockAcquired n s
  | .blockLockLost n => Sys2Proof.Machine.execBlockLockLost n s
  | .signalLost n => Sys2Proof.Machine.execSignalLost n s
  | .rxPolarityInvert n => Sys2Proof.Machine.execRxPolarityInvert n s
  | .trainBlockRx n payload => Sys2Proof.Machine.execTrainBlockRx n payload s
  | .trainLocked n => Sys2Proof.Machine.execTrainLocked n s
  | .laneReady n => Sys2Proof.Machine.execLaneReady n s
  | .listenLaneReady n => Sys2Proof.Machine.execListenLaneReady n s
  | .trainTimeout n => Sys2Proof.Machine.execTrainTimeout n s
  | .laneRetrain n => Sys2Proof.Machine.execLaneRetrain n s
  | .ctleTrackStep n up => Sys2Proof.Machine.execCtleTrackStep n up s
  | .laneCtlWrite n v => Sys2Proof.Machine.execLaneCtlWrite n v s
  | .laneFfeWrite n v => Sys2Proof.Machine.execLaneFfeWrite n v s
  | .prbsCtlWrite n v => Sys2Proof.Machine.execPrbsCtlWrite n v s
  | .prbsLockGained n => Sys2Proof.Machine.execPrbsLockGained n s
  | .prbsLockLost n => Sys2Proof.Machine.execPrbsLockLost n s
  | .injSingle n => Sys2Proof.Machine.execInjSingle n s
  | .injBurst n => Sys2Proof.Machine.execInjBurst n s
  | .injectionSent n => Sys2Proof.Machine.execInjectionSent n s
  | .eyeStart n => Sys2Proof.Machine.execEyeStart n s
  | .eyePointDone n errs => Sys2Proof.Machine.execEyePointDone n errs s
  | .laneCalApply n => Sys2Proof.Machine.execLaneCalApply n s
  | .linkWaitExpiry q => Sys2Proof.Machine.execLinkWaitExpiry q s
  | .stripeAckRx q mask skewNs => Sys2Proof.Machine.execStripeAckRx q mask skewNs s
  | .stripeReqRx q mask seq atFrame skewNs => Sys2Proof.Machine.execStripeReqRx q mask seq atFrame skewNs s
  | .alignRx q mask seq logs skewNs => Sys2Proof.Machine.execAlignRx q mask seq logs skewNs s
  | .alignSend q => Sys2Proof.Machine.execAlignSend q s
  | .restripeTimeout q => Sys2Proof.Machine.execRestripeTimeout q s
  | .triggerSend q offset => Sys2Proof.Machine.execTriggerSend q offset s
  | .triggerRx q => Sys2Proof.Machine.execTriggerRx q s
  | .idleUnitRx q part => Sys2Proof.Machine.execIdleUnitRx q part s
  | .unknownCtrlBlockRx q type => Sys2Proof.Machine.execUnknownCtrlBlockRx q type s
  | .frameStartRx q p => Sys2Proof.Machine.execFrameStartRx q p s
  | .frameEndRx q p => Sys2Proof.Machine.execFrameEndRx q p s
  | .lineStartRx q p => Sys2Proof.Machine.execLineStartRx q p s
  | .lineEndRx q p => Sys2Proof.Machine.execLineEndRx q p s
  | .pixelPacketRx q p => Sys2Proof.Machine.execPixelPacketRx q p s
  | .ringPacketRx q p => Sys2Proof.Machine.execRingPacketRx q p s
  | .ctrlRespRx q p => Sys2Proof.Machine.execCtrlRespRx q p s
  | .setAckRx q p => Sys2Proof.Machine.execSetAckRx q p s
  | .nullPacketRx q p => Sys2Proof.Machine.execNullPacketRx q p s
  | .badPacketRx q p => Sys2Proof.Machine.execBadPacketRx q p s
  | .hostRequestRx q p => Sys2Proof.Machine.execHostRequestRx q p s
  | .ctrlWriteRx q p => Sys2Proof.Machine.execCtrlWriteRx q p s
  | .ctrlReadRx q p => Sys2Proof.Machine.execCtrlReadRx q p s
  | .setTaggedRx q p => Sys2Proof.Machine.execSetTaggedRx q p s
  | .ctrlTimeout q desc => Sys2Proof.Machine.execCtrlTimeout q desc s
  | .portStart q => Sys2Proof.Machine.execPortStart q s
  | .portStop q => Sys2Proof.Machine.execPortStop q s
  | .portResetLink q => Sys2Proof.Machine.execPortResetLink q s
  | .portRediscover q => Sys2Proof.Machine.execPortRediscover q s
  | .portLaneLost q => Sys2Proof.Machine.execPortLaneLost q s
  | .portLaneReturn q => Sys2Proof.Machine.execPortLaneReturn q s
  | .allLanesLost q => Sys2Proof.Machine.execAllLanesLost q s
  | .bcGo q => Sys2Proof.Machine.execBcGo q s
  | .tsGo q => Sys2Proof.Machine.execTsGo q s
  | .streamOutSend q v => Sys2Proof.Machine.execStreamOutSend q v s
  | .feApply n => Sys2Proof.Machine.execFeApply n s
  | .feSwitchNext n => Sys2Proof.Machine.execFeSwitchNext n s
  | .tabInit n => Sys2Proof.Machine.execTabInit n s
  | .tabInitDone n => Sys2Proof.Machine.execTabInitDone n s
  | .tabDataWrite n v => Sys2Proof.Machine.execTabDataWrite n v s
  | .feCtlWrite n v => Sys2Proof.Machine.execFeCtlWrite n v s
  | .feFrameStart n => Sys2Proof.Machine.execFeFrameStart n s
  | .feLineStart n => Sys2Proof.Machine.execFeLineStart n s
  | .fePixelPacket n count => Sys2Proof.Machine.execFePixelPacket n count s
  | .feLineEnd n => Sys2Proof.Machine.execFeLineEnd n s
  | .feFrameEnd n => Sys2Proof.Machine.execFeFrameEnd n s
  | .lineTimeout n => Sys2Proof.Machine.execLineTimeout n s
  | .windowWaitTimeout n => Sys2Proof.Machine.execWindowWaitTimeout n s
  | .feLineOut n => Sys2Proof.Machine.execFeLineOut n s
  | .statRecordWrite n => Sys2Proof.Machine.execStatRecordWrite n s
  | .statOutHoldExpiry n q v => Sys2Proof.Machine.execStatOutHoldExpiry n q v s
  | .viewApply v => Sys2Proof.Machine.execViewApply v s
  | .viewSwap v => Sys2Proof.Machine.execViewSwap v s
  | .viewCancelSwap v => Sys2Proof.Machine.execViewCancelSwap v s
  | .stitchTabLoWrite v => Sys2Proof.Machine.execStitchTabLoWrite v s
  | .stitchTabHiWrite v => Sys2Proof.Machine.execStitchTabHiWrite v s
  | .stitchLineIn n stalls => Sys2Proof.Machine.execStitchLineIn n stalls s
  | .rowDeadline v stalls => Sys2Proof.Machine.execRowDeadline v stalls s
  | .driftRowIn v => Sys2Proof.Machine.execDriftRowIn v s
  | .driftSeed v => Sys2Proof.Machine.execDriftSeed v s
  | .driftProbe v => Sys2Proof.Machine.execDriftProbe v s
  | .driftFreezeEvent v => Sys2Proof.Machine.execDriftFreezeEvent v s
  | .driftCtlWrite v x => Sys2Proof.Machine.execDriftCtlWrite v x s
  | .hearthRowDeliver t c => Sys2Proof.Machine.execHearthRowDeliver t c s
  | .spillReplayRow t c => Sys2Proof.Machine.execSpillReplayRow t c s
  | .ctxFrameEntry t c => Sys2Proof.Machine.execCtxFrameEntry t c s
  | .ctxRowEntry t c => Sys2Proof.Machine.execCtxRowEntry t c s
  | .wdogExpiry t c => Sys2Proof.Machine.execWdogExpiry t c s
  | .ctxResume t c => Sys2Proof.Machine.execCtxResume t c s
  | .ctxContinue t c => Sys2Proof.Machine.execCtxContinue t c s
  | .ctxHalt t c => Sys2Proof.Machine.execCtxHalt t c s
  | .groupApply g => Sys2Proof.Machine.execGroupApply g s
  | .swapProg g => Sys2Proof.Machine.execSwapProg g s
  | .swapClut g => Sys2Proof.Machine.execSwapClut g s
  | .groupCancelSwap g => Sys2Proof.Machine.execGroupCancelSwap g s
  | .fragmentQueueDrain t => Sys2Proof.Machine.execFragmentQueueDrain t s
  | .classRowRelease v => Sys2Proof.Machine.execClassRowRelease v s
  | .imemWrite t bc k w => Sys2Proof.Machine.execImemWrite t bc k w s
  | .clutWrite t bc k w => Sys2Proof.Machine.execClutWrite t bc k w s
  | .lineStoreWrite t k w => Sys2Proof.Machine.execLineStoreWrite t k w s
  | .horizonTimeout v => Sys2Proof.Machine.execHorizonTimeout v s
  | .fusionWindowExpiry e => Sys2Proof.Machine.execFusionWindowExpiry e s
  | .entryRetire e => Sys2Proof.Machine.execEntryRetire e s
  | .upstreamFrameRx l sof groups => Sys2Proof.Machine.execUpstreamFrameRx l sof groups s
  | .upstreamWindowClose l => Sys2Proof.Machine.execUpstreamWindowClose l s
  | .bctlWrite v => Sys2Proof.Machine.execBctlWrite v s
  | .lctlWrite l v => Sys2Proof.Machine.execLctlWrite l v s
  | .linkResync l => Sys2Proof.Machine.execLinkResync l s
  | .hallEdge n h run sub => Sys2Proof.Machine.execHallEdge n h run sub s
  | .indexEvent n level run sub => Sys2Proof.Machine.execIndexEvent n level run sub s
  | .fbSpeedRefresh n => Sys2Proof.Machine.execFbSpeedRefresh n s
  | .speedTimeout n => Sys2Proof.Machine.execSpeedTimeout n s
  | .fbSetPos n => Sys2Proof.Machine.execFbSetPos n s
  | .armIndex n => Sys2Proof.Machine.execArmIndex n s
  | .disarmIndex n => Sys2Proof.Machine.execDisarmIndex n s
  | .fbCtlWrite n v => Sys2Proof.Machine.execFbCtlWrite n v s
  | .axisTick a => Sys2Proof.Machine.execAxisTick a s
  | .chopUpperReached a b cs => Sys2Proof.Machine.execChopUpperReached a b cs s
  | .chopLowerReached a b cs => Sys2Proof.Machine.execChopLowerReached a b cs s
  | .chopDriveStart a b => Sys2Proof.Machine.execChopDriveStart a b s
  | .chopBlankEnd a b => Sys2Proof.Machine.execChopBlankEnd a b s
  | .holdDelayExpiry a => Sys2Proof.Machine.execHoldDelayExpiry a s
  | .limitAssert a hi level run => Sys2Proof.Machine.execLimitAssert a hi level run s
  | .limitDeassert a hi level run => Sys2Proof.Machine.execLimitDeassert a hi level run s
  | .push a => Sys2Proof.Machine.execPush a s
  | .axStopCmd a => Sys2Proof.Machine.execAxStopCmd a s
  | .estop a => Sys2Proof.Machine.execEstop a s
  | .home a => Sys2Proof.Machine.execHome a s
  | .clrLim a => Sys2Proof.Machine.execClrLim a s
  | .axSetPos a => Sys2Proof.Machine.execAxSetPos a s
  | .gearOn a => Sys2Proof.Machine.execGearOn a s
  | .gearArm a => Sys2Proof.Machine.execGearArm a s
  | .gearCancel a => Sys2Proof.Machine.execGearCancel a s
  | .stallRearm a => Sys2Proof.Machine.execStallRearm a s
  | .axGo a => Sys2Proof.Machine.execAxGo a s
  | .axStop a => Sys2Proof.Machine.execAxStop a s
  | .axCtlWrite a v => Sys2Proof.Machine.execAxCtlWrite a v s
  | .trainingDone n rd wr ecc => Sys2Proof.Machine.execTrainingDone n rd wr ecc s
  | .mcCtlWrite v => Sys2Proof.Machine.execMcCtlWrite v s
  | .evac n => Sys2Proof.Machine.execEvac n s
  | .evacCancel n => Sys2Proof.Machine.execEvacCancel n s
  | .chTrain n => Sys2Proof.Machine.execChTrain n s
  | .refill n => Sys2Proof.Machine.execRefill n s
  | .retire n => Sys2Proof.Machine.execRetire n s
  | .refreshDue n => Sys2Proof.Machine.execRefreshDue n s
  | .refreshIssue n => Sys2Proof.Machine.execRefreshIssue n s
  | .channelTempSample n => Sys2Proof.Machine.execChannelTempSample n s
  | .hotZoneExit n => Sys2Proof.Machine.execHotZoneExit n s
  | .devTempWrite n v => Sys2Proof.Machine.execDevTempWrite n v s
  | .devTempStale n => Sys2Proof.Machine.execDevTempStale n s
  | .memRequest tag addr len wr data => Sys2Proof.Machine.execMemRequest tag addr len wr data s
  | .memCommandIssue n => Sys2Proof.Machine.execMemCommandIssue n s
  | .memReadDone n ecc w => Sys2Proof.Machine.execMemReadDone n ecc w s
  | .rowIdleClose n b => Sys2Proof.Machine.execRowIdleClose n b s
  | .refreshWindowBoundary n => Sys2Proof.Machine.execRefreshWindowBoundary n s
  | .migrateBlock n ue => Sys2Proof.Machine.execMigrateBlock n ue s
  | .dmaStart c => Sys2Proof.Machine.execDmaStart c s
  | .dmaAbort c => Sys2Proof.Machine.execDmaAbort c s
  | .dmaResume c => Sys2Proof.Machine.execDmaResume c s
  | .doorbellRing c => Sys2Proof.Machine.execDoorbellRing c s
  | .dmaChCtlWrite c v => Sys2Proof.Machine.execDmaChCtlWrite c v s
  | .dmaTriggerInput c => Sys2Proof.Machine.execDmaTriggerInput c s
  | .descFetchDone c => Sys2Proof.Machine.execDescFetchDone c s
  | .dmaElementIssue ready => Sys2Proof.Machine.execDmaElementIssue ready s
  | .dmaReadData c => Sys2Proof.Machine.execDmaReadData c s
  | .dmaWriteAck c k => Sys2Proof.Machine.execDmaWriteAck c k s
  | .nextReadDone c => Sys2Proof.Machine.execNextReadDone c s
  | .dmaErrorResponse c dir k => Sys2Proof.Machine.execDmaErrorResponse c dir k s
  | .firnStart e => Sys2Proof.Machine.execFirnStart e s
  | .firnAbort e => Sys2Proof.Machine.execFirnAbort e s
  | .dropCtx e => Sys2Proof.Machine.execDropCtx e s
  | .firnEctlWrite e v => Sys2Proof.Machine.execFirnEctlWrite e v s
  | .jobWrWrite e v => Sys2Proof.Machine.execJobWrWrite e v s
  | .firnJobStart e => Sys2Proof.Machine.execFirnJobStart e s
  | .firnJobEnd e fault => Sys2Proof.Machine.execFirnJobEnd e fault s
  | .firnPacketSend e stall => Sys2Proof.Machine.execFirnPacketSend e stall s
  | .incrNsWrite v => Sys2Proof.Machine.execIncrNsWrite v s
  | .capture k => Sys2Proof.Machine.execCapture k s
  | .ethLinkStatus link speed full => Sys2Proof.Machine.execEthLinkStatus link speed full s
  | .txWrWrite v => Sys2Proof.Machine.execTxWrWrite v s
  | .rxFrame frame fcsOk age => Sys2Proof.Machine.execRxFrame frame fcsOk age s
  | .mdioGo v => Sys2Proof.Machine.execMdioGo v s
  | .mdioDone data => Sys2Proof.Machine.execMdioDone data s
  | .tpArm k => Sys2Proof.Machine.execTpArm k s
  | .tpStop k => Sys2Proof.Machine.execTpStop k s
  | .tpAbort k => Sys2Proof.Machine.execTpAbort k s
  | .tpStartInput k => Sys2Proof.Machine.execTpStartInput k s
  | .tpEdgeCompute k => Sys2Proof.Machine.execTpEdgeCompute k s
  | .tpLeadingEdge k => Sys2Proof.Machine.execTpLeadingEdge k s
  | .tpTrailingEdge k => Sys2Proof.Machine.execTpTrailingEdge k s
  | .channelEventArrive n => Sys2Proof.Machine.execChannelEventArrive n s
  | .pendingEventDeliver n => Sys2Proof.Machine.execPendingEventDeliver n s
  | .chFire k v => Sys2Proof.Machine.execChFire k v s
  | .swFire k v => Sys2Proof.Machine.execSwFire k v s
  | .evfRouteWrite m cons k v => Sys2Proof.Machine.execEvfRouteWrite m cons k v s
  | .routeLock m => Sys2Proof.Machine.execRouteLock m s
  | .coreCtlWrite m v => Sys2Proof.Machine.execCoreCtlWrite m v s
  | .mtimerPending h => Sys2Proof.Machine.execMtimerPending h s
  | .hartInstruction h act => Sys2Proof.Machine.execHartInstruction h act s
  | .guardInstruction g act => Sys2Proof.Machine.execGuardInstruction g act s
  | .tvScrub upsets => Sys2Proof.Machine.execTvScrub upsets s
  | .toApp m => Sys2Proof.Machine.execToApp m s
  | .irqComplete m t id => Sys2Proof.Machine.execIrqComplete m t id s
  | .sramAccess m a n data ecc => Sys2Proof.Machine.execSramAccess m a n data ecc s
  | .busAccessUnmapped m a => Sys2Proof.Machine.execBusAccessUnmapped m a s
  | .registerWrite m a v => Sys2Proof.Machine.execRegisterWrite m a v s
  | .tctlWrite v => Sys2Proof.Machine.execTctlWrite v s
  | .actInChange level => Sys2Proof.Machine.execActInChange level s
  | .heartbeatRx f => Sys2Proof.Machine.execHeartbeatRx f s
  | .heartbeatMiss path => Sys2Proof.Machine.execHeartbeatMiss path s
  | .pathSilent path => Sys2Proof.Machine.execPathSilent path s
  | .decideRx q p => Sys2Proof.Machine.execDecideRx q p s
  | .cycleEndRx q p => Sys2Proof.Machine.execCycleEndRx q p s
  | .mirrorAckRx q p => Sys2Proof.Machine.execMirrorAckRx q p s
  | .checkRx q p => Sys2Proof.Machine.execCheckRx q p s
  | .resyncReqRx q p => Sys2Proof.Machine.execResyncReqRx q p s
  | .userRx q p => Sys2Proof.Machine.execUserRx q p s
  | .tempSample k reading valid => Sys2Proof.Machine.execTempSample k reading valid s
  | .calRun d => Sys2Proof.Machine.execCalRun d s
  | .calRunStart temp => Sys2Proof.Machine.execCalRunStart temp s
  | .calStaged res failed => Sys2Proof.Machine.execCalStaged res failed s
  | .vddCoreWarn mv => Sys2Proof.Machine.execVddCoreWarn mv s
  | .vddCoreWarnClear mv => Sys2Proof.Machine.execVddCoreWarnClear mv s
  | .vddCoreUv mv => Sys2Proof.Machine.execVddCoreUv mv s
  | .railLow r => Sys2Proof.Machine.execRailLow r s
  | .railLowClear r => Sys2Proof.Machine.execRailLowClear r s
  | .aonFeedLow x => Sys2Proof.Machine.execAonFeedLow x s
  | .aonFeedOk x oneMs twinId => Sys2Proof.Machine.execAonFeedOk x oneMs twinId s
  | .feedSenseLow x mv => Sys2Proof.Machine.execFeedSenseLow x mv s
  | .feedSenseOk x mv => Sys2Proof.Machine.execFeedSenseOk x mv s
  | .blockStickyClear v => Sys2Proof.Machine.execBlockStickyClear v s
  | .porRelease twinId => Sys2Proof.Machine.execPorRelease twinId s
  | .mainResetRelease bootMode => Sys2Proof.Machine.execMainResetRelease bootMode s
  | .rstReq v => Sys2Proof.Machine.execRstReq v s
  | .bootRomRun slotA slotB uart sfdp long us => Sys2Proof.Machine.execBootRomRun slotA slotB uart sfdp long us s
  | .islandRomLoad g => Sys2Proof.Machine.execIslandRomLoad g s
  | .qspiDone data busErr => Sys2Proof.Machine.execQspiDone data busErr s
  | .uartTxPush k => Sys2Proof.Machine.execUartTxPush k s
  | .uartRxPop k => Sys2Proof.Machine.execUartRxPop k s
  | .uartFlush k => Sys2Proof.Machine.execUartFlush k s
  | .uartByteRx k b framing parity => Sys2Proof.Machine.execUartByteRx k b framing parity s
  | .uartByteSent k => Sys2Proof.Machine.execUartByteSent k s
  | .iicDone result data => Sys2Proof.Machine.execIicDone result data s
  | .extest cells shift => Sys2Proof.Machine.execExtest cells shift s
  | .samplePreload cells shift => Sys2Proof.Machine.execSamplePreload cells shift s
  | .extestPulse cells shift => Sys2Proof.Machine.execExtestPulse cells shift s
  | .extestTrain cells shift => Sys2Proof.Machine.execExtestTrain cells shift s
  | .dmi h act => Sys2Proof.Machine.execDmi h act s
  | .fuseSel addr => Sys2Proof.Machine.execFuseSel addr s
  | .fuseData v => Sys2Proof.Machine.execFuseData v s
  | .fuseProg mv temp => Sys2Proof.Machine.execFuseProg mv temp s
  | .bypass code => Sys2Proof.Machine.execBypass code s
  | .descWriteBackDone c => Sys2Proof.Machine.execDescWriteBackDone c s
  | .illegalInstruction t c => Sys2Proof.Machine.execIllegalInstruction t c s
  | .vnop t c => Sys2Proof.Machine.execVnop t c s
  | .vldp t c => Sys2Proof.Machine.execVldp t c s
  | .vldr t c => Sys2Proof.Machine.execVldr t c s
  | .vldf t c => Sys2Proof.Machine.execVldf t c s
  | .vlds t c => Sys2Proof.Machine.execVlds t c s
  | .vsts t c => Sys2Proof.Machine.execVsts t c s
  | .vcls t c => Sys2Proof.Machine.execVcls t c s
  | .vmovi t c => Sys2Proof.Machine.execVmovi t c s
  | .vadd t c => Sys2Proof.Machine.execVadd t c s
  | .vsub t c => Sys2Proof.Machine.execVsub t c s
  | .vmul t c => Sys2Proof.Machine.execVmul t c s
  | .vmin t c => Sys2Proof.Machine.execVmin t c s
  | .vmax t c => Sys2Proof.Machine.execVmax t c s
  | .vabsd t c => Sys2Proof.Machine.execVabsd t c s
  | .vand t c => Sys2Proof.Machine.execVand t c s
  | .vor t c => Sys2Proof.Machine.execVor t c s
  | .vxor t c => Sys2Proof.Machine.execVxor t c s
  | .vshl t c => Sys2Proof.Machine.execVshl t c s
  | .vshr t c => Sys2Proof.Machine.execVshr t c s
  | .vsel t c => Sys2Proof.Machine.execVsel t c s
  | .vcmpeq t c => Sys2Proof.Machine.execVcmpeq t c s
  | .vcmplt t c => Sys2Proof.Machine.execVcmplt t c s
  | .vcmple t c => Sys2Proof.Machine.execVcmple t c s
  | .pand t c => Sys2Proof.Machine.execPand t c s
  | .por t c => Sys2Proof.Machine.execPor t c s
  | .pxor t c => Sys2Proof.Machine.execPxor t c s
  | .vqnt t c => Sys2Proof.Machine.execVqnt t c s
  | .vins t c => Sys2Proof.Machine.execVins t c s
  | .vext t c => Sys2Proof.Machine.execVext t c s
  | .vlut t c => Sys2Proof.Machine.execVlut t c s
  | .vdot4 t c => Sys2Proof.Machine.execVdot4 t c s
  | .vnar t c => Sys2Proof.Machine.execVnar t c s
  | .vwid t c => Sys2Proof.Machine.execVwid t c s
  | .vrsum t c => Sys2Proof.Machine.execVrsum t c s
  | .vrun t c => Sys2Proof.Machine.execVrun t c s
  | .snop t c => Sys2Proof.Machine.execSnop t c s
  | .sli t c => Sys2Proof.Machine.execSli t c s
  | .slih t c => Sys2Proof.Machine.execSlih t c s
  | .saddi t c => Sys2Proof.Machine.execSaddi t c s
  | .sadd t c => Sys2Proof.Machine.execSadd t c s
  | .ssub t c => Sys2Proof.Machine.execSsub t c s
  | .sand t c => Sys2Proof.Machine.execSand t c s
  | .sor t c => Sys2Proof.Machine.execSor t c s
  | .sxor t c => Sys2Proof.Machine.execSxor t c s
  | .sshli t c => Sys2Proof.Machine.execSshli t c s
  | .sshri t c => Sys2Proof.Machine.execSshri t c s
  | .ssrai t c => Sys2Proof.Machine.execSsrai t c s
  | .smul t c => Sys2Proof.Machine.execSmul t c s
  | .smin t c => Sys2Proof.Machine.execSmin t c s
  | .smax t c => Sys2Proof.Machine.execSmax t c s
  | .sslt t c => Sys2Proof.Machine.execSslt t c s
  | .sget t c => Sys2Proof.Machine.execSget t c s
  | .slds t c => Sys2Proof.Machine.execSlds t c s
  | .ssts t c => Sys2Proof.Machine.execSsts t c s
  | .spcnt t c => Sys2Proof.Machine.execSpcnt t c s
  | .bOp t c => Sys2Proof.Machine.execBOp t c s
  | .bz t c => Sys2Proof.Machine.execBz t c s
  | .bnz t c => Sys2Proof.Machine.execBnz t c s
  | .blt t c => Sys2Proof.Machine.execBlt t c s
  | .endOp t c => Sys2Proof.Machine.execEndOp t c s
  | .brk t c => Sys2Proof.Machine.execBrk t c s
  | .lrow t c => Sys2Proof.Machine.execLrow t c s
  | .lclosed t c => Sys2Proof.Machine.execLclosed t c s
  | .lget t c => Sys2Proof.Machine.execLget t c s
  | .lset t c => Sys2Proof.Machine.execLset t c s
  | .femit t c => Sys2Proof.Machine.execFemit t c s
  | .ldrop t c => Sys2Proof.Machine.execLdrop t c s
  | .rootPllLoss => Sys2Proof.Machine.execRootPllLoss s
  | .fragmentIn => Sys2Proof.Machine.execFragmentIn s
  | .rowMarkIn => Sys2Proof.Machine.execRowMarkIn s
  | .objectDecide => Sys2Proof.Machine.execObjectDecide s
  | .defectPktFlush => Sys2Proof.Machine.execDefectPktFlush s
  | .moraineApply => Sys2Proof.Machine.execMoraineApply s
  | .swapRules => Sys2Proof.Machine.execSwapRules s
  | .swapFt => Sys2Proof.Machine.execSwapFt s
  | .moraineClear => Sys2Proof.Machine.execMoraineClear s
  | .actionAccept => Sys2Proof.Machine.execActionAccept s
  | .slotAssemble => Sys2Proof.Machine.execSlotAssemble s
  | .downstreamFrameSend => Sys2Proof.Machine.execDownstreamFrameSend s
  | .actionRetire => Sys2Proof.Machine.execActionRetire s
  | .arm => Sys2Proof.Machine.execArm s
  | .disarm => Sys2Proof.Machine.execDisarm s
  | .kick => Sys2Proof.Machine.execKick s
  | .testAct => Sys2Proof.Machine.execTestAct s
  | .testActionCheck => Sys2Proof.Machine.execTestActionCheck s
  | .bellowsClear => Sys2Proof.Machine.execBellowsClear s
  | .bellowsWdogExpiry => Sys2Proof.Machine.execBellowsWdogExpiry s
  | .bellowsDisarmInput => Sys2Proof.Machine.execBellowsDisarmInput s
  | .mcInit => Sys2Proof.Machine.execMcInit s
  | .applyTable => Sys2Proof.Machine.execApplyTable s
  | .ptpLatch => Sys2Proof.Machine.execPtpLatch s
  | .ptpStep => Sys2Proof.Machine.execPtpStep s
  | .ptpSlew => Sys2Proof.Machine.execPtpSlew s
  | .ptpSet => Sys2Proof.Machine.execPtpSet s
  | .invalidate => Sys2Proof.Machine.execInvalidate s
  | .slewStop => Sys2Proof.Machine.execSlewStop s
  | .slewStep => Sys2Proof.Machine.execSlewStep s
  | .alarm => Sys2Proof.Machine.execAlarm s
  | .second => Sys2Proof.Machine.execSecond s
  | .txFrameStart => Sys2Proof.Machine.execTxFrameStart s
  | .txFrameDone => Sys2Proof.Machine.execTxFrameDone s
  | .tpHalt => Sys2Proof.Machine.execTpHalt s
  | .warnBellows => Sys2Proof.Machine.execWarnBellows s
  | .warnAxes => Sys2Proof.Machine.execWarnAxes s
  | .snapGo => Sys2Proof.Machine.execSnapGo s
  | .snapInput => Sys2Proof.Machine.execSnapInput s
  | .snapshotTaken => Sys2Proof.Machine.execSnapshotTaken s
  | .toG0 => Sys2Proof.Machine.execToG0 s
  | .toG1 => Sys2Proof.Machine.execToG1 s
  | .claim => Sys2Proof.Machine.execClaim s
  | .claimWindowExpiry => Sys2Proof.Machine.execClaimWindowExpiry s
  | .join => Sys2Proof.Machine.execJoin s
  | .handover => Sys2Proof.Machine.execHandover s
  | .twinResync => Sys2Proof.Machine.execTwinResync s
  | .userSend => Sys2Proof.Machine.execUserSend s
  | .heartbeatSend => Sys2Proof.Machine.execHeartbeatSend s
  | .partnerSilent => Sys2Proof.Machine.execPartnerSilent s
  | .muxSettleExpiry => Sys2Proof.Machine.execMuxSettleExpiry s
  | .cycleEndSend => Sys2Proof.Machine.execCycleEndSend s
  | .mirrorAckTimeout => Sys2Proof.Machine.execMirrorAckTimeout s
  | .matchWaitExpiry => Sys2Proof.Machine.execMatchWaitExpiry s
  | .checkBlockTimeout => Sys2Proof.Machine.execCheckBlockTimeout s
  | .vddSramUv => Sys2Proof.Machine.execVddSramUv s
  | .mainSupplyRelease => Sys2Proof.Machine.execMainSupplyRelease s
  | .bothAonFeedsLost => Sys2Proof.Machine.execBothAonFeedsLost s
  | .errlogClear => Sys2Proof.Machine.execErrlogClear s
  | .porAssert => Sys2Proof.Machine.execPorAssert s
  | .resetNAssert => Sys2Proof.Machine.execResetNAssert s
  | .resetNRelease => Sys2Proof.Machine.execResetNRelease s
  | .debugReset => Sys2Proof.Machine.execDebugReset s
  | .qspiGo => Sys2Proof.Machine.execQspiGo s
  | .iicGo => Sys2Proof.Machine.execIicGo s
  | .iicTimeout => Sys2Proof.Machine.execIicTimeout s
  | .idcode => Sys2Proof.Machine.execIdcode s
  | .highz => Sys2Proof.Machine.execHighz s
  | .clamp => Sys2Proof.Machine.execClamp s
  | .dtmcs => Sys2Proof.Machine.execDtmcs s

end Sys2Proof.Machine
end

