-- ==== Sys2Proof/Safety.lean ====
section
/-! DEFINITION. What claims say about states: the canonical form of the sparse data, what a step may never undo, which commands act in
the main domain, and the frames: what a command leaves alone. -/

namespace Sys2Proof

/-- Does the command act in the main domain (R433)? -/
def Instr.mainDomain : Instr → Bool
  | .quadApply .. => true
  | .quadRetrain .. => true
  | .quadPllLock .. => true
  | .quadPllUnlock .. => true
  | .refclkLoss .. => true
  | .acquireDone .. => true
  | .laneBlockRx .. => true
  | .hiBerClear .. => true
  | .blockLockAcquired .. => true
  | .blockLockLost .. => true
  | .signalLost .. => true
  | .rxPolarityInvert .. => true
  | .trainBlockRx .. => true
  | .trainLocked .. => true
  | .laneReady .. => true
  | .listenLaneReady .. => true
  | .trainTimeout .. => true
  | .laneRetrain .. => true
  | .ctleTrackStep .. => true
  | .laneCtlWrite .. => true
  | .laneFfeWrite .. => true
  | .prbsCtlWrite .. => true
  | .prbsLockGained .. => true
  | .prbsLockLost .. => true
  | .injSingle .. => true
  | .injBurst .. => true
  | .injectionSent .. => true
  | .eyeStart .. => true
  | .eyePointDone .. => true
  | .laneCalApply .. => true
  | .linkWaitExpiry .. => true
  | .stripeAckRx .. => true
  | .stripeReqRx .. => true
  | .alignRx .. => true
  | .alignSend .. => true
  | .restripeTimeout .. => true
  | .triggerSend .. => true
  | .triggerRx .. => true
  | .idleUnitRx .. => true
  | .unknownCtrlBlockRx .. => true
  | .frameStartRx .. => true
  | .frameEndRx .. => true
  | .lineStartRx .. => true
  | .lineEndRx .. => true
  | .pixelPacketRx .. => true
  | .ringPacketRx .. => true
  | .ctrlRespRx .. => true
  | .setAckRx .. => true
  | .nullPacketRx .. => true
  | .badPacketRx .. => true
  | .hostRequestRx .. => true
  | .ctrlWriteRx .. => true
  | .ctrlReadRx .. => true
  | .setTaggedRx .. => true
  | .ctrlTimeout .. => true
  | .portStart .. => true
  | .portStop .. => true
  | .portResetLink .. => true
  | .portRediscover .. => true
  | .portLaneLost .. => true
  | .portLaneReturn .. => true
  | .allLanesLost .. => true
  | .bcGo .. => true
  | .tsGo .. => true
  | .streamOutSend .. => true
  | .feApply .. => true
  | .feSwitchNext .. => true
  | .tabInit .. => true
  | .tabInitDone .. => true
  | .tabDataWrite .. => true
  | .feCtlWrite .. => true
  | .feFrameStart .. => true
  | .feLineStart .. => true
  | .fePixelPacket .. => true
  | .feLineEnd .. => true
  | .feFrameEnd .. => true
  | .lineTimeout .. => true
  | .windowWaitTimeout .. => true
  | .feLineOut .. => true
  | .statRecordWrite .. => true
  | .statOutHoldExpiry .. => true
  | .viewApply .. => true
  | .viewSwap .. => true
  | .viewCancelSwap .. => true
  | .stitchTabLoWrite .. => true
  | .stitchTabHiWrite .. => true
  | .stitchLineIn .. => true
  | .rowDeadline .. => true
  | .driftRowIn .. => true
  | .driftSeed .. => true
  | .driftProbe .. => true
  | .driftFreezeEvent .. => true
  | .driftCtlWrite .. => true
  | .hearthRowDeliver .. => true
  | .spillReplayRow .. => true
  | .ctxFrameEntry .. => true
  | .ctxRowEntry .. => true
  | .wdogExpiry .. => true
  | .ctxResume .. => true
  | .ctxContinue .. => true
  | .ctxHalt .. => true
  | .groupApply .. => true
  | .swapProg .. => true
  | .swapClut .. => true
  | .groupCancelSwap .. => true
  | .fragmentQueueDrain .. => true
  | .classRowRelease .. => true
  | .imemWrite .. => true
  | .clutWrite .. => true
  | .lineStoreWrite .. => true
  | .horizonTimeout .. => true
  | .fusionWindowExpiry .. => true
  | .entryRetire .. => true
  | .upstreamFrameRx .. => true
  | .upstreamWindowClose .. => true
  | .bctlWrite .. => true
  | .lctlWrite .. => true
  | .linkResync .. => true
  | .hallEdge .. => true
  | .indexEvent .. => true
  | .fbSpeedRefresh .. => true
  | .speedTimeout .. => true
  | .fbSetPos .. => true
  | .armIndex .. => true
  | .disarmIndex .. => true
  | .fbCtlWrite .. => true
  | .axisTick .. => true
  | .chopUpperReached .. => true
  | .chopLowerReached .. => true
  | .chopDriveStart .. => true
  | .chopBlankEnd .. => true
  | .holdDelayExpiry .. => true
  | .limitAssert .. => true
  | .limitDeassert .. => true
  | .push .. => true
  | .axStopCmd .. => true
  | .estop .. => true
  | .home .. => true
  | .clrLim .. => true
  | .axSetPos .. => true
  | .gearOn .. => true
  | .gearArm .. => true
  | .gearCancel .. => true
  | .stallRearm .. => true
  | .axGo .. => true
  | .axStop .. => true
  | .axCtlWrite .. => true
  | .trainingDone .. => true
  | .mcCtlWrite .. => true
  | .evac .. => true
  | .evacCancel .. => true
  | .chTrain .. => true
  | .refill .. => true
  | .retire .. => true
  | .refreshDue .. => true
  | .refreshIssue .. => true
  | .channelTempSample .. => true
  | .hotZoneExit .. => true
  | .devTempWrite .. => true
  | .devTempStale .. => true
  | .memRequest .. => true
  | .memCommandIssue .. => true
  | .memReadDone .. => true
  | .rowIdleClose .. => true
  | .refreshWindowBoundary .. => true
  | .migrateBlock .. => true
  | .dmaStart .. => true
  | .dmaAbort .. => true
  | .dmaResume .. => true
  | .doorbellRing .. => true
  | .dmaChCtlWrite .. => true
  | .dmaTriggerInput .. => true
  | .descFetchDone .. => true
  | .dmaElementIssue .. => true
  | .dmaReadData .. => true
  | .dmaWriteAck .. => true
  | .nextReadDone .. => true
  | .dmaErrorResponse .. => true
  | .firnStart .. => true
  | .firnAbort .. => true
  | .dropCtx .. => true
  | .firnEctlWrite .. => true
  | .jobWrWrite .. => true
  | .firnJobStart .. => true
  | .firnJobEnd .. => true
  | .firnPacketSend .. => true
  | .incrNsWrite .. => true
  | .capture .. => true
  | .ethLinkStatus .. => true
  | .txWrWrite .. => true
  | .rxFrame .. => true
  | .mdioGo .. => true
  | .mdioDone .. => true
  | .tpArm .. => true
  | .tpStop .. => true
  | .tpAbort .. => true
  | .tpStartInput .. => true
  | .tpEdgeCompute .. => true
  | .tpLeadingEdge .. => true
  | .tpTrailingEdge .. => true
  | .channelEventArrive .. => true
  | .pendingEventDeliver .. => true
  | .chFire .. => true
  | .swFire .. => true
  | .evfRouteWrite .. => true
  | .routeLock .. => true
  | .coreCtlWrite .. => true
  | .mtimerPending .. => true
  | .hartInstruction .. => true
  | .guardInstruction .. => false
  | .tvScrub .. => false
  | .toApp .. => false
  | .irqComplete .. => true
  | .sramAccess .. => true
  | .busAccessUnmapped .. => false
  | .registerWrite .. => false
  | .tctlWrite .. => false
  | .actInChange .. => false
  | .heartbeatRx .. => false
  | .heartbeatMiss .. => true
  | .pathSilent .. => true
  | .decideRx .. => true
  | .cycleEndRx .. => true
  | .mirrorAckRx .. => true
  | .checkRx .. => true
  | .resyncReqRx .. => true
  | .userRx .. => true
  | .tempSample .. => true
  | .calRun .. => true
  | .calRunStart .. => true
  | .calStaged .. => true
  | .vddCoreWarn .. => false
  | .vddCoreWarnClear .. => false
  | .vddCoreUv .. => false
  | .railLow .. => false
  | .railLowClear .. => false
  | .aonFeedLow .. => false
  | .aonFeedOk .. => false
  | .feedSenseLow .. => false
  | .feedSenseOk .. => false
  | .blockStickyClear .. => false
  | .porRelease .. => false
  | .mainResetRelease .. => false
  | .rstReq .. => true
  | .bootRomRun .. => true
  | .islandRomLoad .. => false
  | .qspiDone .. => true
  | .uartTxPush .. => true
  | .uartRxPop .. => true
  | .uartFlush .. => true
  | .uartByteRx .. => true
  | .uartByteSent .. => true
  | .iicDone .. => true
  | .extest .. => false
  | .samplePreload .. => false
  | .extestPulse .. => false
  | .extestTrain .. => false
  | .dmi .. => false
  | .fuseSel .. => false
  | .fuseData .. => false
  | .fuseProg .. => false
  | .bypass .. => false
  | .descWriteBackDone .. => true
  | .illegalInstruction .. => true
  | .vnop .. => true
  | .vldp .. => true
  | .vldr .. => true
  | .vldf .. => true
  | .vlds .. => true
  | .vsts .. => true
  | .vcls .. => true
  | .vmovi .. => true
  | .vadd .. => true
  | .vsub .. => true
  | .vmul .. => true
  | .vmin .. => true
  | .vmax .. => true
  | .vabsd .. => true
  | .vand .. => true
  | .vor .. => true
  | .vxor .. => true
  | .vshl .. => true
  | .vshr .. => true
  | .vsel .. => true
  | .vcmpeq .. => true
  | .vcmplt .. => true
  | .vcmple .. => true
  | .pand .. => true
  | .por .. => true
  | .pxor .. => true
  | .vqnt .. => true
  | .vins .. => true
  | .vext .. => true
  | .vlut .. => true
  | .vdot4 .. => true
  | .vnar .. => true
  | .vwid .. => true
  | .vrsum .. => true
  | .vrun .. => true
  | .snop .. => true
  | .sli .. => true
  | .slih .. => true
  | .saddi .. => true
  | .sadd .. => true
  | .ssub .. => true
  | .sand .. => true
  | .sor .. => true
  | .sxor .. => true
  | .sshli .. => true
  | .sshri .. => true
  | .ssrai .. => true
  | .smul .. => true
  | .smin .. => true
  | .smax .. => true
  | .sslt .. => true
  | .sget .. => true
  | .slds .. => true
  | .ssts .. => true
  | .spcnt .. => true
  | .bOp .. => true
  | .bz .. => true
  | .bnz .. => true
  | .blt .. => true
  | .endOp .. => true
  | .brk .. => true
  | .lrow .. => true
  | .lclosed .. => true
  | .lget .. => true
  | .lset .. => true
  | .femit .. => true
  | .ldrop .. => true
  | .rootPllLoss => false
  | .fragmentIn => true
  | .rowMarkIn => true
  | .objectDecide => true
  | .defectPktFlush => true
  | .moraineApply => true
  | .swapRules => true
  | .swapFt => true
  | .moraineClear => true
  | .actionAccept => true
  | .slotAssemble => true
  | .downstreamFrameSend => true
  | .actionRetire => true
  | .arm => true
  | .disarm => true
  | .kick => true
  | .testAct => true
  | .testActionCheck => true
  | .bellowsClear => true
  | .bellowsWdogExpiry => true
  | .bellowsDisarmInput => true
  | .mcInit => true
  | .applyTable => true
  | .ptpLatch => true
  | .ptpStep => true
  | .ptpSlew => true
  | .ptpSet => true
  | .invalidate => true
  | .slewStop => true
  | .slewStep => true
  | .alarm => true
  | .second => true
  | .txFrameStart => true
  | .txFrameDone => true
  | .tpHalt => true
  | .warnBellows => true
  | .warnAxes => true
  | .snapGo => true
  | .snapInput => true
  | .snapshotTaken => true
  | .toG0 => false
  | .toG1 => false
  | .claim => true
  | .claimWindowExpiry => false
  | .join => true
  | .handover => true
  | .twinResync => true
  | .userSend => true
  | .heartbeatSend => false
  | .partnerSilent => true
  | .muxSettleExpiry => true
  | .cycleEndSend => true
  | .mirrorAckTimeout => true
  | .matchWaitExpiry => true
  | .checkBlockTimeout => true
  | .vddSramUv => false
  | .mainSupplyRelease => false
  | .bothAonFeedsLost => false
  | .errlogClear => false
  | .porAssert => false
  | .resetNAssert => false
  | .resetNRelease => false
  | .debugReset => false
  | .qspiGo => true
  | .iicGo => true
  | .iicTimeout => true
  | .idcode => false
  | .highz => false
  | .clamp => false
  | .dtmcs => false

end Sys2Proof

namespace Sys2Proof.Machine

/-- The memory is in canonical form: addresses strictly rise, and no listed byte is 0. -/
def memWf (s : State) : Bool := SMap.wf (fun _ => 0#8) s.mem

/-- The registers are in canonical form: addresses strictly rise, and no listed register holds its reset value. -/
def regsWf (s : State) : Bool := SMap.wf resetWord s.regs

/-- Fuse bit `b` of word `w` is blown (R436, R474). -/
def fuseBlown (s : State) (w b : Nat) : Bool := (SMap.get (fun _ => (0 : Word)) s.fuses w).getLsbD b

/-- Byte `a` of the guardian cores' private memories, 64 KiB each (R369). -/
def guardByteAt (s : State) (a : Nat) : BitVec 8 := SMap.get (fun _ => 0) s.guardMem a

/-- While the island is held in power-on reset the main domain is in reset (R433). -/
def porHoldsMain (s : State) : Prop := s.inPor = true → s.mainReset = true

/-! Frames. Each says that nothing but what it names has changed: first of the whole state, then of the registers and of memory. -/

/-- Registers other than those listed, and every byte of memory, read as before. -/
def readsKept (s t : State) (l : List Nat) : Prop :=
  (∀ a, a ∉ l → t.rd a = s.rd a) ∧ ∀ a, t.rdByte a = s.rdByte a

/-- Nothing but the listed registers has changed. -/
def regFrame (s t : State) (l : List Nat) : Prop := t = { s with regs := t.regs } ∧ readsKept s t l

/-- Nothing but the listed registers, the pulses on their way to the event fabric and the cycles of the error record's captures has
changed. -/
def evFrame (s t : State) (l : List Nat) : Prop :=
  t = { s with regs := t.regs, chanIn := t.chanIn, fixedIn := t.fixedIn, errAt := t.errAt } ∧ readsKept s t l

/-- The registers that an event source may change (R361, R387): its PEND word, MERGED, and the COINCIDE counters. -/
def eventRegs (src : Nat) : List Nat :=
  R.IRQC_PEND (src / 32) :: R.IRQC_MERGED :: (List.range 260).map R.EVF_COINCIDE

/-- The registers that the error record may change (R425, R426). -/
def recordRegs (e : Site) : List Nat :=
  [R.ERRLOG_BLOCK_STICKY, R.ERRLOG_FINFO e.blk, R.ERRLOG_FADDR_LO e.blk, R.ERRLOG_FADDR_HI e.blk, R.ERRLOG_FTIME_LO e.blk,
   R.ERRLOG_FTIME_HI e.blk, R.ERRLOG_FAON_LO e.blk, R.ERRLOG_FAON_HI e.blk] ++ eventRegs 15

/-- The registers that an error may change: its sticky register, the error record, and what its event source changes. -/
def errorRegs (a : Nat) (e : Site) : List Nat := a :: (recordRegs e ++ eventRegs e.src)

/-- Bit `n` of the sticky error register at `a` is 1, its other bits are as before, and nothing else has changed but the error record
and what the error's event source changes. -/
def raisesOnly (s t : State) (a n : Nat) (e : Site) : Prop :=
  t.rd a = (bit n).put (s.rd a) 1 ∧ evFrame s t (errorRegs a e)

/-! The word in issue of a Hearth context (R182). -/

/-- The word's vector slot has read, its scalar slot is next and holds opcode `op`, and nothing keeps the word from completing. -/
def scalReady (s : State) (t c op : Nat) : Prop :=
  t < 64 ∧ c < 4 ∧ s.mainReset = false ∧ s.canIssue t c = true ∧ (s.ctx t c).vres.isSome = true
    ∧ sop (s.wordAt t c) = op ∧ (s.ctx t c).haltReq = false ∧ (s.ctx t c).dogReq = false ∧ s.stalled t c = false

/-- What the word's scalar slot leaves alone: the registers that neither slot writes, the labels, the line store unless the vector
slot stores, the other contexts, all registers but CTX_PC, and memory. -/
def scalFrame (s u : State) (t c : Nat) (written : Option Nat) : Prop :=
  (∀ d, written ≠ some d → (∀ v, (s.ctx t c).vres ≠ some (.scal d v)) → (u.ctx t c).rs d = (s.ctx t c).rs d)
    ∧ (∀ d, (∀ v, (s.ctx t c).vres ≠ some (.vec d v)) → (u.ctx t c).rv d = (s.ctx t c).rv d)
    ∧ (∀ d, (∀ v, (s.ctx t c).vres ≠ some (.pred d v)) → (u.ctx t c).rp' d = (s.ctx t c).rp' d)
    ∧ (u.ctx t c).labels = (s.ctx t c).labels
    ∧ ((∀ a v m, (s.ctx t c).vres ≠ some (.mem a v m)) → (u.tile t).ls = (s.tile t).ls)
    ∧ (∀ t' c', t' ≠ t ∨ c' ≠ c → u.ctx t' c' = s.ctx t' c')
    ∧ u = { s with regs := u.regs, tiles := u.tiles } ∧ readsKept s u [R.HEARTH_CTX_PC t c]

/-- An integer as an element of `b` bits (R184): saturated to the element's range under `st`, else its low bits. -/
def asElement (b : Nat) (sg st : Bool) (r : Int) : Nat :=
  let lo : Int := if sg then -2 ^ (b - 1) else 0
  let hi : Int := if sg then 2 ^ (b - 1) - 1 else 2 ^ b - 1
  ((if st then max lo (min hi r) else r) % 2 ^ b).toNat

/-- The word's vector slot is next and holds opcode `op`. -/
def vecAt (s : State) (t c op : Nat) : Prop :=
  t < 64 ∧ c < 4 ∧ s.mainReset = false ∧ s.canIssue t c = true ∧ (s.ctx t c).vres = none ∧ vop (s.wordAt t c) = op

end Sys2Proof.Machine
end

