-- ==== Sys2Proof/WellFormed.lean ====
section
/-! DEFINITION. Which commands name units that exist (R4, R15): the ranges of their unit numbers. -/

namespace Sys2Proof

/-- Every unit number of the command is in range. -/
def Instr.wf : Instr → Bool
  | .quadApply q => q < 32
  | .quadRetrain q => q < 32
  | .quadPllLock q => q < 32
  | .quadPllUnlock q => q < 32
  | .refclkLoss _ => true
  | .acquireDone n ctle => n < 128 && ctle < 16
  | .laneBlockRx n _ _ => n < 128
  | .hiBerClear n => n < 128
  | .blockLockAcquired n => n < 128
  | .blockLockLost n => n < 128
  | .signalLost n => n < 128
  | .rxPolarityInvert n => n < 128
  | .trainBlockRx n _ => n < 128
  | .trainLocked n => n < 128
  | .laneReady n => n < 128
  | .listenLaneReady n => n < 128
  | .trainTimeout n => n < 128
  | .laneRetrain n => n < 128
  | .ctleTrackStep n _ => n < 128
  | .laneCtlWrite n _ => n < 128
  | .laneFfeWrite n _ => n < 128
  | .prbsCtlWrite n _ => n < 128
  | .prbsLockGained n => n < 128
  | .prbsLockLost n => n < 128
  | .injSingle n => n < 128
  | .injBurst n => n < 128
  | .injectionSent n => n < 128
  | .eyeStart n => n < 128
  | .eyePointDone n _ => n < 128
  | .laneCalApply n => n < 128
  | .linkWaitExpiry q => q < 32
  | .stripeAckRx q _ _ => q < 32
  | .stripeReqRx q _ _ _ _ => q < 32
  | .alignRx q _ _ _ _ => q < 32
  | .alignSend q => q < 32
  | .restripeTimeout q => q < 32
  | .triggerSend q _ => q < 32
  | .triggerRx q => q < 32
  | .idleUnitRx q _ => q < 32
  | .unknownCtrlBlockRx q _ => q < 32
  | .frameStartRx q _ => q < 32
  | .frameEndRx q _ => q < 32
  | .lineStartRx q _ => q < 32
  | .lineEndRx q _ => q < 32
  | .pixelPacketRx q _ => q < 32
  | .ringPacketRx q _ => q < 32
  | .ctrlRespRx q _ => q < 32
  | .setAckRx q _ => q < 32
  | .nullPacketRx q _ => q < 32
  | .badPacketRx q _ => q < 32
  | .hostRequestRx q _ => q < 32
  | .ctrlWriteRx q _ => q < 32
  | .ctrlReadRx q _ => q < 32
  | .setTaggedRx q _ => q < 32
  | .ctrlTimeout q _ => q < 32
  | .portStart q => q < 32
  | .portStop q => q < 32
  | .portResetLink q => q < 32
  | .portRediscover q => q < 32
  | .portLaneLost q => q < 32
  | .portLaneReturn q => q < 32
  | .allLanesLost q => q < 32
  | .bcGo q => q < 32
  | .tsGo q => q < 32
  | .streamOutSend q v => q < 32 && v < 4
  | .feApply n => n < 24
  | .feSwitchNext n => n < 24
  | .tabInit n => n < 24
  | .tabInitDone n => n < 24
  | .tabDataWrite n _ => n < 24
  | .feCtlWrite n _ => n < 24
  | .feFrameStart n => n < 24
  | .feLineStart n => n < 24
  | .fePixelPacket n _ => n < 24
  | .feLineEnd n => n < 24
  | .feFrameEnd n => n < 24
  | .lineTimeout n => n < 24
  | .windowWaitTimeout n => n < 24
  | .feLineOut n => n < 24
  | .statRecordWrite n => n < 24
  | .statOutHoldExpiry n q v => n < 24 && q < 32 && v < 4
  | .viewApply v => v < 4
  | .viewSwap v => v < 4
  | .viewCancelSwap v => v < 4
  | .stitchTabLoWrite _ => true
  | .stitchTabHiWrite _ => true
  | .stitchLineIn n _ => n < 24
  | .rowDeadline v _ => v < 4
  | .driftRowIn v => v < 4
  | .driftSeed v => v < 4
  | .driftProbe v => v < 4
  | .driftFreezeEvent v => v < 4
  | .driftCtlWrite v _ => v < 4
  | .hearthRowDeliver t c => t < 64 && c < 4
  | .spillReplayRow t c => t < 64 && c < 4
  | .ctxFrameEntry t c => t < 64 && c < 4
  | .ctxRowEntry t c => t < 64 && c < 4
  | .wdogExpiry t c => t < 64 && c < 4
  | .ctxResume t c => t < 64 && c < 4
  | .ctxContinue t c => t < 64 && c < 4
  | .ctxHalt t c => t < 64 && c < 4
  | .groupApply g => g < 16
  | .swapProg g => g < 16
  | .swapClut g => g < 16
  | .groupCancelSwap g => g < 16
  | .fragmentQueueDrain t => t < 64
  | .classRowRelease v => v < 4
  | .imemWrite t _ i _ => t < 64 && i < 4096
  | .clutWrite t _ i _ => t < 64 && i < 16384
  | .lineStoreWrite t i _ => t < 64 && i < 98304
  | .horizonTimeout v => v < 4
  | .fusionWindowExpiry e => e < 65536
  | .entryRetire e => e < 65536
  | .upstreamFrameRx l _ _ => l < 64
  | .upstreamWindowClose l => l < 64
  | .bctlWrite _ => true
  | .lctlWrite l _ => l < 64
  | .linkResync l => l < 64
  | .hallEdge n h _ _ => n < 24 && h < 8
  | .indexEvent n _ _ _ => n < 24
  | .fbSpeedRefresh n => n < 24
  | .speedTimeout n => n < 24
  | .fbSetPos n => n < 24
  | .armIndex n => n < 24
  | .disarmIndex n => n < 24
  | .fbCtlWrite n _ => n < 24
  | .axisTick a => a < 16
  | .chopUpperReached a _ _ => a < 16
  | .chopLowerReached a _ _ => a < 16
  | .chopDriveStart a _ => a < 16
  | .chopBlankEnd a _ => a < 16
  | .holdDelayExpiry a => a < 16
  | .limitAssert a _ _ _ => a < 16
  | .limitDeassert a _ _ _ => a < 16
  | .push a => a < 16
  | .axStopCmd a => a < 16
  | .estop a => a < 16
  | .home a => a < 16
  | .clrLim a => a < 16
  | .axSetPos a => a < 16
  | .gearOn a => a < 16
  | .gearArm a => a < 16
  | .gearCancel a => a < 16
  | .stallRearm a => a < 16
  | .axGo a => a < 16
  | .axStop a => a < 16
  | .axCtlWrite a _ => a < 16
  | .trainingDone n _ _ _ => n < 6
  | .mcCtlWrite _ => true
  | .evac n => n < 6
  | .evacCancel n => n < 6
  | .chTrain n => n < 6
  | .refill n => n < 6
  | .retire n => n < 6
  | .refreshDue n => n < 6
  | .refreshIssue n => n < 6
  | .channelTempSample n => n < 6
  | .hotZoneExit n => n < 6
  | .devTempWrite n _ => n < 6
  | .devTempStale n => n < 6
  | .memRequest _ _ _ _ _ => true
  | .memCommandIssue n => n < 6
  | .memReadDone n _ _ => n < 6
  | .rowIdleClose n b => n < 6 && b < 16
  | .refreshWindowBoundary n => n < 6
  | .migrateBlock n _ => n < 6
  | .dmaStart c => c < 32
  | .dmaAbort c => c < 32
  | .dmaResume c => c < 32
  | .doorbellRing c => c < 32
  | .dmaChCtlWrite c _ => c < 32
  | .dmaTriggerInput c => c < 32
  | .descFetchDone c => c < 32
  | .dmaElementIssue _ => true
  | .dmaReadData c => c < 32
  | .dmaWriteAck c _ => c < 32
  | .nextReadDone c => c < 32
  | .dmaErrorResponse c dir _ => c < 32 && dir < 4
  | .firnStart e => e < 8
  | .firnAbort e => e < 8
  | .dropCtx e => e < 8
  | .firnEctlWrite e _ => e < 8
  | .jobWrWrite e _ => e < 8
  | .firnJobStart e => e < 8
  | .firnJobEnd e _ => e < 8
  | .firnPacketSend e _ => e < 8
  | .incrNsWrite _ => true
  | .capture i => i < 4
  | .ethLinkStatus _ speed _ => speed < 3
  | .txWrWrite _ => true
  | .rxFrame _ _ _ => true
  | .mdioGo _ => true
  | .mdioDone _ => true
  | .tpArm k => k < 16
  | .tpStop k => k < 16
  | .tpAbort k => k < 16
  | .tpStartInput k => k < 16
  | .tpEdgeCompute k => k < 16
  | .tpLeadingEdge k => k < 16
  | .tpTrailingEdge k => k < 16
  | .channelEventArrive n => n < 256
  | .pendingEventDeliver n => n < 256
  | .chFire i _ => i < 8
  | .swFire i _ => i < 2
  | .evfRouteWrite _ cons i _ => i < (if cons then 128 else 256)
  | .routeLock _ => true
  | .coreCtlWrite _ _ => true
  | .mtimerPending h => h < 8
  | .hartInstruction h act => h < 8 && act.ofHart
  | .guardInstruction g act => g < 2 && act.ofGuard
  | .tvScrub _ => true
  | .toApp _ => true
  | .irqComplete _ t _ => t < 18
  | .sramAccess _ a n _ ecc => 0x08000000 ≤ a && a % 8 + n ≤ 8 && a + n ≤ 0x08800000 && ecc < 3
  | .busAccessUnmapped _ _ => true
  | .registerWrite _ _ _ => true
  | .tctlWrite _ => true
  | .actInChange _ => true
  | .heartbeatRx f => f.ok
  | .heartbeatMiss path => path < 2
  | .pathSilent path => path < 2
  | .decideRx q _ => q == 30 || q == 31
  | .cycleEndRx q _ => q == 30 || q == 31
  | .mirrorAckRx q _ => q == 30 || q == 31
  | .checkRx q _ => q == 30 || q == 31
  | .resyncReqRx q _ => q == 30 || q == 31
  | .userRx q _ => q == 30 || q == 31
  | .tempSample i _ _ => i < 8
  | .calRun d => d < 8
  | .calRunStart _ => true
  | .calStaged _ _ => true
  | .vddCoreWarn _ => true
  | .vddCoreWarnClear _ => true
  | .vddCoreUv _ => true
  | .railLow r => r < 3
  | .railLowClear r => r < 3
  | .aonFeedLow x => x < 2
  | .aonFeedOk x _ _ => x < 2
  | .feedSenseLow x _ => x < 2
  | .feedSenseOk x _ => x < 2
  | .blockStickyClear _ => true
  | .porRelease _ => true
  | .mainResetRelease bootMode => bootMode < 4
  | .rstReq _ => true
  | .bootRomRun _ _ _ _ _ _ => true
  | .islandRomLoad g => g < 2
  | .qspiDone _ _ => true
  | .uartTxPush i => i < 2
  | .uartRxPop i => i < 2
  | .uartFlush i => i < 2
  | .uartByteRx i _ _ _ => i < 2
  | .uartByteSent i => i < 2
  | .iicDone result _ => result < 3
  | .extest _ _ => true
  | .samplePreload _ _ => true
  | .extestPulse _ _ => true
  | .extestTrain _ _ => true
  | .dmi h _ => h < 8
  | .fuseSel _ => true
  | .fuseData _ => true
  | .fuseProg _ _ => true
  | .bypass _ => true
  | .descWriteBackDone c => c < 32
  | .illegalInstruction t c => t < 64 && c < 4
  | .vnop t c => t < 64 && c < 4
  | .vldp t c => t < 64 && c < 4
  | .vldr t c => t < 64 && c < 4
  | .vldf t c => t < 64 && c < 4
  | .vlds t c => t < 64 && c < 4
  | .vsts t c => t < 64 && c < 4
  | .vcls t c => t < 64 && c < 4
  | .vmovi t c => t < 64 && c < 4
  | .vadd t c => t < 64 && c < 4
  | .vsub t c => t < 64 && c < 4
  | .vmul t c => t < 64 && c < 4
  | .vmin t c => t < 64 && c < 4
  | .vmax t c => t < 64 && c < 4
  | .vabsd t c => t < 64 && c < 4
  | .vand t c => t < 64 && c < 4
  | .vor t c => t < 64 && c < 4
  | .vxor t c => t < 64 && c < 4
  | .vshl t c => t < 64 && c < 4
  | .vshr t c => t < 64 && c < 4
  | .vsel t c => t < 64 && c < 4
  | .vcmpeq t c => t < 64 && c < 4
  | .vcmplt t c => t < 64 && c < 4
  | .vcmple t c => t < 64 && c < 4
  | .pand t c => t < 64 && c < 4
  | .por t c => t < 64 && c < 4
  | .pxor t c => t < 64 && c < 4
  | .vqnt t c => t < 64 && c < 4
  | .vins t c => t < 64 && c < 4
  | .vext t c => t < 64 && c < 4
  | .vlut t c => t < 64 && c < 4
  | .vdot4 t c => t < 64 && c < 4
  | .vnar t c => t < 64 && c < 4
  | .vwid t c => t < 64 && c < 4
  | .vrsum t c => t < 64 && c < 4
  | .vrun t c => t < 64 && c < 4
  | .snop t c => t < 64 && c < 4
  | .sli t c => t < 64 && c < 4
  | .slih t c => t < 64 && c < 4
  | .saddi t c => t < 64 && c < 4
  | .sadd t c => t < 64 && c < 4
  | .ssub t c => t < 64 && c < 4
  | .sand t c => t < 64 && c < 4
  | .sor t c => t < 64 && c < 4
  | .sxor t c => t < 64 && c < 4
  | .sshli t c => t < 64 && c < 4
  | .sshri t c => t < 64 && c < 4
  | .ssrai t c => t < 64 && c < 4
  | .smul t c => t < 64 && c < 4
  | .smin t c => t < 64 && c < 4
  | .smax t c => t < 64 && c < 4
  | .sslt t c => t < 64 && c < 4
  | .sget t c => t < 64 && c < 4
  | .slds t c => t < 64 && c < 4
  | .ssts t c => t < 64 && c < 4
  | .spcnt t c => t < 64 && c < 4
  | .bOp t c => t < 64 && c < 4
  | .bz t c => t < 64 && c < 4
  | .bnz t c => t < 64 && c < 4
  | .blt t c => t < 64 && c < 4
  | .endOp t c => t < 64 && c < 4
  | .brk t c => t < 64 && c < 4
  | .lrow t c => t < 64 && c < 4
  | .lclosed t c => t < 64 && c < 4
  | .lget t c => t < 64 && c < 4
  | .lset t c => t < 64 && c < 4
  | .femit t c => t < 64 && c < 4
  | .ldrop t c => t < 64 && c < 4
  | .rootPllLoss => true
  | .fragmentIn => true
  | .rowMarkIn => true
  | .objectDecide => true
  | .defectPktFlush => true
  | .moraineApply => true
  | .swapRules => true
  | .swapFt => true
  | .moraineClear => true
  | .actionAccept => true
  | .slotAssemble => true
  | .downstreamFrameSend => true
  | .actionRetire => true
  | .arm => true
  | .disarm => true
  | .kick => true
  | .testAct => true
  | .testActionCheck => true
  | .bellowsClear => true
  | .bellowsWdogExpiry => true
  | .bellowsDisarmInput => true
  | .mcInit => true
  | .applyTable => true
  | .ptpLatch => true
  | .ptpStep => true
  | .ptpSlew => true
  | .ptpSet => true
  | .invalidate => true
  | .slewStop => true
  | .slewStep => true
  | .alarm => true
  | .second => true
  | .txFrameStart => true
  | .txFrameDone => true
  | .tpHalt => true
  | .warnBellows => true
  | .warnAxes => true
  | .snapGo => true
  | .snapInput => true
  | .snapshotTaken => true
  | .toG0 => true
  | .toG1 => true
  | .claim => true
  | .claimWindowExpiry => true
  | .join => true
  | .handover => true
  | .twinResync => true
  | .userSend => true
  | .heartbeatSend => true
  | .partnerSilent => true
  | .muxSettleExpiry => true
  | .cycleEndSend => true
  | .mirrorAckTimeout => true
  | .matchWaitExpiry => true
  | .checkBlockTimeout => true
  | .vddSramUv => true
  | .mainSupplyRelease => true
  | .bothAonFeedsLost => true
  | .errlogClear => true
  | .porAssert => true
  | .resetNAssert => true
  | .resetNRelease => true
  | .debugReset => true
  | .qspiGo => true
  | .iicGo => true
  | .iicTimeout => true
  | .idcode => true
  | .highz => true
  | .clamp => true
  | .dtmcs => true

end Sys2Proof
end

