-- ==== Sys2Proof/Certificates/Slice0/Obligations.lean ====
section
/-! DEFINITION. The statements for the provers. Where one rests on a choice of the model, its docstring names the log entry. -/

open Sys2Proof Sys2Proof.Machine

/-- A step takes the command at the front of the queue and runs it on the state with the rest of the queue (log 1) (R12). -/
def Obligations.StepRunsTheFrontCommand : Prop :=
  ∀ (c : Instr) (rest : List Instr) (s : State),
    step { s with pending := c :: rest } = exec c { s with pending := rest }

/-- On an empty queue a step is one CLK_TIME cycle: network time advances by the increment in use, MTIME by 1, and the lanes
send (the model's choice, log 2) (R36, R338, R367, R433). -/
def Obligations.IdleStepIsOneTickOfNetworkTime : Prop :=
  ∀ s : State, s.pending = [] →
    ∃ t, step s = .next t ∧
      t = { s with cyc := s.cyc + 1, time := t.time, regs := t.regs, lanes := t.lanes, quads := t.quads, ports := t.ports,
                   outbox := t.outbox } ∧
      (∀ a, (∀ n, a ≠ R.LANE_PRBS_ERR n ∧ a ≠ R.LANE_PRBS_MBITS n) → t.rd a = s.rd a) ∧
      (s.mainReset = true → t = { s with cyc := s.cyc + 1 }) ∧
      (s.mainReset = false → t.time.mtime = s.time.mtime + 1) ∧
      (s.mainReset = false → s.rd R.PTP_SLEW_LEFT = 0 → t.time.nt = s.time.nt + s.time.incr) ∧
      (s.mainReset = false → (∀ e ∈ s.quads, s.on (R.LANE_QUAD_STAT e.1) F.LANE_QUAD_STAT_PLL_LOCK = false) →
        t = { s with cyc := s.cyc + 1, time := t.time })

/-- After reset the registers hold the values that their maps state (R392, R434, R391, R364, R431, R357). -/
def Obligations.ResetLeavesTheStatedRegisterValues : Prop :=
  State.reset.rd R.SYS_SYS_ID = 0x00b10009 ∧ State.reset.rd R.SYS_CORE_CTL = 1 ∧ State.reset.rd R.GUARD_GCTL = 3 ∧
    State.reset.rd R.EVF_FX_CTL = 5 ∧ (∀ n, n < 256 → State.reset.rd (R.EVF_CH_CTL n) = 0x00100000) ∧
    State.reset.rd R.TWIN_TCTL = 0x00200a00 ∧ State.reset.rd R.SUP_SCTL = 0x405 ∧ State.reset.rd R.CAL_CCTL = 0x00ff0801 ∧
    State.reset.rd R.PTP_INCR_NS = 8 ∧ State.reset.rd R.PTP_STEP_MAX = 1000 ∧ State.reset.rd R.QSPI_QCTL = 3 ∧
    (∀ i, i < 2 → State.reset.rd (R.UART_UCTL i) = 0x6c) ∧ State.reset.rd R.SUP_RESET_CAUSE = 0x80 ∧
    State.reset.rd R.GUARD_GSTAT = 0x6f ∧ State.reset.rd R.PTP_PSTAT = 0 ∧ (∀ i, i < 40 → State.reset.rd (R.IRQC_PEND i) = 0) ∧
    State.reset.pending = []

/-- A command that names a unit the EG9 does not have never answers a next state (R12, R15). -/
def Obligations.CommandsNamingAbsentUnitsAreRefused : Prop :=
  ∀ (c : Instr) (s : State), c.wf = false → exec c s = .refused .noSuchUnit ∨ exec c s = .fault .outsideManual

/-- While the main domain is in reset no command of the main domain changes anything (R433, R387). -/
def Obligations.MainDomainCommandsAreInertInReset : Prop :=
  ∀ (c : Instr) (s : State), c.mainDomain = true → c.wf = true → s.mainReset = true →
    exec c s = .next s ∨ exec c s = .fault .outsideManual

/-- No command reaches the queue of waiting commands or the model's clock (log 2, log 47) (R12). -/
def Obligations.CommandsLeaveQueueAndClockAlone : Prop :=
  ∀ (c : Instr) (s t : State), exec c s = .next t → t.pending = s.pending ∧ t.cyc = s.cyc

/-- At every step a blown fuse bit stays blown, and no command but FUSE_PROG changes the fuse array (R436, R474). -/
def Obligations.BlownFusesStayBlown : Prop :=
  ∀ s t : State, step s = .next t →
    (∀ w b, fuseBlown s w b = true → fuseBlown t w b = true) ∧
    (t.fuses ≠ s.fuses → ∃ mv temp rest, s.pending = .fuseProg mv temp :: rest ∧ s.jtagDis = false ∧
      1710 ≤ mv ∧ mv ≤ 1890 ∧ 0 ≤ temp ∧ temp ≤ 85 ∧ ∀ w b, w ≠ s.fuseSel → fuseBlown t w b = fuseBlown s w b)

/-- No step but one of guardian core g itself, its ROM load, or a power-on reset changes the private memory of core g (R369,
R441, R434). -/
def Obligations.GuardianMemoryIsReachedByItsCoreOnly : Prop :=
  ∀ s t : State, step s = .next t → ∀ a, guardByteAt t a ≠ guardByteAt s a →
    ∃ c rest, s.pending = c :: rest ∧
      (c = .porAssert ∨ c = .bothAonFeedsLost ∨ (∃ act, c = .guardInstruction (a / 65536) act) ∨ c = .islandRomLoad (a / 65536))

/-- At every step: while the island is held in power-on reset, the main domain is in reset (R433, R434). -/
def Obligations.PowerOnResetHoldsTheMainDomain : Prop :=
  ∀ s t : State, porHoldsMain s → step s = .next t → porHoldsMain t

/-- The state after reset keeps the main domain in reset while the island is held in power-on reset (R433, R434). -/
def Obligations.PowerOnInvariantHoldsAtReset : Prop :=
  porHoldsMain State.reset

/-- Every command of lanes and quads completes with the effect of its meaning, which the rules in its docstring give, and the fields that no
command of its kind reaches stay as they are: on every unit that exists, whatever the state, while its domain is out of reset. -/
def Obligations.EveryLaneCommandCompletes : Prop :=
  ∀ s : State,
  (s.mainReset = false →
    (∀ (q : Nat), q < 32 → exec (.quadApply q) s = .next ((quadApply q s).keepIsland s)) ∧
    (∀ (q : Nat), q < 32 → exec (.quadRetrain q) s = .next ((quadRetrain q s).keepIsland s)) ∧
    (∀ (q : Nat), q < 32 → exec (.quadPllLock q) s = .next ((quadPllLock q s).keepIsland s)) ∧
    (∀ (q : Nat), q < 32 → exec (.quadPllUnlock q) s = .next ((quadPllUnlock q s).keepIsland s)) ∧
    (∀ (b : Bool), exec (.refclkLoss b) s = .next ((refclkLoss b s).keepIsland s)) ∧
    (∀ (n : Nat) (ctle : Nat), n < 128 → ctle < 16 → exec (.acquireDone n ctle) s = .next ((acquireDone n ctle s).keepIsland s)) ∧
    (∀ (n : Nat) (hdr : BitVec 2) (payload : BitVec 64), n < 128 → exec (.laneBlockRx n hdr payload) s = .next ((linkBlockRx n hdr payload s).keepIsland s)) ∧
    (∀ (n : Nat), n < 128 → exec (.hiBerClear n) s = .next ((hiBerClear n s).keepIsland s)) ∧
    (∀ (n : Nat), n < 128 → exec (.blockLockAcquired n) s = .next ((blockLockAcquired n s).keepIsland s)) ∧
    (∀ (n : Nat), n < 128 → exec (.blockLockLost n) s = .next ((blockLockLost n s).keepIsland s)) ∧
    (∀ (n : Nat), n < 128 → exec (.signalLost n) s = .next ((signalLost n s).keepIsland s)) ∧
    (∀ (n : Nat), n < 128 → exec (.rxPolarityInvert n) s = .next ((rxPolarityInvert n s).keepIsland s)) ∧
    (∀ (n : Nat) (payload : BitVec 64), n < 128 → exec (.trainBlockRx n payload) s = .next ((trainBlockRx n payload s).keepIsland s)) ∧
    (∀ (n : Nat), n < 128 → exec (.trainLocked n) s = .next ((trainLocked n s).keepIsland s)) ∧
    (∀ (n : Nat), n < 128 → exec (.laneReady n) s = .next ((laneReady n s).keepIsland s)) ∧
    (∀ (n : Nat), n < 128 → exec (.listenLaneReady n) s = .next ((listenLaneReady n s).keepIsland s)) ∧
    (∀ (n : Nat), n < 128 → exec (.trainTimeout n) s = .next ((trainTimeout n s).keepIsland s)) ∧
    (∀ (n : Nat), n < 128 → exec (.laneRetrain n) s = .next ((laneRetrain n s).keepIsland s)) ∧
    (∀ (n : Nat) (up : Bool), n < 128 → exec (.ctleTrackStep n up) s = .next ((ctleTrackStep n up s).keepIsland s)) ∧
    (∀ (n : Nat) (v : BitVec 32), n < 128 → (F.LANE_LANE_CTL_LOOPBACK.get v != 3) = true → exec (.laneCtlWrite n v) s = .next ((laneCtlWrite n v s).keepIsland s)) ∧
    (∀ (n : Nat) (v : BitVec 32), n < 128 → exec (.laneFfeWrite n v) s = .next ((laneFfeWrite n v s).keepIsland s)) ∧
    (∀ (n : Nat) (v : BitVec 32), n < 128 → (F.LANE_PRBS_CTL_GEN_POLY.get v != 3 && F.LANE_PRBS_CTL_CHK_POLY.get v != 3) = true → exec (.prbsCtlWrite n v) s = .next ((prbsCtlWrite n v s).keepIsland s)) ∧
    (∀ (n : Nat), n < 128 → exec (.prbsLockGained n) s = .next ((prbsLockGained n s).keepIsland s)) ∧
    (∀ (n : Nat), n < 128 → exec (.prbsLockLost n) s = .next ((prbsLockLost n s).keepIsland s)) ∧
    (∀ (n : Nat), n < 128 → exec (.injSingle n) s = .next ((injSingle n s).keepIsland s)) ∧
    (∀ (n : Nat), n < 128 → exec (.injBurst n) s = .next ((injBurst n s).keepIsland s)) ∧
    (∀ (n : Nat), n < 128 → exec (.injectionSent n) s = .next ((injectionSent n s).keepIsland s)) ∧
    (∀ (n : Nat), n < 128 → exec (.eyeStart n) s = .next ((eyeStart n s).keepIsland s)) ∧
    (∀ (n : Nat) (errs : BitVec 32), n < 128 → exec (.eyePointDone n errs) s = .next ((eyePointDone n errs s).keepIsland s)) ∧
    (∀ (n : Nat), n < 128 → exec (.laneCalApply n) s = .next ((laneCalApply n s).keepIsland s))) ∧
  (s.inPor = false →
    (exec (.rootPllLoss) s = .next ((rootPllLoss s).keepGuard s)))

/-- Every command of Aelore ports completes with the effect of its meaning, which the rules in its docstring give, and the fields that no
command of its kind reaches stay as they are: on every unit that exists, whatever the state, while its domain is out of reset. -/
def Obligations.EveryPortCommandCompletes : Prop :=
  ∀ s : State,
  (s.mainReset = false →
    (∀ (q : Nat), q < 32 → exec (.linkWaitExpiry q) s = .next ((linkWaitExpiry q s).keepIsland s)) ∧
    (∀ (q : Nat) (mask : Nat) (skewNs : Nat), q < 32 → exec (.stripeAckRx q mask skewNs) s = .next ((stripeAckRx q mask skewNs s).keepIsland s)) ∧
    (∀ (q : Nat) (mask : Nat) (seq : Nat) (atFrame : Bool) (skewNs : Nat), q < 32 → exec (.stripeReqRx q mask seq atFrame skewNs) s = .next ((stripeReqRx q mask seq atFrame skewNs s).keepIsland s)) ∧
    (∀ (q : Nat) (mask : Nat) (seq : Nat) (logs : List Nat) (skewNs : Nat), q < 32 → exec (.alignRx q mask seq logs skewNs) s = .next ((alignRx q mask seq logs skewNs s).keepIsland s)) ∧
    (∀ (q : Nat), q < 32 → exec (.alignSend q) s = .next ((alignSend q s).keepIsland s)) ∧
    (∀ (q : Nat), q < 32 → exec (.restripeTimeout q) s = .next ((restripeTimeout q s).keepIsland s)) ∧
    (∀ (q : Nat) (offset : Nat), q < 32 → exec (.triggerSend q offset) s = .next ((triggerSend q offset s).keepIsland s)) ∧
    (∀ (q : Nat), q < 32 → exec (.triggerRx q) s = .next ((triggerRx q s).keepIsland s)) ∧
    (∀ (q : Nat) (part : Option Pkt), q < 32 → exec (.idleUnitRx q part) s = .next ((idleUnitRx q part s).keepIsland s)) ∧
    (∀ (q : Nat) (type : BitVec 8), q < 32 → exec (.unknownCtrlBlockRx q type) s = .next ((unknownCtrlBlockRx q type s).keepIsland s)) ∧
    (∀ (q : Nat) (p : Pkt), q < 32 → exec (.frameStartRx q p) s = .next ((frameStartRx q p s).keepIsland s)) ∧
    (∀ (q : Nat) (p : Pkt), q < 32 → exec (.frameEndRx q p) s = .next ((frameEndRx q p s).keepIsland s)) ∧
    (∀ (q : Nat) (p : Pkt), q < 32 → exec (.lineStartRx q p) s = .next ((lineStartRx q p s).keepIsland s)) ∧
    (∀ (q : Nat) (p : Pkt), q < 32 → exec (.lineEndRx q p) s = .next ((lineEndRx q p s).keepIsland s)) ∧
    (∀ (q : Nat) (p : Pkt), q < 32 → exec (.pixelPacketRx q p) s = .next ((pixelPacketRx q p s).keepIsland s)) ∧
    (∀ (q : Nat) (p : Pkt), q < 32 → exec (.ringPacketRx q p) s = .next ((ringPacketRx q p s).keepIsland s)) ∧
    (∀ (q : Nat) (p : Pkt), q < 32 → exec (.ctrlRespRx q p) s = .next ((ctrlRespRx q p s).keepIsland s)) ∧
    (∀ (q : Nat) (p : Pkt), q < 32 → exec (.setAckRx q p) s = .next ((setAckRx q p s).keepIsland s)) ∧
    (∀ (q : Nat) (p : Pkt), q < 32 → exec (.nullPacketRx q p) s = .next ((nullPacketRx q p s).keepIsland s)) ∧
    (∀ (q : Nat) (p : Pkt), q < 32 → exec (.badPacketRx q p) s = .next ((badPacketRx q p s).keepIsland s)) ∧
    (∀ (q : Nat) (p : Pkt), q < 32 → exec (.hostRequestRx q p) s = .next ((hostRequestRx q p s).keepIsland s)) ∧
    (∀ (q : Nat) (p : Pkt), q < 32 → exec (.ctrlWriteRx q p) s = .next ((ctrlWriteRx q p s).keepIsland s)) ∧
    (∀ (q : Nat) (p : Pkt), q < 32 → exec (.ctrlReadRx q p) s = .next ((ctrlReadRx q p s).keepIsland s)) ∧
    (∀ (q : Nat) (p : Pkt), q < 32 → exec (.setTaggedRx q p) s = .next ((setTaggedRx q p s).keepIsland s)) ∧
    (∀ (q : Nat) (desc : Bool), q < 32 → exec (.ctrlTimeout q desc) s = .next ((ctrlTimeout q desc s).keepIsland s)) ∧
    (∀ (q : Nat), q < 32 → exec (.portStart q) s = .next ((portStart q s).keepIsland s)) ∧
    (∀ (q : Nat), q < 32 → exec (.portStop q) s = .next ((portStop q s).keepIsland s)) ∧
    (∀ (q : Nat), q < 32 → exec (.portResetLink q) s = .next ((portResetLink q s).keepIsland s)) ∧
    (∀ (q : Nat), q < 32 → exec (.portRediscover q) s = .next ((portRediscover q s).keepIsland s)) ∧
    (∀ (q : Nat), q < 32 → exec (.portLaneLost q) s = .next ((portLaneLost q s).keepIsland s)) ∧
    (∀ (q : Nat), q < 32 → exec (.portLaneReturn q) s = .next ((portLaneReturn q s).keepIsland s)) ∧
    (∀ (q : Nat), q < 32 → exec (.allLanesLost q) s = .next ((allLanesLost q s).keepIsland s)) ∧
    (∀ (q : Nat), q < 32 → exec (.bcGo q) s = .next ((bcGo q s).keepIsland s)) ∧
    (∀ (q : Nat), q < 32 → exec (.tsGo q) s = .next ((tsGo q s).keepIsland s)) ∧
    (∀ (q : Nat) (v : Nat), q < 32 → v < 4 → exec (.streamOutSend q v) s = .next ((streamOutSend q v s).keepIsland s)))

/-- Every command of line front ends completes with the effect of its meaning, which the rules in its docstring give, and the fields that no
command of its kind reaches stay as they are: on every unit that exists, whatever the state, while its domain is out of reset. -/
def Obligations.EveryFrontEndCommandCompletes : Prop :=
  ∀ s : State,
  (s.mainReset = false →
    (∀ (n : Nat), n < 24 → exec (.feApply n) s = .next ((feApply n s).keepIsland s)) ∧
    (∀ (n : Nat), n < 24 → exec (.feSwitchNext n) s = .next ((feSwitchNext n s).keepIsland s)) ∧
    (∀ (n : Nat), n < 24 → exec (.tabInit n) s = .next ((tabInit n s).keepIsland s)) ∧
    (∀ (n : Nat), n < 24 → exec (.tabInitDone n) s = .next ((tabInitDone n s).keepIsland s)) ∧
    (∀ (n : Nat) (v : BitVec 32), n < 24 → exec (.tabDataWrite n v) s = .next ((tabDataWrite n v s).keepIsland s)) ∧
    (∀ (n : Nat) (v : BitVec 32), n < 24 → exec (.feCtlWrite n v) s = .next ((feCtlWrite n v s).keepIsland s)) ∧
    (∀ (n : Nat), n < 24 → exec (.feFrameStart n) s = .next ((feFrameStart n s).keepIsland s)) ∧
    (∀ (n : Nat), n < 24 → exec (.feLineStart n) s = .next ((feLineStart n s).keepIsland s)) ∧
    (∀ (n : Nat) (count : Nat), n < 24 → exec (.fePixelPacket n count) s = .next ((fePixelPacket n count s).keepIsland s)) ∧
    (∀ (n : Nat), n < 24 → exec (.feLineEnd n) s = .next ((feLineEnd n s).keepIsland s)) ∧
    (∀ (n : Nat), n < 24 → exec (.feFrameEnd n) s = .next ((feFrameEnd n s).keepIsland s)) ∧
    (∀ (n : Nat), n < 24 → exec (.lineTimeout n) s = .next ((lineTimeout n s).keepIsland s)) ∧
    (∀ (n : Nat), n < 24 → exec (.windowWaitTimeout n) s = .next ((windowWaitTimeout n s).keepIsland s)) ∧
    (∀ (n : Nat), n < 24 → exec (.feLineOut n) s = .next ((feLineOut n s).keepIsland s)) ∧
    (∀ (n : Nat), n < 24 → exec (.statRecordWrite n) s = .next ((statRecordWrite n s).keepIsland s)) ∧
    (∀ (n : Nat) (q : Nat) (v : Nat), n < 24 → q < 32 → v < 4 → exec (.statOutHoldExpiry n q v) s = .next ((statOutHoldExpiry n q v s).keepIsland s)))

/-- Every command of Stitch and Drift completes with the effect of its meaning, which the rules in its docstring give, and the fields that no
command of its kind reaches stay as they are: on every unit that exists, whatever the state, while its domain is out of reset. -/
def Obligations.EveryStitchCommandCompletes : Prop :=
  ∀ s : State,
  (s.mainReset = false →
    (∀ (v : Nat), v < 4 → exec (.viewApply v) s = .next ((viewApply v s).keepIsland s)) ∧
    (∀ (v : Nat), v < 4 → exec (.viewSwap v) s = .next ((viewSwap v s).keepIsland s)) ∧
    (∀ (v : Nat), v < 4 → exec (.viewCancelSwap v) s = .next ((viewCancelSwap v s).keepIsland s)) ∧
    (∀ (v : BitVec 32), exec (.stitchTabLoWrite v) s = .next ((stitchTabLoWrite v s).keepIsland s)) ∧
    (∀ (v : BitVec 32), exec (.stitchTabHiWrite v) s = .next ((stitchTabHiWrite v s).keepIsland s)) ∧
    (∀ (n : Nat) (stalls : Nat), n < 24 → exec (.stitchLineIn n stalls) s = .next ((stitchLineIn n stalls s).keepIsland s)) ∧
    (∀ (v : Nat) (stalls : Nat), v < 4 → exec (.rowDeadline v stalls) s = .next ((rowDeadline v stalls s).keepIsland s)) ∧
    (∀ (v : Nat), v < 4 → exec (.driftRowIn v) s = .next ((driftRowIn v s).keepIsland s)) ∧
    (∀ (v : Nat), v < 4 → exec (.driftSeed v) s = .next ((driftSeed v s).keepIsland s)) ∧
    (∀ (v : Nat), v < 4 → exec (.driftProbe v) s = .next ((driftProbe v s).keepIsland s)) ∧
    (∀ (v : Nat), v < 4 → exec (.driftFreezeEvent v) s = .next ((driftFreezeEvent v s).keepIsland s)) ∧
    (∀ (v : Nat) (x : BitVec 32), v < 4 → exec (.driftCtlWrite v x) s = .next ((driftCtlWrite v x s).keepIsland s)))

/-- Every command of the Hearth array completes with the effect of its meaning, which the rules in its docstring give, and the fields that no
command of its kind reaches stay as they are: on every unit that exists, whatever the state, while its domain is out of reset. -/
def Obligations.EveryHearthCommandCompletes : Prop :=
  ∀ s : State,
  (s.mainReset = false →
    (∀ (t : Nat) (c : Nat), t < 64 → c < 4 → exec (.hearthRowDeliver t c) s = .next ((hearthRowDeliver t c s).keepIsland s)) ∧
    (∀ (t : Nat) (c : Nat), t < 64 → c < 4 → exec (.spillReplayRow t c) s = .next ((spillReplayRow t c s).keepIsland s)) ∧
    (∀ (t : Nat) (c : Nat), t < 64 → c < 4 → exec (.ctxFrameEntry t c) s = .next ((ctxFrameEntry t c s).keepIsland s)) ∧
    (∀ (t : Nat) (c : Nat), t < 64 → c < 4 → exec (.ctxRowEntry t c) s = .next ((ctxRowEntry t c s).keepIsland s)) ∧
    (∀ (t : Nat) (c : Nat), t < 64 → c < 4 → exec (.wdogExpiry t c) s = .next ((wdogExpiry t c s).keepIsland s)) ∧
    (∀ (t : Nat) (c : Nat), t < 64 → c < 4 → exec (.ctxResume t c) s = .next ((ctxResume t c s).keepIsland s)) ∧
    (∀ (t : Nat) (c : Nat), t < 64 → c < 4 → exec (.ctxContinue t c) s = .next ((ctxContinue t c s).keepIsland s)) ∧
    (∀ (t : Nat) (c : Nat), t < 64 → c < 4 → exec (.ctxHalt t c) s = .next ((ctxHalt t c s).keepIsland s)) ∧
    (∀ (g : Nat), g < 16 → exec (.groupApply g) s = .next ((groupApply g s).keepIsland s)) ∧
    (∀ (g : Nat), g < 16 → exec (.swapProg g) s = .next ((swapProg g s).keepIsland s)) ∧
    (∀ (g : Nat), g < 16 → exec (.swapClut g) s = .next ((swapClut g s).keepIsland s)) ∧
    (∀ (g : Nat), g < 16 → exec (.groupCancelSwap g) s = .next ((groupCancelSwap g s).keepIsland s)) ∧
    (∀ (t : Nat), t < 64 → exec (.fragmentQueueDrain t) s = .next ((fragmentQueueDrain t s).keepIsland s)) ∧
    (∀ (v : Nat), v < 4 → exec (.classRowRelease v) s = .next ((classRowRelease v s).keepIsland s)) ∧
    (∀ (t : Nat) (bc : Bool) (i : Nat) (w : BitVec 32), t < 64 → i < 4096 → exec (.imemWrite t bc i w) s = .next ((imemWrite t bc i w s).keepIsland s)) ∧
    (∀ (t : Nat) (bc : Bool) (i : Nat) (w : BitVec 32), t < 64 → i < 16384 → exec (.clutWrite t bc i w) s = .next ((clutWrite t bc i w s).keepIsland s)) ∧
    (∀ (t : Nat) (i : Nat) (w : BitVec 32), t < 64 → i < 98304 → exec (.lineStoreWrite t i w) s = .next ((lineStoreWrite t i w s).keepIsland s)))

/-- Every command of Hearth instructions completes with the effect of its meaning, which the rules in its docstring give, and the fields that no
command of its kind reaches stay as they are: on every unit that exists, whatever the state, while its domain is out of reset. -/
def Obligations.EveryHearthInstructionCommandCompletes : Prop :=
  ∀ s : State,
  (s.mainReset = false →
    (∀ (t : Nat) (c : Nat), t < 64 → c < 4 → exec (.illegalInstruction t c) s = .next ((illegalInstruction t c s).keepIsland s)) ∧
    (∀ (t : Nat) (c : Nat), t < 64 → c < 4 → exec (.vnop t c) s = .next ((vnop t c s).keepIsland s)) ∧
    (∀ (t : Nat) (c : Nat), t < 64 → c < 4 → exec (.vldp t c) s = .next ((vldp t c s).keepIsland s)) ∧
    (∀ (t : Nat) (c : Nat), t < 64 → c < 4 → exec (.vldr t c) s = .next ((vldr t c s).keepIsland s)) ∧
    (∀ (t : Nat) (c : Nat), t < 64 → c < 4 → exec (.vldf t c) s = .next ((vldf t c s).keepIsland s)) ∧
    (∀ (t : Nat) (c : Nat), t < 64 → c < 4 → exec (.vlds t c) s = .next ((vlds t c s).keepIsland s)) ∧
    (∀ (t : Nat) (c : Nat), t < 64 → c < 4 → exec (.vsts t c) s = .next ((vsts t c s).keepIsland s)) ∧
    (∀ (t : Nat) (c : Nat), t < 64 → c < 4 → exec (.vcls t c) s = .next ((vcls t c s).keepIsland s)) ∧
    (∀ (t : Nat) (c : Nat), t < 64 → c < 4 → exec (.vmovi t c) s = .next ((vmovi t c s).keepIsland s)) ∧
    (∀ (t : Nat) (c : Nat), t < 64 → c < 4 → exec (.vadd t c) s = .next ((vadd t c s).keepIsland s)) ∧
    (∀ (t : Nat) (c : Nat), t < 64 → c < 4 → exec (.vsub t c) s = .next ((vsub t c s).keepIsland s)) ∧
    (∀ (t : Nat) (c : Nat), t < 64 → c < 4 → exec (.vmul t c) s = .next ((vmul t c s).keepIsland s)) ∧
    (∀ (t : Nat) (c : Nat), t < 64 → c < 4 → exec (.vmin t c) s = .next ((vmin t c s).keepIsland s)) ∧
    (∀ (t : Nat) (c : Nat), t < 64 → c < 4 → exec (.vmax t c) s = .next ((vmax t c s).keepIsland s)) ∧
    (∀ (t : Nat) (c : Nat), t < 64 → c < 4 → exec (.vabsd t c) s = .next ((vabsd t c s).keepIsland s)) ∧
    (∀ (t : Nat) (c : Nat), t < 64 → c < 4 → exec (.vand t c) s = .next ((vand t c s).keepIsland s)) ∧
    (∀ (t : Nat) (c : Nat), t < 64 → c < 4 → exec (.vor t c) s = .next ((vor t c s).keepIsland s)) ∧
    (∀ (t : Nat) (c : Nat), t < 64 → c < 4 → exec (.vxor t c) s = .next ((vxor t c s).keepIsland s)) ∧
    (∀ (t : Nat) (c : Nat), t < 64 → c < 4 → exec (.vshl t c) s = .next ((vshl t c s).keepIsland s)) ∧
    (∀ (t : Nat) (c : Nat), t < 64 → c < 4 → exec (.vshr t c) s = .next ((vshr t c s).keepIsland s)) ∧
    (∀ (t : Nat) (c : Nat), t < 64 → c < 4 → exec (.vsel t c) s = .next ((vsel t c s).keepIsland s)) ∧
    (∀ (t : Nat) (c : Nat), t < 64 → c < 4 → exec (.vcmpeq t c) s = .next ((vcmpeq t c s).keepIsland s)) ∧
    (∀ (t : Nat) (c : Nat), t < 64 → c < 4 → exec (.vcmplt t c) s = .next ((vcmplt t c s).keepIsland s)) ∧
    (∀ (t : Nat) (c : Nat), t < 64 → c < 4 → exec (.vcmple t c) s = .next ((vcmple t c s).keepIsland s)) ∧
    (∀ (t : Nat) (c : Nat), t < 64 → c < 4 → exec (.pand t c) s = .next ((pand t c s).keepIsland s)) ∧
    (∀ (t : Nat) (c : Nat), t < 64 → c < 4 → exec (.por t c) s = .next ((por t c s).keepIsland s)) ∧
    (∀ (t : Nat) (c : Nat), t < 64 → c < 4 → exec (.pxor t c) s = .next ((pxor t c s).keepIsland s)) ∧
    (∀ (t : Nat) (c : Nat), t < 64 → c < 4 → exec (.vqnt t c) s = .next ((vqnt t c s).keepIsland s)) ∧
    (∀ (t : Nat) (c : Nat), t < 64 → c < 4 → exec (.vins t c) s = .next ((vins t c s).keepIsland s)) ∧
    (∀ (t : Nat) (c : Nat), t < 64 → c < 4 → exec (.vext t c) s = .next ((vext t c s).keepIsland s)) ∧
    (∀ (t : Nat) (c : Nat), t < 64 → c < 4 → exec (.vlut t c) s = .next ((vlut t c s).keepIsland s)) ∧
    (∀ (t : Nat) (c : Nat), t < 64 → c < 4 → exec (.vdot4 t c) s = .next ((vdot4 t c s).keepIsland s)) ∧
    (∀ (t : Nat) (c : Nat), t < 64 → c < 4 → exec (.vnar t c) s = .next ((vnar t c s).keepIsland s)) ∧
    (∀ (t : Nat) (c : Nat), t < 64 → c < 4 → exec (.vwid t c) s = .next ((vwid t c s).keepIsland s)) ∧
    (∀ (t : Nat) (c : Nat), t < 64 → c < 4 → exec (.vrsum t c) s = .next ((vrsum t c s).keepIsland s)) ∧
    (∀ (t : Nat) (c : Nat), t < 64 → c < 4 → exec (.vrun t c) s = .next ((vrun t c s).keepIsland s)) ∧
    (∀ (t : Nat) (c : Nat), t < 64 → c < 4 → exec (.snop t c) s = .next ((snop t c s).keepIsland s)) ∧
    (∀ (t : Nat) (c : Nat), t < 64 → c < 4 → exec (.sli t c) s = .next ((sli t c s).keepIsland s)) ∧
    (∀ (t : Nat) (c : Nat), t < 64 → c < 4 → exec (.slih t c) s = .next ((slih t c s).keepIsland s)) ∧
    (∀ (t : Nat) (c : Nat), t < 64 → c < 4 → exec (.saddi t c) s = .next ((saddi t c s).keepIsland s)) ∧
    (∀ (t : Nat) (c : Nat), t < 64 → c < 4 → exec (.sadd t c) s = .next ((sadd t c s).keepIsland s)) ∧
    (∀ (t : Nat) (c : Nat), t < 64 → c < 4 → exec (.ssub t c) s = .next ((ssub t c s).keepIsland s)) ∧
    (∀ (t : Nat) (c : Nat), t < 64 → c < 4 → exec (.sand t c) s = .next ((sand t c s).keepIsland s)) ∧
    (∀ (t : Nat) (c : Nat), t < 64 → c < 4 → exec (.sor t c) s = .next ((sor t c s).keepIsland s)) ∧
    (∀ (t : Nat) (c : Nat), t < 64 → c < 4 → exec (.sxor t c) s = .next ((sxor t c s).keepIsland s)) ∧
    (∀ (t : Nat) (c : Nat), t < 64 → c < 4 → exec (.sshli t c) s = .next ((sshli t c s).keepIsland s)) ∧
    (∀ (t : Nat) (c : Nat), t < 64 → c < 4 → exec (.sshri t c) s = .next ((sshri t c s).keepIsland s)) ∧
    (∀ (t : Nat) (c : Nat), t < 64 → c < 4 → exec (.ssrai t c) s = .next ((ssrai t c s).keepIsland s)) ∧
    (∀ (t : Nat) (c : Nat), t < 64 → c < 4 → exec (.smul t c) s = .next ((smul t c s).keepIsland s)) ∧
    (∀ (t : Nat) (c : Nat), t < 64 → c < 4 → exec (.smin t c) s = .next ((smin t c s).keepIsland s)) ∧
    (∀ (t : Nat) (c : Nat), t < 64 → c < 4 → exec (.smax t c) s = .next ((smax t c s).keepIsland s)) ∧
    (∀ (t : Nat) (c : Nat), t < 64 → c < 4 → exec (.sslt t c) s = .next ((sslt t c s).keepIsland s)) ∧
    (∀ (t : Nat) (c : Nat), t < 64 → c < 4 → exec (.sget t c) s = .next ((sget t c s).keepIsland s)) ∧
    (∀ (t : Nat) (c : Nat), t < 64 → c < 4 → exec (.slds t c) s = .next ((slds t c s).keepIsland s)) ∧
    (∀ (t : Nat) (c : Nat), t < 64 → c < 4 → exec (.ssts t c) s = .next ((ssts t c s).keepIsland s)) ∧
    (∀ (t : Nat) (c : Nat), t < 64 → c < 4 → exec (.spcnt t c) s = .next ((spcnt t c s).keepIsland s)) ∧
    (∀ (t : Nat) (c : Nat), t < 64 → c < 4 → exec (.bOp t c) s = .next ((bOp t c s).keepIsland s)) ∧
    (∀ (t : Nat) (c : Nat), t < 64 → c < 4 → exec (.bz t c) s = .next ((bz t c s).keepIsland s)) ∧
    (∀ (t : Nat) (c : Nat), t < 64 → c < 4 → exec (.bnz t c) s = .next ((bnz t c s).keepIsland s)) ∧
    (∀ (t : Nat) (c : Nat), t < 64 → c < 4 → exec (.blt t c) s = .next ((blt t c s).keepIsland s)) ∧
    (∀ (t : Nat) (c : Nat), t < 64 → c < 4 → exec (.endOp t c) s = .next ((endOp t c s).keepIsland s)) ∧
    (∀ (t : Nat) (c : Nat), t < 64 → c < 4 → exec (.brk t c) s = .next ((brk t c s).keepIsland s)) ∧
    (∀ (t : Nat) (c : Nat), t < 64 → c < 4 → exec (.lrow t c) s = .next ((lrow t c s).keepIsland s)) ∧
    (∀ (t : Nat) (c : Nat), t < 64 → c < 4 → exec (.lclosed t c) s = .next ((lclosed t c s).keepIsland s)) ∧
    (∀ (t : Nat) (c : Nat), t < 64 → c < 4 → exec (.lget t c) s = .next ((lget t c s).keepIsland s)) ∧
    (∀ (t : Nat) (c : Nat), t < 64 → c < 4 → exec (.lset t c) s = .next ((lset t c s).keepIsland s)) ∧
    (∀ (t : Nat) (c : Nat), t < 64 → c < 4 → exec (.femit t c) s = .next ((femit t c s).keepIsland s)) ∧
    (∀ (t : Nat) (c : Nat), t < 64 → c < 4 → exec (.ldrop t c) s = .next ((ldrop t c s).keepIsland s)))

/-- Every command of Moraine completes with the effect of its meaning, which the rules in its docstring give, and the fields that no
command of its kind reaches stay as they are: on every unit that exists, whatever the state, while its domain is out of reset. -/
def Obligations.EveryMoraineCommandCompletes : Prop :=
  ∀ s : State,
  (s.mainReset = false →
    (∀ (v : Nat), v < 4 → exec (.horizonTimeout v) s = .next ((horizonTimeout v s).keepIsland s)) ∧
    (∀ (e : Nat), e < 65536 → exec (.fusionWindowExpiry e) s = .next ((fusionWindowExpiry e s).keepIsland s)) ∧
    (∀ (e : Nat), e < 65536 → exec (.entryRetire e) s = .next ((entryRetire e s).keepIsland s)) ∧
    (exec (.fragmentIn) s = .next ((fragmentIn s).keepIsland s)) ∧
    (exec (.rowMarkIn) s = .next ((rowMarkIn s).keepIsland s)) ∧
    (exec (.objectDecide) s = .next ((objectDecide s).keepIsland s)) ∧
    (exec (.defectPktFlush) s = .next ((defectPktFlush s).keepIsland s)) ∧
    (exec (.moraineApply) s = .next ((moraineApply s).keepIsland s)) ∧
    (exec (.swapRules) s = .next ((swapRules s).keepIsland s)) ∧
    (exec (.swapFt) s = .next ((swapFt s).keepIsland s)) ∧
    (exec (.moraineClear) s = .next ((moraineClear s).keepIsland s)))

/-- Every command of Bellows and the ejector links completes with the effect of its meaning, which the rules in its docstring give, and the fields that no
command of its kind reaches stay as they are: on every unit that exists, whatever the state, while its domain is out of reset. -/
def Obligations.EveryBellowsCommandCompletes : Prop :=
  ∀ s : State,
  (s.mainReset = false →
    (∀ (l : Nat) (sof : Nat) (groups : List (BitVec 10)), l < 64 → exec (.upstreamFrameRx l sof groups) s = .next ((upstreamFrameRx l sof groups s).keepIsland s)) ∧
    (∀ (l : Nat), l < 64 → exec (.upstreamWindowClose l) s = .next ((upstreamWindowClose l s).keepIsland s)) ∧
    (∀ (v : Word), exec (.bctlWrite v) s = .next ((bctlWrite v s).keepIsland s)) ∧
    (∀ (l : Nat) (v : Word), l < 64 → exec (.lctlWrite l v) s = .next ((lctlWrite l v s).keepIsland s)) ∧
    (∀ (l : Nat), l < 64 → exec (.linkResync l) s = .next ((linkResync l s).keepIsland s)) ∧
    (exec (.actionAccept) s = .next ((actionAccept s).keepIsland s)) ∧
    (exec (.slotAssemble) s = .next ((slotAssemble s).keepIsland s)) ∧
    (exec (.downstreamFrameSend) s = .next ((downstreamFrameSend s).keepIsland s)) ∧
    (exec (.actionRetire) s = .next ((actionRetire s).keepIsland s)) ∧
    (exec (.arm) s = .next ((armCmd s).keepIsland s)) ∧
    (exec (.disarm) s = .next ((disarmCmd s).keepIsland s)) ∧
    (exec (.kick) s = .next ((kick s).keepIsland s)) ∧
    (exec (.testAct) s = .next ((testAct s).keepIsland s)) ∧
    (exec (.testActionCheck) s = .next ((testActionCheck s).keepIsland s)) ∧
    (exec (.bellowsClear) s = .next ((bellowsClear s).keepIsland s)) ∧
    (exec (.bellowsWdogExpiry) s = .next ((bellowsWdogExpiry s).keepIsland s)) ∧
    (exec (.bellowsDisarmInput) s = .next ((bellowsDisarmInput s).keepIsland s)))

/-- Every command of feedback channels completes with the effect of its meaning, which the rules in its docstring give, and the fields that no
command of its kind reaches stay as they are: on every unit that exists, whatever the state, while its domain is out of reset. -/
def Obligations.EveryFeedbackCommandCompletes : Prop :=
  ∀ s : State,
  (s.mainReset = false →
    (∀ (n : Nat) (h : Nat) (run : Nat) (sub : Nat), n < 24 → h < 8 → exec (.hallEdge n h run sub) s = .next ((hallEdge n h run sub s).keepIsland s)) ∧
    (∀ (n : Nat), n < 24 → exec (.fbSpeedRefresh n) s = .next ((fbSpeedRefresh n s).keepIsland s)) ∧
    (∀ (n : Nat), n < 24 → exec (.speedTimeout n) s = .next ((speedTimeout n s).keepIsland s)) ∧
    (∀ (n : Nat), n < 24 → exec (.fbSetPos n) s = .next ((fbSetPos n s).keepIsland s)) ∧
    (∀ (n : Nat), n < 24 → exec (.armIndex n) s = .next ((armIndex n s).keepIsland s)) ∧
    (∀ (n : Nat), n < 24 → exec (.disarmIndex n) s = .next ((disarmIndex n s).keepIsland s)) ∧
    (∀ (n : Nat) (v : Word), n < 24 → exec (.fbCtlWrite n v) s = .next ((fbCtlWrite n v s).keepIsland s)))

/-- Every command of axes completes with the effect of its meaning, which the rules in its docstring give, and the fields that no
command of its kind reaches stay as they are: on every unit that exists, whatever the state, while its domain is out of reset. -/
def Obligations.EveryAxisCommandCompletes : Prop :=
  ∀ s : State,
  (s.mainReset = false →
    (∀ (n : Nat) (level : Bool) (run : Nat) (sub : Nat), n < 24 → exec (.indexEvent n level run sub) s = .next ((indexEventCmd n level run sub s).keepIsland s)) ∧
    (∀ (a : Nat), a < 16 → exec (.axisTick a) s = .next ((axisTick a s).keepIsland s)) ∧
    (∀ (a : Nat) (b : Bool) (cs : Int), a < 16 → exec (.chopUpperReached a b cs) s = .next ((chopUpperReached a b cs s).keepIsland s)) ∧
    (∀ (a : Nat) (b : Bool) (cs : Int), a < 16 → exec (.chopLowerReached a b cs) s = .next ((chopLowerReached a b cs s).keepIsland s)) ∧
    (∀ (a : Nat) (b : Bool), a < 16 → exec (.chopDriveStart a b) s = .next ((chopDriveStart a b s).keepIsland s)) ∧
    (∀ (a : Nat) (b : Bool), a < 16 → exec (.chopBlankEnd a b) s = .next ((chopBlankEnd a b s).keepIsland s)) ∧
    (∀ (a : Nat), a < 16 → exec (.holdDelayExpiry a) s = .next ((holdDelayExpiry a s).keepIsland s)) ∧
    (∀ (a : Nat) (hi : Bool) (level : Bool) (run : Nat), a < 16 → exec (.limitAssert a hi level run) s = .next ((limitAssert a hi level run s).keepIsland s)) ∧
    (∀ (a : Nat) (hi : Bool) (level : Bool) (run : Nat), a < 16 → exec (.limitDeassert a hi level run) s = .next ((limitDeassert a hi level run s).keepIsland s)) ∧
    (∀ (a : Nat), a < 16 → exec (.push a) s = .next ((push a s).keepIsland s)) ∧
    (∀ (a : Nat), a < 16 → exec (.axStopCmd a) s = .next ((axStopCmd a s).keepIsland s)) ∧
    (∀ (a : Nat), a < 16 → exec (.estop a) s = .next ((estop a s).keepIsland s)) ∧
    (∀ (a : Nat), a < 16 → exec (.home a) s = .next ((home a s).keepIsland s)) ∧
    (∀ (a : Nat), a < 16 → exec (.clrLim a) s = .next ((clrLim a s).keepIsland s)) ∧
    (∀ (a : Nat), a < 16 → exec (.axSetPos a) s = .next ((axSetPos a s).keepIsland s)) ∧
    (∀ (a : Nat), a < 16 → exec (.gearOn a) s = .next ((gearOn a s).keepIsland s)) ∧
    (∀ (a : Nat), a < 16 → exec (.gearArm a) s = .next ((gearArm a s).keepIsland s)) ∧
    (∀ (a : Nat), a < 16 → exec (.gearCancel a) s = .next ((gearCancel a s).keepIsland s)) ∧
    (∀ (a : Nat), a < 16 → exec (.stallRearm a) s = .next ((stallRearm a s).keepIsland s)) ∧
    (∀ (a : Nat), a < 16 → exec (.axGo a) s = .next ((axGo a s).keepIsland s)) ∧
    (∀ (a : Nat), a < 16 → exec (.axStop a) s = .next ((axStop a s).keepIsland s)) ∧
    (∀ (a : Nat) (v : Word), a < 16 → exec (.axCtlWrite a v) s = .next ((axCtlWrite a v s).keepIsland s)))

/-- Every command of the memory controller completes with the effect of its meaning, which the rules in its docstring give, and the fields that no
command of its kind reaches stay as they are: on every unit that exists, whatever the state, while its domain is out of reset. -/
def Obligations.EveryMemoryControllerCommandCompletes : Prop :=
  ∀ s : State,
  (s.mainReset = false →
    (∀ (n : Nat) (rd : List Word) (wr : List Word) (ecc : Bool), n < 6 → exec (.trainingDone n rd wr ecc) s = .next ((trainingDone n rd wr ecc s).keepIsland s)) ∧
    (∀ (v : Word), exec (.mcCtlWrite v) s = .next ((mcCtlWrite v s).keepIsland s)) ∧
    (∀ (n : Nat), n < 6 → exec (.evac n) s = .next ((evac n s).keepIsland s)) ∧
    (∀ (n : Nat), n < 6 → exec (.evacCancel n) s = .next ((evacCancel n s).keepIsland s)) ∧
    (∀ (n : Nat), n < 6 → exec (.chTrain n) s = .next ((chTrain n s).keepIsland s)) ∧
    (∀ (n : Nat), n < 6 → exec (.refill n) s = .next ((refill n s).keepIsland s)) ∧
    (∀ (n : Nat), n < 6 → exec (.retire n) s = .next ((retire n s).keepIsland s)) ∧
    (∀ (n : Nat), n < 6 → exec (.refreshDue n) s = .next ((refreshDue n s).keepIsland s)) ∧
    (∀ (n : Nat), n < 6 → exec (.refreshIssue n) s = .next ((refreshIssue n s).keepIsland s)) ∧
    (∀ (n : Nat), n < 6 → exec (.channelTempSample n) s = .next ((channelTempSample n s).keepIsland s)) ∧
    (∀ (n : Nat), n < 6 → exec (.hotZoneExit n) s = .next ((hotZoneExit n s).keepIsland s)) ∧
    (∀ (n : Nat) (v : Word), n < 6 → exec (.devTempWrite n v) s = .next ((devTempWrite n v s).keepIsland s)) ∧
    (∀ (n : Nat), n < 6 → exec (.devTempStale n) s = .next ((devTempStale n s).keepIsland s)) ∧
    (∀ (tag : Nat) (addr : Nat) (len : Nat) (wr : Bool) (data : List (BitVec 8)), exec (.memRequest tag addr len wr data) s = .next ((memRequest tag addr len wr data s).keepIsland s)) ∧
    (∀ (n : Nat), n < 6 → exec (.memCommandIssue n) s = .next ((memCommandIssue n s).keepIsland s)) ∧
    (∀ (n : Nat) (ecc : Nat) (w : Nat), n < 6 → exec (.memReadDone n ecc w) s = .next ((memReadDone n ecc w s).keepIsland s)) ∧
    (∀ (n : Nat) (b : Nat), n < 6 → b < 16 → exec (.rowIdleClose n b) s = .next ((rowIdleClose n b s).keepIsland s)) ∧
    (∀ (n : Nat), n < 6 → exec (.refreshWindowBoundary n) s = .next ((refreshWindowBoundary n s).keepIsland s)) ∧
    (∀ (n : Nat) (ue : Option Nat), n < 6 → exec (.migrateBlock n ue) s = .next ((migrateBlock n ue s).keepIsland s)) ∧
    (exec (.mcInit) s = .next ((mcInit s).keepIsland s)) ∧
    (exec (.applyTable) s = .next ((applyTable s).keepIsland s)))

/-- Every command of DMA completes with the effect of its meaning, which the rules in its docstring give, and the fields that no
command of its kind reaches stay as they are: on every unit that exists, whatever the state, while its domain is out of reset. -/
def Obligations.EveryDmaCommandCompletes : Prop :=
  ∀ s : State,
  (s.mainReset = false →
    (∀ (c : Nat), c < 32 → exec (.dmaStart c) s = .next ((dmaStart c s).keepIsland s)) ∧
    (∀ (c : Nat), c < 32 → exec (.dmaAbort c) s = .next ((dmaAbort c s).keepIsland s)) ∧
    (∀ (c : Nat), c < 32 → exec (.dmaResume c) s = .next ((dmaResume c s).keepIsland s)) ∧
    (∀ (c : Nat), c < 32 → exec (.doorbellRing c) s = .next ((doorbellRing c s).keepIsland s)) ∧
    (∀ (c : Nat) (v : Word), c < 32 → exec (.dmaChCtlWrite c v) s = .next ((dmaChCtlWrite c v s).keepIsland s)) ∧
    (∀ (c : Nat), c < 32 → exec (.dmaTriggerInput c) s = .next ((dmaTriggerInput c s).keepIsland s)) ∧
    (∀ (c : Nat), c < 32 → exec (.descFetchDone c) s = .next ((descFetchDone c s).keepIsland s)) ∧
    (∀ (ready : BitVec 32), exec (.dmaElementIssue ready) s = .next ((dmaElementIssue ready s).keepIsland s)) ∧
    (∀ (c : Nat), c < 32 → (dmaMust c s) = true → exec (.dmaReadData c) s = .next ((dmaReadData c s).keepIsland s)) ∧
    (∀ (c : Nat) (k : Nat), c < 32 → exec (.dmaWriteAck c k) s = .next ((dmaWriteAck c k s).keepIsland s)) ∧
    (∀ (c : Nat), c < 32 → exec (.nextReadDone c) s = .next ((nextReadDone c s).keepIsland s)) ∧
    (∀ (c : Nat) (dir : Nat) (k : Nat), c < 32 → dir < 4 → exec (.dmaErrorResponse c dir k) s = .next ((dmaErrorCmd c dir k s).keepIsland s)) ∧
    (∀ (c : Nat), c < 32 → exec (.descWriteBackDone c) s = .next ((descWriteBackDone c s).keepIsland s)))

/-- Every command of Firn completes with the effect of its meaning, which the rules in its docstring give, and the fields that no
command of its kind reaches stay as they are: on every unit that exists, whatever the state, while its domain is out of reset. -/
def Obligations.EveryFirnCommandCompletes : Prop :=
  ∀ s : State,
  (s.mainReset = false →
    (∀ (e : Nat), e < 8 → exec (.firnStart e) s = .next ((firnStart e s).keepIsland s)) ∧
    (∀ (e : Nat), e < 8 → exec (.firnAbort e) s = .next ((firnAbort e s).keepIsland s)) ∧
    (∀ (e : Nat), e < 8 → exec (.dropCtx e) s = .next ((dropCtx e s).keepIsland s)) ∧
    (∀ (e : Nat) (v : Word), e < 8 → exec (.firnEctlWrite e v) s = .next ((firnEctlWrite e v s).keepIsland s)) ∧
    (∀ (e : Nat) (v : Word), e < 8 → exec (.jobWrWrite e v) s = .next ((jobWrWrite e v s).keepIsland s)) ∧
    (∀ (e : Nat), e < 8 → exec (.firnJobStart e) s = .next ((firnJobStart e s).keepIsland s)) ∧
    (∀ (e : Nat) (fault : Nat), e < 8 → exec (.firnJobEnd e fault) s = .next ((firnJobEnd e fault s).keepIsland s)) ∧
    (∀ (e : Nat) (stall : Nat), e < 8 → exec (.firnPacketSend e stall) s = .next ((firnPacketSend e stall s).keepIsland s)))

/-- Every command of PTP, the pulse generators and the MAC completes with the effect of its meaning, which the rules in its docstring give, and the fields that no
command of its kind reaches stay as they are: on every unit that exists, whatever the state, while its domain is out of reset. -/
def Obligations.EveryTimeCommandCompletes : Prop :=
  ∀ s : State,
  (s.mainReset = false →
    (∀ (v : Word), exec (.incrNsWrite v) s = .next ((incrNsWrite v s).keepIsland s)) ∧
    (∀ (i : Nat), i < 4 → exec (.capture i) s = .next ((capture i s).keepIsland s)) ∧
    (∀ (link : Bool) (speed : Nat) (full : Bool), speed < 3 → exec (.ethLinkStatus link speed full) s = .next ((ethLinkStatus link speed full s).keepIsland s)) ∧
    (∀ (v : Word), exec (.txWrWrite v) s = .next ((txWrWrite v s).keepIsland s)) ∧
    (∀ (frame : List (BitVec 8)) (fcsOk : Bool) (age : Nat), exec (.rxFrame frame fcsOk age) s = .next ((rxFrame frame fcsOk age s).keepIsland s)) ∧
    (∀ (v : Word), exec (.mdioGo v) s = .next ((mdioGo v s).keepIsland s)) ∧
    (∀ (data : BitVec 16), exec (.mdioDone data) s = .next ((mdioDone data s).keepIsland s)) ∧
    (∀ (k : Nat), k < 16 → exec (.tpArm k) s = .next ((tpArm k s).keepIsland s)) ∧
    (∀ (k : Nat), k < 16 → exec (.tpStop k) s = .next ((tpStop k s).keepIsland s)) ∧
    (∀ (k : Nat), k < 16 → exec (.tpAbort k) s = .next ((tpAbort k s).keepIsland s)) ∧
    (∀ (k : Nat), k < 16 → exec (.tpStartInput k) s = .next ((tpStartInput k s).keepIsland s)) ∧
    (∀ (k : Nat), k < 16 → exec (.tpEdgeCompute k) s = .next ((tpEdgeCompute k s).keepIsland s)) ∧
    (∀ (k : Nat), k < 16 → exec (.tpLeadingEdge k) s = .next ((tpLeadingEdge k s).keepIsland s)) ∧
    (∀ (k : Nat), k < 16 → exec (.tpTrailingEdge k) s = .next ((tpTrailingEdge k s).keepIsland s)) ∧
    (exec (.ptpLatch) s = .next ((ptpLatch s).keepIsland s)) ∧
    (exec (.ptpStep) s = .next ((ptpStep s).keepIsland s)) ∧
    (exec (.ptpSlew) s = .next ((ptpSlew s).keepIsland s)) ∧
    (exec (.ptpSet) s = .next ((ptpSet s).keepIsland s)) ∧
    (exec (.invalidate) s = .next ((invalidate s).keepIsland s)) ∧
    (exec (.slewStop) s = .next ((slewStop s).keepIsland s)) ∧
    (exec (.slewStep) s = .next ((slewStep s).keepIsland s)) ∧
    (exec (.alarm) s = .next ((alarm s).keepIsland s)) ∧
    (exec (.second) s = .next ((second s).keepIsland s)) ∧
    (exec (.txFrameStart) s = .next ((txFrameStart s).keepIsland s)) ∧
    (exec (.txFrameDone) s = .next ((txFrameDone s).keepIsland s)) ∧
    (exec (.tpHalt) s = .next ((tpHalt s).keepIsland s)))

/-- Every command of the event fabric completes with the effect of its meaning, which the rules in its docstring give, and the fields that no
command of its kind reaches stay as they are: on every unit that exists, whatever the state, while its domain is out of reset. -/
def Obligations.EveryEventFabricCommandCompletes : Prop :=
  ∀ s : State,
  (s.mainReset = false →
    (∀ (n : Nat), n < 256 → exec (.channelEventArrive n) s = .next ((channelEventArrive n s).keepIsland s)) ∧
    (∀ (n : Nat), n < 256 → exec (.pendingEventDeliver n) s = .next ((pendingEventDeliver n s).keepIsland s)) ∧
    (∀ (i : Nat) (v : Word), i < 8 → exec (.chFire i v) s = .next ((chFire i v s).keepIsland s)) ∧
    (∀ (i : Nat) (v : Word), i < 2 → exec (.swFire i v) s = .next ((swFire i v s).keepIsland s)) ∧
    (∀ (m : Master) (cons : Bool) (i : Nat) (v : Word), i < (if cons then 128 else 256) → exec (.evfRouteWrite m cons i v) s = .next ((evfRouteWrite m cons i v s).keepIsland s)) ∧
    (∀ (m : Master), exec (.routeLock m) s = .next ((routeLock m s).keepIsland s)) ∧
    (exec (.warnBellows) s = .next ((warnBellows s).keepIsland s)) ∧
    (exec (.warnAxes) s = .next ((warnAxes s).keepIsland s)))

/-- Every command of cores, registers and protection completes with the effect of its meaning, which the rules in its docstring give, and the fields that no
command of its kind reaches stay as they are: on every unit that exists, whatever the state, while its domain is out of reset. -/
def Obligations.EveryControlPlaneCommandCompletes : Prop :=
  ∀ s : State,
  (s.mainReset = false →
    (∀ (m : Master) (v : Word), exec (.coreCtlWrite m v) s = .next ((coreCtlWrite m v s).keepIsland s)) ∧
    (∀ (h : Nat), h < 8 → exec (.mtimerPending h) s = .next ((mtimerPending h s).keepIsland s)) ∧
    (∀ (h : Nat) (act : CoreAct), h < 8 → act.ofHart = true → (hartMust h act s) = true → exec (.hartInstruction h act) s = .next ((hartInstruction h act s).keepIsland s)) ∧
    (∀ (m : Master) (t : Nat) (id : Nat), t < 18 → exec (.irqComplete m t id) s = .next ((irqComplete m t id s).keepIsland s)) ∧
    (∀ (m : Master) (a : Nat) (n : Nat) (data : Option (List (BitVec 8))) (ecc : Nat), 0x08000000 ≤ a → a % 8 + n ≤ 8 → a + n ≤ 0x08800000 → ecc < 3 → exec (.sramAccess m a n data ecc) s = .next ((sramAccess m a n data ecc s).keepIsland s)) ∧
    (exec (.snapGo) s = .next ((snapGo s).keepIsland s)) ∧
    (exec (.snapInput) s = .next ((snapInput s).keepIsland s)) ∧
    (exec (.snapshotTaken) s = .next ((snapshotTaken s).keepIsland s))) ∧
  (s.inPor = false →
    (∀ (g : Nat) (act : CoreAct), g < 2 → act.ofGuard = true → (coreMust act) = true → exec (.guardInstruction g act) s = .next ((guardInstruction g act s).keepTap s)) ∧
    (∀ (upsets : List (Nat × Nat × Word)), exec (.tvScrub upsets) s = .next ((tvScrub upsets s).keepGuard s)) ∧
    (∀ (m : Master), exec (.toApp m) s = .next ((toApp m s).keepGuard s)) ∧
    (∀ (m : Master) (a : Nat), exec (.busAccessUnmapped m a) s = .next ((busAccessUnmapped m a s).keepGuard s)) ∧
    (∀ (m : Master) (a : Nat) (v : Word), (regMust a v) = true → exec (.registerWrite m a v) s = .next ((registerWrite m a v s).keepGuard s)) ∧
    (exec (.toG0) s = .next ((toG0 s).keepGuard s)) ∧
    (exec (.toG1) s = .next ((toG1 s).keepGuard s)))

/-- Every command of the twin completes with the effect of its meaning, which the rules in its docstring give, and the fields that no
command of its kind reaches stay as they are: on every unit that exists, whatever the state, while its domain is out of reset. -/
def Obligations.EveryTwinCommandCompletes : Prop :=
  ∀ s : State,
  (s.mainReset = false →
    (∀ (path : Nat), path < 2 → exec (.heartbeatMiss path) s = .next ((heartbeatMiss path s).keepIsland s)) ∧
    (∀ (path : Nat), path < 2 → exec (.pathSilent path) s = .next ((pathSilent path s).keepIsland s)) ∧
    (∀ (q : Nat) (p : Pkt), (q == 30 || q == 31) = true → exec (.decideRx q p) s = .next ((decideRx q p s).keepIsland s)) ∧
    (∀ (q : Nat) (p : Pkt), (q == 30 || q == 31) = true → exec (.cycleEndRx q p) s = .next ((cycleEndRx q p s).keepIsland s)) ∧
    (∀ (q : Nat) (p : Pkt), (q == 30 || q == 31) = true → exec (.mirrorAckRx q p) s = .next ((mirrorAckRx q p s).keepIsland s)) ∧
    (∀ (q : Nat) (p : Pkt), (q == 30 || q == 31) = true → exec (.checkRx q p) s = .next ((checkRx q p s).keepIsland s)) ∧
    (∀ (q : Nat) (p : Pkt), (q == 30 || q == 31) = true → exec (.resyncReqRx q p) s = .next ((resyncReqRx q p s).keepIsland s)) ∧
    (∀ (q : Nat) (p : Pkt), (q == 30 || q == 31) = true → exec (.userRx q p) s = .next ((userRx q p s).keepIsland s)) ∧
    (exec (.claim) s = .next ((claim s).keepIsland s)) ∧
    (exec (.join) s = .next ((join s).keepIsland s)) ∧
    (exec (.handover) s = .next ((handoverCmd s).keepIsland s)) ∧
    (exec (.twinResync) s = .next ((twinResync s).keepIsland s)) ∧
    (exec (.userSend) s = .next ((userSend s).keepIsland s)) ∧
    (exec (.partnerSilent) s = .next ((partnerSilent s).keepIsland s)) ∧
    (exec (.muxSettleExpiry) s = .next ((muxSettleExpiry s).keepIsland s)) ∧
    (exec (.cycleEndSend) s = .next ((cycleEndSend s).keepIsland s)) ∧
    (exec (.mirrorAckTimeout) s = .next ((mirrorAckTimeout s).keepIsland s)) ∧
    (exec (.matchWaitExpiry) s = .next ((matchWaitExpiry s).keepIsland s)) ∧
    (exec (.checkBlockTimeout) s = .next ((checkBlockTimeout s).keepIsland s))) ∧
  (s.inPor = false →
    (∀ (v : Word), exec (.tctlWrite v) s = .next ((tctlWrite v s).keepGuard s)) ∧
    (∀ (level : Bool), exec (.actInChange level) s = .next ((actInChange level s).keepGuard s)) ∧
    (∀ (f : HbIn), f.ok = true → exec (.heartbeatRx f) s = .next ((heartbeatRx f s).keepGuard s)) ∧
    (exec (.claimWindowExpiry) s = .next ((claimWindowExpiry s).keepGuard s)) ∧
    (exec (.heartbeatSend) s = .next ((heartbeatSend s).keepGuard s)))

/-- Every command of calibration, supplies and the error record completes with the effect of its meaning, which the rules in its docstring give, and the fields that no
command of its kind reaches stay as they are: on every unit that exists, whatever the state, while its domain is out of reset. -/
def Obligations.EverySupplyCommandCompletes : Prop :=
  ∀ s : State,
  (s.mainReset = false →
    (∀ (i : Nat) (reading : BitVec 16) (valid : Bool), i < 8 → exec (.tempSample i reading valid) s = .next ((tempSample i reading valid s).keepIsland s)) ∧
    (∀ (d : Nat), d < 8 → exec (.calRun d) s = .next ((calRunCmd d s).keepIsland s)) ∧
    (∀ (temp : BitVec 16), exec (.calRunStart temp) s = .next ((calRunStart temp s).keepIsland s)) ∧
    (∀ (res : BitVec 16) (failed : List Nat), exec (.calStaged res failed) s = .next ((calStagedCmd res failed s).keepIsland s))) ∧
  (s.inPor = false →
    (∀ (mv : Nat), exec (.vddCoreWarn mv) s = .next ((vddCoreWarn mv s).keepGuard s)) ∧
    (∀ (mv : Nat), exec (.vddCoreWarnClear mv) s = .next ((vddCoreWarnClear mv s).keepGuard s)) ∧
    (∀ (r : Nat), r < 3 → exec (.railLow r) s = .next ((railLow r s).keepGuard s)) ∧
    (∀ (r : Nat), r < 3 → exec (.railLowClear r) s = .next ((railLowClear r s).keepGuard s)) ∧
    (∀ (x : Nat), x < 2 → exec (.aonFeedLow x) s = .next ((aonFeedLow x s).keepGuard s)) ∧
    (∀ (x : Nat) (mv : Nat), x < 2 → exec (.feedSenseLow x mv) s = .next ((feedSenseLow x mv s).keepGuard s)) ∧
    (∀ (x : Nat) (mv : Nat), x < 2 → exec (.feedSenseOk x mv) s = .next ((feedSenseOk x mv s).keepGuard s)) ∧
    (∀ (v : Word), exec (.blockStickyClear v) s = .next ((blockStickyClear v s).keepGuard s)) ∧
    (exec (.errlogClear) s = .next ((errlogClear s).keepGuard s))) ∧
  (
    (∀ (mv : Nat), exec (.vddCoreUv mv) s = .next ((vddCoreUv mv s).keepQueue s)) ∧
    (∀ (x : Nat) (oneMs : Bool) (twinId : Bool), x < 2 → exec (.aonFeedOk x oneMs twinId) s = .next ((aonFeedOk x oneMs twinId s).keepQueue s)) ∧
    (exec (.vddSramUv) s = .next ((vddSramUv s).keepQueue s)) ∧
    (exec (.mainSupplyRelease) s = .next ((mainSupplyRelease s).keepQueue s)) ∧
    (exec (.bothAonFeedsLost) s = .next ((bothAonFeedsLost s).keepQueue s)))

/-- Every command of the boot and island ROMs completes with the effect of its meaning, which the rules in its docstring give, and the fields that no
command of its kind reaches stay as they are: on every unit that exists, whatever the state, while its domain is out of reset. -/
def Obligations.EveryBringUpCommandCompletes : Prop :=
  ∀ s : State,
  (s.mainReset = false →
    (∀ (slotA : Option (List (BitVec 8))) (slotB : Option (List (BitVec 8))) (uart : Option (List (BitVec 8))) (sfdp : Bool) (long : Bool) (us : Nat), exec (.bootRomRun slotA slotB uart sfdp long us) s = .next ((bootRomRun slotA slotB uart sfdp long us s).keepIsland s))) ∧
  (s.inPor = false →
    (∀ (g : Nat), g < 2 → exec (.islandRomLoad g) s = .next ((islandRomLoad g s).keepTap s)))

/-- Every command of resets completes with the effect of its meaning, which the rules in its docstring give, and the fields that no
command of its kind reaches stay as they are: on every unit that exists, whatever the state, while its domain is out of reset. -/
def Obligations.EveryResetCommandCompletes : Prop :=
  ∀ s : State,
  (s.mainReset = false →
    (∀ (v : Word), exec (.rstReq v) s = .next ((rstReq v s).keepIsland s))) ∧
  (
    (∀ (twinId : Bool), exec (.porRelease twinId) s = .next ((porRelease twinId s).keepQueue s)) ∧
    (∀ (bootMode : Nat), bootMode < 4 → exec (.mainResetRelease bootMode) s = .next ((mainResetRelease bootMode s).keepQueue s)) ∧
    (exec (.porAssert) s = .next ((porAssert s).keepQueue s)) ∧
    (exec (.resetNAssert) s = .next ((resetNAssert s).keepQueue s)) ∧
    (exec (.resetNRelease) s = .next ((resetNRelease s).keepQueue s)) ∧
    (exec (.debugReset) s = .next ((debugReset s).keepQueue s)))

/-- Every command of QSPI, UART and I2C completes with the effect of its meaning, which the rules in its docstring give, and the fields that no
command of its kind reaches stay as they are: on every unit that exists, whatever the state, while its domain is out of reset. -/
def Obligations.EveryPeripheralCommandCompletes : Prop :=
  ∀ s : State,
  (s.mainReset = false →
    (∀ (data : List (BitVec 8)) (busErr : Bool), exec (.qspiDone data busErr) s = .next ((qspiDone data busErr s).keepIsland s)) ∧
    (∀ (i : Nat), i < 2 → exec (.uartTxPush i) s = .next ((uartTxPush i s).keepIsland s)) ∧
    (∀ (i : Nat), i < 2 → exec (.uartRxPop i) s = .next ((uartRxPop i s).keepIsland s)) ∧
    (∀ (i : Nat), i < 2 → exec (.uartFlush i) s = .next ((uartFlush i s).keepIsland s)) ∧
    (∀ (i : Nat) (b : BitVec 8) (framing : Bool) (parity : Bool), i < 2 → exec (.uartByteRx i b framing parity) s = .next ((uartByteRx i b framing parity s).keepIsland s)) ∧
    (∀ (i : Nat), i < 2 → exec (.uartByteSent i) s = .next ((uartByteSent i s).keepIsland s)) ∧
    (∀ (result : Nat) (data : List (BitVec 8)), result < 3 → exec (.iicDone result data) s = .next ((iicDone result data s).keepIsland s)) ∧
    (exec (.qspiGo) s = .next ((qspiGo s).keepIsland s)) ∧
    (exec (.iicGo) s = .next ((iicGo s).keepIsland s)) ∧
    (exec (.iicTimeout) s = .next ((iicTimeout s).keepIsland s)))

/-- Every command of the JTAG port completes with the effect of its meaning, which the rules in its docstring give, and the fields that no
command of its kind reaches stay as they are: on every unit that exists, whatever the state, while its domain is out of reset. -/
def Obligations.EveryJtagCommandCompletes : Prop :=
  ∀ s : State,
  (
    (∀ (cells : List Bool) (shift : List Bool), exec (.extest cells shift) s = .next ((extest cells shift s).keepQueue s)) ∧
    (∀ (cells : List Bool) (shift : List Bool), exec (.samplePreload cells shift) s = .next ((samplePreload cells shift s).keepQueue s)) ∧
    (∀ (cells : List Bool) (shift : List Bool), exec (.extestPulse cells shift) s = .next ((extestPulse cells shift s).keepQueue s)) ∧
    (∀ (cells : List Bool) (shift : List Bool), exec (.extestTrain cells shift) s = .next ((extestTrain cells shift s).keepQueue s)) ∧
    (∀ (h : Nat) (act : CoreAct), h < 8 → (coreMust act) = true → exec (.dmi h act) s = .next ((dmi h act s).keepQueue s)) ∧
    (∀ (addr : BitVec 8), exec (.fuseSel addr) s = .next ((fuseSelect addr s).keepQueue s)) ∧
    (∀ (v : Word), exec (.fuseData v) s = .next ((fuseDataIr v s).keepQueue s)) ∧
    (∀ (mv : Nat) (temp : Int), exec (.fuseProg mv temp) s = .next ((fuseProg mv temp s).keepQueue s)) ∧
    (∀ (code : Nat), exec (.bypass code) s = .next ((bypass code s).keepQueue s)) ∧
    (exec (.idcode) s = .next ((idcode s).keepQueue s)) ∧
    (exec (.highz) s = .next ((highz s).keepQueue s)) ∧
    (exec (.clamp) s = .next ((clamp s).keepQueue s)) ∧
    (exec (.dtmcs) s = .next ((dtmcs s).keepQueue s)))

/-- LANE_FFE_WRITE applies the taps when the main tap is at least 24; otherwise it sets FFE_BAD and leaves the taps (R44,
R57). -/
def Obligations.FfeWriteTakesOnlyAMainTapOf24OrMore : Prop :=
  ∀ (s : State) (n : Nat) (v : Word), n < 128 → s.mainReset = false →
    ∃ t, exec (.laneFfeWrite n v) s = .next t ∧
      (F.LANE_LANE_FFE_C_PRE.get v + F.LANE_LANE_FFE_C_POST.get v ≤ 39 →
        t.rd (R.LANE_LANE_FFE n) = v &&& 0x1f0f ∧ regFrame s t [R.LANE_LANE_FFE n, R.LANE_LANE_STAT n] ∧
        ((s.lane n).up = true ∨ (s.lane n).listen = true → t.rd (R.LANE_LANE_STAT n) =
          F.LANE_LANE_STAT_MAIN_TAP.put (s.rd (R.LANE_LANE_STAT n)) (63 - F.LANE_LANE_FFE_C_PRE.get v - F.LANE_LANE_FFE_C_POST.get v)) ∧
        ((s.lane n).up = false → (s.lane n).listen = false → t.rd (R.LANE_LANE_STAT n) = s.rd (R.LANE_LANE_STAT n))) ∧
      (39 < F.LANE_LANE_FFE_C_PRE.get v + F.LANE_LANE_FFE_C_POST.get v →
        raisesOnly s t (R.LANE_LANE_ERR n) 4 (siteLane n))

/-- A control block of a type that no layer owns is dropped: DROP_PKT counts it and BAD_CTRL is set (R64). -/
def Obligations.UnknownControlBlocksAreDroppedAndCounted : Prop :=
  ∀ (s : State) (q : Nat) (y : BitVec 8), q < 32 → s.mainReset = false → s.role q = 1 ∨ s.role q = 2 →
    y ≠ 0xd2 → y ≠ 0x1e → y ≠ 0x4b → y ≠ 0x55 → y ≠ 0x66 →
    ∃ t, exec (.unknownCtrlBlockRx q y) s = .next t ∧
      t.rdN (R.ACT_DROP_PKT q) = min 0xffffffff (s.rdN (R.ACT_DROP_PKT q) + 1) ∧
      t.rd (R.ACT_PORT_ERR q) = (bit 17).put (s.rd (R.ACT_PORT_ERR q)) 1 ∧
      evFrame s t (R.ACT_DROP_PKT q :: errorRegs (R.ACT_PORT_ERR q) (sitePort q))

/-- TAB_DATA_WRITE stores at TAB_ADDR and steps it, is ignored with CFG_ERR during TAB_INIT; the fill leaves 0x4000
everywhere (R109, R110). -/
def Obligations.CorrectionTableWritesAndInitialisation : Prop :=
  ∀ (s : State) (n : Nat), n < 24 → s.mainReset = false →
    (∀ v : BitVec 32, (s.fe n).initDone = true →
      ∃ t, exec (.tabDataWrite n v) s = .next t ∧
        (∀ a, a < 65536 → SMap.get (fun _ => 0x4000) (t.fe n).tab a
          = if a = s.gf (R.FE_TAB_ADDR n) ⟨0, 16⟩ then v else SMap.get (fun _ => 0x4000) (s.fe n).tab a) ∧
        t.rdN (R.FE_TAB_ADDR n) = (s.gf (R.FE_TAB_ADDR n) ⟨0, 16⟩ + 1) % 65536 ∧
        (∀ m, m ≠ n → t.fe m = s.fe m) ∧ t = { s with regs := t.regs, fes := t.fes } ∧ readsKept s t [R.FE_TAB_ADDR n]) ∧
    (∀ v : BitVec 32, (s.fe n).initDone = false →
      ∃ t, exec (.tabDataWrite n v) s = .next t ∧ raisesOnly s t (R.FE_FE_ERR n) 0 (siteFe n)) ∧
    (∃ t, exec (.tabInit n) s = .next t ∧ (t.fe n).initDone = false ∧ t.rd (R.FE_FE_CMD n) = F.FE_FE_CMD_TAB_INIT.put (s.rd (R.FE_FE_CMD n)) 1 ∧
      t.rd (R.FE_FE_STAT n) = F.FE_FE_STAT_TAB_READY.put (s.rd (R.FE_FE_STAT n)) 0 ∧
      (∀ m, m ≠ n → t.fe m = s.fe m) ∧ t = { s with regs := t.regs, fes := t.fes } ∧ readsKept s t [R.FE_FE_CMD n, R.FE_FE_STAT n]) ∧
    ((s.fe n).initDone = false →
      ∃ t, exec (.tabInitDone n) s = .next t ∧ (∀ a, SMap.get (fun _ => 0x4000) (t.fe n).tab a = 0x4000#32) ∧
        t.rd (R.FE_FE_CMD n) = F.FE_FE_CMD_TAB_INIT.put (s.rd (R.FE_FE_CMD n)) 0 ∧
        t.rd (R.FE_FE_STAT n) = F.FE_FE_STAT_TAB_READY.put (s.rd (R.FE_FE_STAT n)) 1 ∧
        (∀ m, m ≠ n → t.fe m = s.fe m) ∧ t = { s with regs := t.regs, fes := t.fes } ∧
        readsKept s t [R.FE_FE_CMD n, R.FE_FE_STAT n])

/-- TAB_LO stages bits [31:0]; TAB_HI stores the 40-bit entry at TAB_ADDR, steps it, and sets LIVE_WRITE where a running view
reads it (R140). -/
def Obligations.StitchTableWritesStageAndStore : Prop :=
  ∀ s : State, s.mainReset = false →
    (∀ v : Word, exec (.stitchTabLoWrite v) s = .next { s with stStage := v }) ∧
    (∀ v : Word, ∃ t, exec (.stitchTabHiWrite v) s = .next t ∧
      (∀ a, SMap.get (fun _ => 0) t.stTab a
        = if a = s.rdN R.STITCH_TAB_ADDR % 524288 then v.extractLsb' 0 8 ++ s.stStage else SMap.get (fun _ => 0) s.stTab a) ∧
      t.rdN R.STITCH_TAB_ADDR = (s.rdN R.STITCH_TAB_ADDR % 524288 + 1) % 524288 ∧
      (∀ u, u < 4 → s.tabLive u (s.rdN R.STITCH_TAB_ADDR % 524288) = true → t.on (R.STITCH_VIEW_ERR u) (bit 8) = true) ∧
      ((∀ u, u < 4 → s.tabLive u (s.rdN R.STITCH_TAB_ADDR % 524288) = false) →
        t = { s with regs := t.regs, stTab := t.stTab } ∧ readsKept s t [R.STITCH_TAB_ADDR]))

/-- A request command sets or clears exactly its own status bits (R55, R141, R150, R214, R228, R261, R262, R330, R348, R379).
-/
def Obligations.RequestCommandsSetTheirBits : Prop :=
  ∀ s : State, s.mainReset = false →
    (∀ n, n < 128 → exec (.injSingle n) s = .next (s.sf (R.LANE_LANE_CMD n) F.LANE_LANE_CMD_INJ_SINGLE 1)) ∧
    (∀ n, n < 128 → exec (.injBurst n) s = .next (s.sf (R.LANE_LANE_CMD n) F.LANE_LANE_CMD_INJ_BURST 1)) ∧
    (∀ v, v < 4 → exec (.viewSwap v) s = .next (s.sf (R.STITCH_VIEW_STAT v) F.STITCH_VIEW_STAT_SWAP_PENDING 1)) ∧
    (∀ v, v < 4 → exec (.viewCancelSwap v) s = .next (s.sf (R.STITCH_VIEW_STAT v) F.STITCH_VIEW_STAT_SWAP_PENDING 0)) ∧
    (∀ v, v < 4 → exec (.driftSeed v) s = .next { s.sf (R.DRIFT_DRIFT_STAT v) F.DRIFT_DRIFT_STAT_SEED_PENDING 1 with
      views := SMap.set (fun _ => {}) s.views v { s.view v with seedPend := true } }) ∧
    (∀ v, v < 4 → exec (.driftProbe v) s = .next ((s.sf (R.DRIFT_PROBE_STAT v) F.DRIFT_PROBE_STAT_BUSY 1).sf
      (R.DRIFT_PROBE_STAT v) F.DRIFT_PROBE_STAT_VALID 0)) ∧
    exec .swapRules s = .next (s.sf R.MORAINE_MSTAT F.MORAINE_MSTAT_SWAP_RULES_P 1) ∧
    exec .swapFt s = .next (s.sf R.MORAINE_MSTAT F.MORAINE_MSTAT_SWAP_FT_P 1) ∧
    (∀ n, n < 24 → (s.fbMeet n (s.fbNow n)).idx = false ∨ s.on (R.FB_CTL n) F.FB_CTL_IDX_MODE = false →
      exec (.armIndex n) s = .next (s.sf (R.FB_STAT n) F.FB_STAT_IDX_ARMED 1)) ∧
    (∀ n, n < 24 → exec (.disarmIndex n) s = .next (s.sf (R.FB_STAT n) F.FB_STAT_IDX_ARMED 0)) ∧
    exec .invalidate s = .next (s.sf R.PTP_PSTAT F.PTP_PSTAT_TIME_VALID 0) ∧
    (∀ e, e < 8 → exec (.dropCtx e) s = .next (s.sf (R.FIRN_ESTAT e) F.FIRN_ESTAT_CTX_VALID 0))

/-- LINE_STORE_WRITE stores four bytes while the tile's group is OFF and is ignored otherwise (R172). -/
def Obligations.LineStoreWritesNeedTheGroupOff : Prop :=
  ∀ (s : State) (t i : Nat) (w : BitVec 32), t < 64 → i < 98304 → s.mainReset = false →
    (s.tileGroup t = none → ∃ u, exec (.lineStoreWrite t i w) s = .next u ∧
      (∀ a, lsByte (u.tile t).ls a = if 4 * i ≤ a ∧ a < 4 * i + 4 then BitVec.ofNat 8 (w.toNat / 256 ^ (a - 4 * i)) else lsByte (s.tile t).ls a) ∧
      (∀ t', t' ≠ t → u.tile t' = s.tile t') ∧ u = { s with tiles := u.tiles }) ∧
    (s.tileGroup t ≠ none → exec (.lineStoreWrite t i w) s = .next s)

/-- The scalar arithmetic of Hearth writes SD with the result of R192 and moves to the next word (R182, R192). -/
def Obligations.ScalarInstructionsWriteTheirResult : Prop :=
  ∀ e ∈ (
        [(Instr.sli, 0x01, fun _ w => (w.extractLsb' 48 16).setWidth 32),
         (Instr.slih, 0x02, fun x w => w.extractLsb' 48 16 ++ (x.rs (wSD w)).extractLsb' 0 16),
         (Instr.saddi, 0x03, fun x w => x.rs (wSA w) + (w.extractLsb' 52 12).signExtend 32),
         (Instr.sadd, 0x04, fun x w => x.rs (wSA w) + x.rs (wSB w)),
         (Instr.ssub, 0x05, fun x w => x.rs (wSA w) - x.rs (wSB w)),
         (Instr.sand, 0x06, fun x w => x.rs (wSA w) &&& x.rs (wSB w)),
         (Instr.sor, 0x07, fun x w => x.rs (wSA w) ||| x.rs (wSB w)),
         (Instr.sxor, 0x08, fun x w => x.rs (wSA w) ^^^ x.rs (wSB w)),
         (Instr.sshli, 0x09, fun x w => x.rs (wSA w) <<< (w.extractLsb' 52 5).toNat),
         (Instr.sshri, 0x0a, fun x w => x.rs (wSA w) >>> (w.extractLsb' 52 5).toNat),
         (Instr.ssrai, 0x0b, fun x w => (x.rs (wSA w)).sshiftRight (w.extractLsb' 52 5).toNat),
         (Instr.smul, 0x0c, fun x w => BitVec.ofInt 32 ((x.rs (wSA w)).toInt * (x.rs (wSB w)).toInt)),
         (Instr.smin, 0x0d, fun x w => BitVec.ofInt 32 (min (x.rs (wSA w)).toInt (x.rs (wSB w)).toInt)),
         (Instr.smax, 0x0e, fun x w => BitVec.ofInt 32 (max (x.rs (wSA w)).toInt (x.rs (wSB w)).toInt)),
         (Instr.sslt, 0x0f, fun x w => if (x.rs (wSA w)).toInt < (x.rs (wSB w)).toInt then 1 else 0)] : List ((Nat → Nat → Instr) × Nat × (HCtx → BitVec 64 → Word))), ∀ (s : State) (t c : Nat), scalReady s t c e.2.1 → (s.ctx t c).pc + 1 < (s.ctx t c).prog.2 →
    ∃ u, exec (e.1 t c) s = .next u ∧ (u.ctx t c).rs (wSD (s.wordAt t c)) = e.2.2 (s.ctx t c) (s.wordAt t c) ∧
      (u.ctx t c).pc = (s.ctx t c).pc + 1 ∧ u.rd (R.HEARTH_CTX_PC t c) = BitVec.ofNat 32 ((s.ctx t c).pc + 1) ∧
      scalFrame s u t c (some (wSD (s.wordAt t c)))

/-- SNOP, B, BZ, BNZ and BLT write no register and go to IMM12 where their condition holds, else to the next word (R182,
R192). -/
def Obligations.BranchesTestTheirRegistersAtIssue : Prop :=
  ∀ e ∈ (
        [(Instr.snop, 0x00, fun _ _ => false), (Instr.bOp, 0x14, fun _ _ => true), (Instr.bz, 0x15, fun a _ => decide (a.toNat = 0)),
         (Instr.bnz, 0x16, fun a _ => decide (a.toNat ≠ 0)), (Instr.blt, 0x17, fun a d => decide (a.toInt < d.toInt))] : List ((Nat → Nat → Instr) × Nat × (Word → Word → Bool))), ∀ (s : State) (t c : Nat), scalReady s t c e.2.1 →
    let x := s.ctx t c
    let w := s.wordAt t c
    let dest := if e.2.2 (x.rs (wSA w)) (x.rs (wSD w)) then wImm12 w else x.pc + 1
    dest < x.prog.2 →
    ∃ u, exec (e.1 t c) s = .next u ∧ (u.ctx t c).pc = dest ∧ u.rd (R.HEARTH_CTX_PC t c) = BitVec.ofNat 32 dest ∧ scalFrame s u t c none

/-- The vector arithmetic and logic of Hearth computes each guarded element by R184 and keeps the others (R184, R185). -/
def Obligations.VectorInstructionsFollowTheElementRule : Prop :=
  (∀ e ∈ (
        [(Instr.vadd, 0x09, true, fun a b => a + b), (Instr.vsub, 0x0a, true, fun a b => a - b), (Instr.vmul, 0x0b, true, fun a b => a * b),
         (Instr.vmin, 0x0c, true, fun a b => min a b), (Instr.vmax, 0x0d, true, fun a b => max a b),
         (Instr.vabsd, 0x0e, false, fun a b => |a - b|)] : List ((Nat → Nat → Instr) × Nat × Bool × (Int → Int → Int))), ∀ (s : State) (t c : Nat), vecAt s t c e.2.1 → s.wordFault t c (s.wordAt t c) = none →
      ∃ v, exec (e.1 t c) s = .next (s.setCtx t c { s.ctx t c with vres := some (.vec (wVD (s.wordAt t c)) v) }) ∧
        ∀ i, i < ecount (wW (s.wordAt t c)) → elem (wW (s.wordAt t c)) v i =
          if (s.ctx t c).guard (s.wordAt t c) i then
            asElement (ebits (wW (s.wordAt t c))) (wSG (s.wordAt t c)) (wST (s.wordAt t c) && e.2.2.1)
              (e.2.2.2 (opValue (s.wordAt t c) (elem (wW (s.wordAt t c)) ((s.ctx t c).rv (wVA (s.wordAt t c))) i))
                (opValue (s.wordAt t c) ((s.ctx t c).opB (s.wordAt t c) i)))
          else elem (wW (s.wordAt t c)) ((s.ctx t c).rv (wVD (s.wordAt t c))) i) ∧
    (∀ e ∈ (
        [(Instr.vand, 0x0f, fun a b => a &&& b), (Instr.vor, 0x10, fun a b => a ||| b), (Instr.vxor, 0x11, fun a b => a ^^^ b)] : List ((Nat → Nat → Instr) × Nat × (Nat → Nat → Nat))), ∀ (s : State) (t c : Nat), vecAt s t c e.2.1 → s.wordFault t c (s.wordAt t c) = none →
      ∃ v, exec (e.1 t c) s = .next (s.setCtx t c { s.ctx t c with vres := some (.vec (wVD (s.wordAt t c)) v) }) ∧
        ∀ i, i < ecount (wW (s.wordAt t c)) → elem (wW (s.wordAt t c)) v i =
          if (s.ctx t c).guard (s.wordAt t c) i then
            e.2.2 (elem (wW (s.wordAt t c)) ((s.ctx t c).rv (wVA (s.wordAt t c))) i) ((s.ctx t c).opB (s.wordAt t c) i)
          else elem (wW (s.wordAt t c)) ((s.ctx t c).rv (wVD (s.wordAt t c))) i) ∧
    (∀ e ∈ (
        [(Instr.pand, 0x1b, fun a b => a &&& b), (Instr.por, 0x1c, fun a b => a ||| b), (Instr.pxor, 0x1d, fun a b => a ^^^ b)] : List ((Nat → Nat → Instr) × Nat × (BitVec 768 → BitVec 768 → BitVec 768))), ∀ (s : State) (t c : Nat), vecAt s t c e.2.1 → s.wordFault t c (s.wordAt t c) = none →
      exec (e.1 t c) s = .next (s.setCtx t c { s.ctx t c with vres := some (.pred (wVD (s.wordAt t c) % 8)
        (e.2.2 ((s.ctx t c).rp' (wVA (s.wordAt t c) % 8)) ((s.ctx t c).rp' (wVB (s.wordAt t c) % 8)))) }))

/-- VDOT4 adds k nibble products to the destination element, saturating, and is legal at W = 16 and W = 32 only (R190). -/
def Obligations.Vdot4AccumulatesNibbleProducts : Prop :=
  ∀ (s : State) (t c : Nat), vecAt s t c 0x24 →
    (wW (s.wordAt t c) ≠ 3 → wW (s.wordAt t c) ≠ 5 → s.wordFault t c (s.wordAt t c) = some 1 ∧
      exec (.vdot4 t c) s = .next ((s.ctxHaltWith t c 1).keepIsland s)) ∧
    (s.wordFault t c (s.wordAt t c) = none →
      (wW (s.wordAt t c) = 3 ∨ wW (s.wordAt t c) = 5) ∧
      ∃ v, exec (.vdot4 t c) s = .next (s.setCtx t c { s.ctx t c with vres := some (.vec (wVD (s.wordAt t c)) v) }) ∧
        ∀ i, i < ecount (wW (s.wordAt t c)) →
          let bits := ebits (wW (s.wordAt t c))
          let a := elem (wW (s.wordAt t c)) ((s.ctx t c).rv (wVA (s.wordAt t c))) i
          let b := (s.ctx t c).opB (s.wordAt t c) i
          let d := elem (wW (s.wordAt t c)) ((s.ctx t c).rv (wVD (s.wordAt t c))) i
          let acc := ((List.range (gang (wW (s.wordAt t c)))).map (fun j => (nibble a j : Int) * signed 4 (nibble b j))).sum
          0 ≤ 120 * (gang (wW (s.wordAt t c)) : Int) + acc ∧ acc ≤ 105 * (gang (wW (s.wordAt t c)) : Int) ∧
          ((s.ctx t c).guard (s.wordAt t c) i = false → elem (wW (s.wordAt t c)) v i = d) ∧
          ((s.ctx t c).guard (s.wordAt t c) i = true → signed bits (elem (wW (s.wordAt t c)) v i)
            = max (-2 ^ (bits - 1)) (min (2 ^ (bits - 1) - 1) (signed bits d + acc))))

/-- ARM arms and restarts the watchdog, or is refused under the supply warning; DISARM empties the queue; KICK restarts the
watchdog (R249, R251, R253). -/
def Obligations.BellowsArmsDisarmsAndRestartsItsWatchdog : Prop :=
  ∀ s : State, s.mainReset = false →
    (s.on R.SUP_SSTAT F.SUP_SSTAT_WARN_NOW = true → s.on R.BELLOWS_BCTL F.BELLOWS_BCTL_DISARM_ON_WARN = true →
      ∃ t, exec .arm s = .next t ∧ raisesOnly s t R.BELLOWS_BERR 7 siteBel) ∧
    (s.on R.SUP_SSTAT F.SUP_SSTAT_WARN_NOW = false ∨ s.on R.BELLOWS_BCTL F.BELLOWS_BCTL_DISARM_ON_WARN = false →
      ∃ t, exec .arm s = .next t ∧ t.rd R.BELLOWS_BSTAT = F.BELLOWS_BSTAT_ARMED.put (s.rd R.BELLOWS_BSTAT) 1 ∧ t.wdogAt = some s.cyc ∧
        t = { s with regs := t.regs, chanIn := t.chanIn, fixedIn := t.fixedIn, wdogAt := t.wdogAt } ∧
        readsKept s t (R.BELLOWS_BSTAT :: eventRegs 736)) ∧
    (∃ t, exec .disarm s = .next t ∧ t.rd R.BELLOWS_BSTAT =
        F.BELLOWS_BSTAT_Q_FULL.put (F.BELLOWS_BSTAT_ARMED.put (s.rd R.BELLOWS_BSTAT) 0) 0 ∧ t.rd R.BELLOWS_Q_USED = 0 ∧ t.belQ = [] ∧ t.runs = [] ∧
      t.rdN R.BELLOWS_ACT_DISARM = min 0xffffffff (s.rdN R.BELLOWS_ACT_DISARM + s.belQ.length) ∧
      t = { s with regs := t.regs, chanIn := t.chanIn, fixedIn := t.fixedIn, belQ := t.belQ, runs := t.runs } ∧
      readsKept s t ([R.BELLOWS_BSTAT, R.BELLOWS_ACT_DISARM, R.BELLOWS_Q_USED] ++ eventRegs 737 ++ eventRegs 736)) ∧
    exec .kick s = .next { s with wdogAt := some s.cyc }

/-- EVAC, CANCEL, TRAIN and RETIRE outside their states, and EN before INIT, are ignored with CFG_ERR; in theirs they act
(R303, R301, R307). -/
def Obligations.MemoryControllerRefusesCommandsOutOfState : Prop :=
  ∀ s : State, s.mainReset = false →
    (∀ n, n < 6 → s.cst n ≠ csActive →
      ∃ t, exec (.evac n) s = .next t ∧ raisesOnly s t R.MC_ERR 0 siteMc) ∧
    (∀ n, n < 6 → s.cst n = csActive →
      (s.resShort = true ∨ ∃ m, m < 6 ∧ m ≠ n ∧ s.cst m ≠ csActive ∧ s.cst m ≠ csDead ∧ s.cst m ≠ csOff) →
      ∃ t, exec (.evac n) s = .next t ∧ raisesOnly s t R.MC_ERR 1 siteMc) ∧
    (∀ n, n < 6 → s.cst n ≠ csEvacuating →
      ∃ t, exec (.evacCancel n) s = .next t ∧ raisesOnly s t R.MC_ERR 0 siteMc) ∧
    (∀ n, n < 6 → s.cst n ≠ csEvacuated →
      (∃ t, exec (.chTrain n) s = .next t ∧ raisesOnly s t R.MC_ERR 0 siteMc) ∧
      (∃ t, exec (.retire n) s = .next t ∧ raisesOnly s t R.MC_ERR 0 siteMc)) ∧
    (∀ n, n < 6 → s.cst n = csEvacuated →
      ∃ t, exec (.chTrain n) s = .next t ∧ (t.mc n).trainPend = true ∧ t = { s with mcs := t.mcs } ∧ ∀ m, m ≠ n → t.mc m = s.mc m) ∧
    (∀ v, F.MC_CTL_EN.get v = 1 → s.on R.MC_STAT F.MC_STAT_INIT_DONE = false →
      ∃ t, exec (.mcCtlWrite v) s = .next t ∧ raisesOnly s t R.MC_ERR 0 siteMc) ∧
    (∀ v, F.MC_CTL_EN.get v = 0 ∨ s.on R.MC_STAT F.MC_STAT_INIT_DONE = true →
      exec (.mcCtlWrite v) s = .next (s.wr R.MC_CTL (v &&& 0xf33f))) ∧
    (∀ n v, n < 6 → ∃ t, exec (.devTempWrite n v) s = .next t ∧ t.rd (R.MC_DEV_TEMP n) = v &&& 0xff ∧
      (t.mc n).devAt = s.cyc ∧ (t.mc n).stale = false ∧ t = { s with regs := t.regs, mcs := t.mcs } ∧ readsKept s t [R.MC_DEV_TEMP n])

/-- Every doorbell counts; RUNNING and ABORTING take DB_PEND, IDLE and HALTED ignore it, PARKED reads NEXT again; START or
ABORT in its cycle discards it (R315, R317, R320, R335). -/
def Obligations.DmaDoorbellsActByChannelState : Prop :=
  ∀ (s : State) (c : Nat), c < 32 → s.mainReset = false →
    let gone := (s.dma c).startAt = some s.cyc ∨ (s.dma c).abortAt = some s.cyc
    (∃ t, exec (.doorbellRing c) s = .next t ∧ t.rdN (R.DMA_DOORBELLS c) = min 0xffffffff (s.rdN (R.DMA_DOORBELLS c) + 1) ∧
      readsKept s t [R.DMA_DOORBELLS c, R.DMA_CH_STAT c] ∧
      (gone → t.rd (R.DMA_CH_STAT c) = s.rd (R.DMA_CH_STAT c) ∧ t = { s with regs := t.regs }) ∧
      (¬ gone → s.dst c = dmRunning ∨ s.dst c = dmAborting ∨ (s.dst c = dmParked ∧ (s.dma c).wait = .again) →
        t.rd (R.DMA_CH_STAT c) = F.DMA_CH_STAT_DB_PEND.put (s.rd (R.DMA_CH_STAT c)) 1 ∧
        t.dma c = (if s.on (R.DMA_CH_STAT c) F.DMA_CH_STAT_DB_PEND then s.dma c else { s.dma c with ringAt := some s.cyc }) ∧
        t = { s with regs := t.regs, dmas := t.dmas } ∧ ∀ m, m ≠ c → t.dma m = s.dma m) ∧
      (¬ gone → s.dst c = dmParked → (s.dma c).wait ≠ .again →
        t.rd (R.DMA_CH_STAT c) = F.DMA_CH_STAT_DB_PEND.put (s.rd (R.DMA_CH_STAT c)) 0 ∧
        t.dma c = { s.dma c with wait := .again, dbRead := true } ∧
        t = { s with regs := t.regs, dmas := t.dmas } ∧ ∀ m, m ≠ c → t.dma m = s.dma m) ∧
      (s.dst c = dmIdle ∨ s.dst c = dmHalted →
        t.rd (R.DMA_CH_STAT c) = s.rd (R.DMA_CH_STAT c) ∧ t = { s with regs := t.regs })) ∧
    (s.dst c ≠ dmIdle ∨ s.on (R.DMA_CH_CTL c) F.DMA_CH_CTL_EN = false →
      ∃ t, exec (.dmaStart c) s = .next t ∧ raisesOnly s t (R.DMA_CH_ERR c) 5 (siteDma c)) ∧
    (s.dst c ≠ dmHalted →
      ∃ t, exec (.dmaResume c) s = .next t ∧ raisesOnly s t (R.DMA_CH_ERR c) 5 (siteDma c))

/-- JOB_WR takes an index below JOB_ENTRIES and refuses any other; START moves a STOPPED engine with EN = 1 to IDLE (R326,
R334, R337). -/
def Obligations.FirnJobIndexStaysBelowItsEntries : Prop :=
  ∀ (s : State) (e : Nat), e < 8 → s.mainReset = false →
    (∀ v : Word, v.toNat % 65536 < s.rdN (R.FIRN_JOB_ENTRIES e) →
      exec (.jobWrWrite e v) s = .next (s.wr (R.FIRN_JOB_WR e) (v &&& 0xffff))) ∧
    (∀ v : Word, s.rdN (R.FIRN_JOB_ENTRIES e) ≤ v.toNat % 65536 →
      ∃ t, exec (.jobWrWrite e v) s = .next t ∧ raisesOnly s t (R.FIRN_EERR e) 8 (siteFirn e)) ∧
    (s.fst e = fiStopped → s.on (R.FIRN_ECTL e) F.FIRN_ECTL_EN = true →
      ∃ t, exec (.firnStart e) s = .next t ∧ t.rd (R.FIRN_ESTAT e) = F.FIRN_ESTAT_STATE.put (s.rd (R.FIRN_ESTAT e)) fiIdle ∧ regFrame s t [R.FIRN_ESTAT e]) ∧
    (s.fst e ≠ fiStopped ∨ s.on (R.FIRN_ECTL e) F.FIRN_ECTL_EN = false → exec (.firnStart e) s = .next s)

/-- SET and STEP move network time as R347 says or are refused untouched; LATCH copies it; INCR_NS is range-checked (R347,
R348, R351). -/
def Obligations.TimeBaseStepsSetsAndLatches : Prop :=
  ∀ s : State, s.mainReset = false →
    (s.on R.PTP_PSTAT F.PTP_PSTAT_TIME_VALID = false → ∃ t, exec .ptpSet s = .next t ∧
      t.time.nt = s.rd R.PTP_SET_HI ++ s.rd R.PTP_SET_LO ++ 0#32 ∧ t.rd R.PTP_PSTAT = F.PTP_PSTAT_TIME_VALID.put (s.rd R.PTP_PSTAT) 1 ∧
      t.rdN R.PTP_STEPS = min 0xffffffff (s.rdN R.PTP_STEPS + 1) ∧
      ((∀ k, k < 16 → s.tpState k ≠ 2 ∧ (s.tp k).edges = [] ∧ (s.tp k).active = none) →
        readsKept s t ([R.PTP_PSTAT, R.PTP_STEPS] ++ eventRegs 1121))) ∧
    (s.on R.PTP_PSTAT F.PTP_PSTAT_TIME_VALID = true → ∃ t, exec .ptpSet s = .next t ∧
      t.rdN R.PTP_STEPS_REFUSED = min 0xffffffff (s.rdN R.PTP_STEPS_REFUSED + 1) ∧ t.rd R.PTP_PERR = (bit 0).put (s.rd R.PTP_PERR) 1 ∧
      evFrame s t (R.PTP_STEPS_REFUSED :: (errorRegs R.PTP_PERR sitePtp ++ eventRegs 1122))) ∧
    (s.rdN R.PTP_STEP_MAX < (s.rd R.PTP_ADJ_HI ++ s.rd R.PTP_ADJ_LO).toInt.natAbs → ∃ t, exec .ptpStep s = .next t ∧
      t.rdN R.PTP_STEPS_REFUSED = min 0xffffffff (s.rdN R.PTP_STEPS_REFUSED + 1) ∧ t.rd R.PTP_PERR = (bit 0).put (s.rd R.PTP_PERR) 1 ∧
      evFrame s t (R.PTP_STEPS_REFUSED :: (errorRegs R.PTP_PERR sitePtp ++ eventRegs 1122))) ∧
    ((s.rd R.PTP_ADJ_HI ++ s.rd R.PTP_ADJ_LO).toInt.natAbs ≤ s.rdN R.PTP_STEP_MAX → ∃ t, exec .ptpStep s = .next t ∧
      t.time.nt = s.time.nt + (s.rd R.PTP_ADJ_HI ++ s.rd R.PTP_ADJ_LO ++ 0#32) ∧
      t.rdN R.PTP_STEPS = min 0xffffffff (s.rdN R.PTP_STEPS + 1) ∧
      ((∀ k, k < 16 → s.tpState k ≠ 2 ∧ (s.tp k).edges = [] ∧ (s.tp k).active = none) →
        readsKept s t (R.PTP_STEPS :: eventRegs 1121))) ∧
    (∃ t, exec .ptpLatch s = .next t ∧ t.rd R.PTP_LATCH_HI ++ t.rd R.PTP_LATCH_LO ++ t.rd R.PTP_LATCH_FRAC = s.time.nt ∧
      t.on R.PTP_LATCH_STAT (bit 31) = true ∧
      t.gf R.PTP_LATCH_STAT ⟨0, 16⟩ = (s.gf R.PTP_LATCH_STAT ⟨0, 16⟩ + 1) % 65536 ∧
      t.gf R.PTP_LATCH_STAT ⟨16, 15⟩ = s.gf R.PTP_LATCH_STAT ⟨16, 15⟩ ∧
      regFrame s t [R.PTP_LATCH_LO, R.PTP_LATCH_HI, R.PTP_LATCH_FRAC, R.PTP_LATCH_STAT]) ∧
    (∀ v : Word,
      let inc := v.toNat % 16 * 2 ^ 32 + s.rdN R.PTP_INCR_FRAC
      (7992 * 2 ^ 32 ≤ inc * 1000 → inc * 1000 ≤ 8008 * 2 ^ 32 → ∃ t, exec (.incrNsWrite v) s = .next t ∧
        t.rdN R.PTP_INCR_NS = v.toNat % 16 ∧ t.time = { s.time with incr := BitVec.ofNat 96 inc } ∧
        t = { s with regs := t.regs, time := t.time } ∧ readsKept s t [R.PTP_INCR_NS]) ∧
      (inc * 1000 < 7992 * 2 ^ 32 ∨ 8008 * 2 ^ 32 < inc * 1000 → ∃ t, exec (.incrNsWrite v) s = .next t ∧
        raisesOnly s t R.PTP_PERR 1 sitePtp))

/-- TCMD.ARM in IDLE latches the parameters when they are valid and sets CFG_ERR when they are not; elsewhere it is ignored
(R355, R356). -/
def Obligations.PulseGeneratorArmsOnlyWithValidParameters : Prop :=
  ∀ (s : State) (k : Nat), k < 16 → s.mainReset = false →
    let start : Int := (s.rd (R.TPG_START_HI k) ++ s.rd (R.TPG_START_LO k)).toInt * 4 + s.gf (R.TPG_FRAC k) ⟨0, 2⟩
    let per := s.rdN (R.TPG_PERIOD k) * 4 + s.gf (R.TPG_FRAC k) ⟨2, 2⟩
    let wid := s.rdN (R.TPG_WIDTH k) * 4 + s.gf (R.TPG_FRAC k) ⟨4, 2⟩
    let mode1 := s.on (R.TPG_TCTL k) F.TPG_TCTL_START_MODE
    let valid := 32 ≤ wid ∧ (s.rdN (R.TPG_COUNT k) = 1 ∨ wid + 32 ≤ per) ∧ (mode1 = true → 1024 ≤ start)
    (s.tpState k = 0 → valid → ∃ t, exec (.tpArm k) s = .next t ∧
      t.tpState k = (if mode1 then 1 else 2) ∧ (t.tp k).per = per ∧ (t.tp k).wid = wid ∧ (t.tp k).count = s.rdN (R.TPG_COUNT k) ∧
      (t.tp k).outEn = s.on (R.TPG_TCTL k) F.TPG_TCTL_OUT_EN ∧ (t.tp k).pol = s.on (R.TPG_TCTL k) F.TPG_TCTL_POL ∧
      (mode1 = false → (t.tp k).s0 = start) ∧ (∀ j, j ≠ k → t.tp j = s.tp j) ∧
      t.outbox = (if (s.tp k).pol = s.on (R.TPG_TCTL k) F.TPG_TCTL_POL then s.outbox
        else .tpOut k (s.on (R.TPG_TCTL k) F.TPG_TCTL_POL) none :: s.outbox) ∧
      t = { s with regs := t.regs, tps := t.tps, outbox := t.outbox } ∧ readsKept s t [R.TPG_TSTAT k, R.TPG_NEXT_LO k, R.TPG_NEXT_HI k]) ∧
    (s.tpState k = 0 → ¬ valid → ∃ t, exec (.tpArm k) s = .next t ∧ raisesOnly s t (R.TPG_TERR k) 2 (siteTp k)) ∧
    (s.tpState k ≠ 0 → exec (.tpArm k) s = .next s)

/-- After LOCK.ROUTE a write of CH_CTL or CONS changes neither: LOCK_VIOL is set, source 9 fires, the first violation is
captured (R363, R382, R427). -/
def Obligations.LockedRoutesIgnoreWritesAndRecordTheViolation : Prop :=
  ∀ (s : State) (m : Master) (cons : Bool) (i : Nat) (v : Word), i < (if cons then 128 else 256) → s.mainReset = false →
    let addr := if cons then R.EVF_CONS i else R.EVF_CH_CTL i
    (s.on R.EVF_LOCK (bit 0) = true → s.on R.ERRLOG_GERR (bit 0) = false →
      ∃ t, exec (.evfRouteWrite m cons i v) s = .next t ∧ t.on R.ERRLOG_GERR (bit 0) = true ∧ t.irqPend 9 = true ∧
        t.rd64N R.ERRLOG_LOCK_ADDR_LO R.ERRLOG_LOCK_ADDR_HI = addr ∧ t.rdN R.ERRLOG_LOCK_MASTER = masterCode m ∧
        t.on R.ERRLOG_BLOCK_STICKY (bit 4) = true ∧
        evFrame s t ([R.ERRLOG_GERR, R.ERRLOG_LOCK_ADDR_LO, R.ERRLOG_LOCK_ADDR_HI, R.ERRLOG_LOCK_MASTER]
          ++ recordRegs ⟨4, 3, 0, 0⟩ ++ eventRegs 9)) ∧
    (s.on R.EVF_LOCK (bit 0) = true → s.on R.ERRLOG_GERR (bit 0) = true →
      ∃ t, exec (.evfRouteWrite m cons i v) s = .next t ∧ t.irqPend 9 = true ∧ evFrame s t (eventRegs 9)) ∧
    (s.on R.EVF_LOCK (bit 0) = false → cons = true → consOk i = true →
      exec (.evfRouteWrite m cons i v) s = .next (s.wr (R.EVF_CONS i) (v &&& 0x1ff))) ∧
    (s.on R.EVF_LOCK (bit 0) = false → cons = true → consOk i = false → exec (.evfRouteWrite m cons i v) s = .next s) ∧
    (s.on R.EVF_LOCK (bit 0) = false → cons = false → F.EVF_CH_CTL_SRC.get v ≤ 1279 → F.EVF_CH_CTL_MIN_GAP.get v ≠ 0 →
      ∃ t, exec (.evfRouteWrite m cons i v) s = .next t ∧ t.rd (R.EVF_CH_CTL i) = v &&& 0x03ff87ff ∧
        (F.EVF_CH_CTL_SRC.get v ≠ F.EVF_CH_CTL_SRC.get (s.rd (R.EVF_CH_CTL i)) ∨
            (F.EVF_CH_CTL_EN.get v = 0 ∧ F.EVF_CH_CTL_EN.get (s.rd (R.EVF_CH_CTL i)) = 1) → (t.chan i).pend = false) ∧
        (F.EVF_CH_CTL_SRC.get v = F.EVF_CH_CTL_SRC.get (s.rd (R.EVF_CH_CTL i)) →
            F.EVF_CH_CTL_EN.get v = F.EVF_CH_CTL_EN.get (s.rd (R.EVF_CH_CTL i)) → t.chan i = s.chan i) ∧
        (∀ j, j ≠ i → t.chan j = s.chan j) ∧ t = { s with regs := t.regs, chans := t.chans } ∧ readsKept s t [R.EVF_CH_CTL i])

/-- An event within MIN_GAP of the last delivery is held, or merges into the held one; the held one is delivered after
MIN_GAP (R360). -/
def Obligations.EventChannelsDeliverOncePerMinGap : Prop :=
  ∀ (s : State) (n : Nat) (e : Nat × Nat × Bool), n < 256 → s.mainReset = false →
    (s.chanIn.find? (fun p => p.1 == n) = some e → (s.chan n).pend = true →
      ∃ t, exec (.channelEventArrive n) s = .next t ∧ t.rdN (R.EVF_OVERRUN n) = min 0xffffffff (s.rdN (R.EVF_OVERRUN n) + 1) ∧
        t = { s with regs := t.regs, chanIn := erase1 e s.chanIn } ∧ readsKept s t [R.EVF_OVERRUN n]) ∧
    (s.chanIn.find? (fun p => p.1 == n) = some e → (s.chan n).pend = false → s.inGap n = true →
      ∃ t, exec (.channelEventArrive n) s = .next t ∧ (t.chan n).pend = true ∧ (t.chan n).last = (s.chan n).last ∧
        t.rdN (R.EVF_OVERRUN n) = min 0xffffffff (s.rdN (R.EVF_OVERRUN n) + 1) ∧
        t.rd R.EVF_STAT = F.EVF_STAT_LAST_OVR.put (F.EVF_STAT_LOOP_SUSPECT.put (s.rd R.EVF_STAT) 1) n ∧
        (∀ m, m ≠ n → t.chan m = s.chan m) ∧
        t = { s with regs := t.regs, chans := t.chans, chanIn := t.chanIn, fixedIn := t.fixedIn, errAt := t.errAt } ∧
        readsKept s t (R.EVF_OVERRUN n :: errorRegs R.EVF_STAT siteEvf)) ∧
    (s.chanIn.find? (fun p => p.1 == n) = some e → (s.chan n).pend = false → s.inGap n = false →
      ∃ t, exec (.channelEventArrive n) s = .next t ∧
        t.chan n = ⟨some s.per, s.gf (R.EVF_CH_CTL n) F.EVF_CH_CTL_MIN_GAP, false⟩ ∧ (∀ m, m ≠ n → t.chan m = s.chan m) ∧
        t.rdN (R.EVF_EVENTS n) = min 0xffffffff (s.rdN (R.EVF_EVENTS n) + 1) ∧ t.consIn = s.consIn ++ s.consOf n ∧
        t = { s with regs := t.regs, chans := t.chans, chanIn := erase1 e s.chanIn, consIn := t.consIn } ∧
        readsKept s t [R.EVF_EVENTS n]) ∧
    ((s.chan n).pend = true → s.inGap n = false →
      ∃ t, exec (.pendingEventDeliver n) s = .next t ∧
        t.chan n = ⟨some s.per, s.gf (R.EVF_CH_CTL n) F.EVF_CH_CTL_MIN_GAP, false⟩ ∧ (∀ m, m ≠ n → t.chan m = s.chan m) ∧
        t.rdN (R.EVF_EVENTS n) = min 0xffffffff (s.rdN (R.EVF_EVENTS n) + 1) ∧ t.consIn = s.consIn ++ s.consOf n ∧
        t = { s with regs := t.regs, chans := t.chans, consIn := t.consIn } ∧ readsKept s t [R.EVF_EVENTS n]) ∧
    ((s.chan n).pend = false ∨ s.inGap n = true → exec (.pendingEventDeliver n) s = .next s) ∧
    (s.inGap n = true ↔ ∃ c, (s.chan n).last = some c ∧ s.per < c + (s.chan n).gap)

/-- TO_G_0 and TO_G_1 fire sources 48 and 49; TO_APP fires source 50 for a privileged master and is denied to any other
(R370, R376, R378, R387, R392). -/
def Obligations.MailboxDoorbellsFireTheirSources : Prop :=
  ∀ s : State, s.inPor = false → s.mainReset = false →
    (∃ t, exec .toG0 s = .next t ∧ t.irqPend 48 = true ∧ t.gBell = s.gBell.set 0 true ∧ t.doorPer = s.doorPer.set 0 (some s.per) ∧
      t = { s with regs := t.regs, chanIn := t.chanIn, fixedIn := t.fixedIn, gBell := t.gBell, doorPer := t.doorPer } ∧ readsKept s t (eventRegs 48)) ∧
    (∃ t, exec .toG1 s = .next t ∧ t.irqPend 49 = true ∧ t.gBell = s.gBell.set 1 true ∧ t.doorPer = s.doorPer.set 1 (some s.per) ∧
      t = { s with regs := t.regs, chanIn := t.chanIn, fixedIn := t.fixedIn, gBell := t.gBell, doorPer := t.doorPer } ∧ readsKept s t (eventRegs 49)) ∧
    (∀ m, masterPriv m = true → ∃ t, exec (.toApp m) s = .next t ∧ t.irqPend 50 = true ∧ t.doorPer = s.doorPer.set 2 (some s.per) ∧
      t = { s with regs := t.regs, chanIn := t.chanIn, fixedIn := t.fixedIn, doorPer := t.doorPer } ∧ readsKept s t (eventRegs 50) ∧
      (s.irqPend 50 = true → t.rdN R.IRQC_MERGED = min 0xffffffff (s.rdN R.IRQC_MERGED + 1)) ∧
      (s.irqPend 50 = false → t.rd R.IRQC_MERGED = s.rd R.IRQC_MERGED)) ∧
    (∀ m, masterPriv m = false → ∃ t, exec (.toApp m) s = .next t ∧
      t.rdN R.SYS_PRIV_DENIED = min 0xffffffff (s.rdN R.SYS_PRIV_DENIED + 1) ∧ regFrame s t [R.SYS_PRIV_DENIED])

/-- A write of ID s to COMPLETE[t] clears PEND bit s, enabled at t or not; an unprivileged one of a privileged source is
denied (R388, R389, R393). -/
def Obligations.CompleteClearsExactlyItsPendBit : Prop :=
  ∀ (s : State) (m : Master) (t id : Nat), t < 18 → id < 1280 → s.mainReset = false →
    (masterPriv m = true ∨ (irqTargetP t = false ∧ s.irqPriv id = false) →
      ∃ u, exec (.irqComplete m t id) s = .next u ∧ u.irqPend id = false ∧
        (∀ j, j < 1280 → j ≠ id → u.irqPend j = s.irqPend j) ∧ regFrame s u [R.IRQC_PEND (id / 32)]) ∧
    (masterPriv m = false → irqTargetP t = true ∨ s.irqPriv id = true →
      ∃ u, exec (.irqComplete m t id) s = .next u ∧
        u.rdN R.SYS_PRIV_DENIED = min 0xffffffff (s.rdN R.SYS_PRIV_DENIED + 1) ∧ regFrame s u [R.SYS_PRIV_DENIED])

/-- SRAM accesses: single-bit errors are corrected and counted, double-bit errors answer an error and abandon a partial write
(R366, R374, R390). -/
def Obligations.SramAccessesFollowSecded : Prop :=
  ∀ (s : State) (a n ecc : Nat), 0x08000000 ≤ a → a % 8 + n ≤ 8 → a + n ≤ 0x08800000 → 0 < n → ecc < 3 → s.mainReset = false →
    let old := s.wordErr (a / 8)
    let e := if ecc ≤ old then old else ecc
    let ueRegs := [R.SYS_SRAM_UE, R.SYS_SRAM_ERR_LO, R.SYS_SRAM_ERR_HI] ++ errorRegs R.SYS_SYS_ERR siteSys ++ eventRegs 2
    let ue (t : State) : Prop := t.rdN R.SYS_SRAM_UE = min 0xffffffff (s.rdN R.SYS_SRAM_UE + 1) ∧
      t.rd64N R.SYS_SRAM_ERR_LO R.SYS_SRAM_ERR_HI = a / 8 * 8 ∧ t.rd R.SYS_SYS_ERR = (bit 0).put (s.rd R.SYS_SYS_ERR) 1 ∧
      t.irqPend 2 = true ∧ (s.on R.SYS_SYS_ERR (bit 0) = false → t.irqPend 1 = true) ∧ t.wordErr (a / 8) = 2 ∧
      (∀ w, w ≠ a / 8 → t.wordErr w = s.wordErr w) ∧
      (∀ b, b / 8 ≠ a / 8 → t.rawByte b = s.rawByte b) ∧ (old = 2 → ∀ b, t.rawByte b = s.rawByte b) ∧
      (∀ b, b ∉ ueRegs → t.rd b = s.rd b) ∧
      t = { s with regs := t.regs, chanIn := t.chanIn, fixedIn := t.fixedIn, errAt := t.errAt, mem := t.mem, memErr := t.memErr,
                   freeIx := t.freeIx, outbox := t.outbox }
    (∀ m : Master, (∀ h p, m ≠ .hart h p) →
      (masterCoherent m s = true → (s.line? a).isSome = true →
        exec (.sramAccess m a n none ecc) s = .next (s.emit (.busResp m false (leNat (s.cohBytes a n))))) ∧
      (masterCoherent m s = false ∨ s.line? a = none →
        (e = 0 → exec (.sramAccess m a n none ecc) s = .next (s.emit (.busResp m false (leNat (s.rdBytes a n))))) ∧
        (e = 1 → ∃ t, exec (.sramAccess m a n none ecc) s = .next t ∧ t.rdN R.SYS_SRAM_CE = min 0xffffffff (s.rdN R.SYS_SRAM_CE + 1) ∧
          t.irqPend 2 = true ∧ t.wordErr (a / 8) = 0 ∧ (∀ w, w ≠ a / 8 → t.wordErr w = s.wordErr w) ∧
          t = { s with regs := t.regs, chanIn := t.chanIn, fixedIn := t.fixedIn, memErr := t.memErr,
                       outbox := .busResp m false (leNat (s.rdBytes a n)) :: s.outbox } ∧
          readsKept s t (R.SYS_SRAM_CE :: eventRegs 2)) ∧
        (e = 2 → ∃ t, exec (.sramAccess m a n none ecc) s = .next t ∧ ue t ∧
          t.outbox = .busResp m true (leNat (t.rdBytes a n)) :: s.outbox)) ∧
      (∀ d : List (BitVec 8), d.length = n → masterCoherent m s = false ∨ s.line? a = none →
        (n = 8 ∨ e = 0 → ∃ t, exec (.sramAccess m a n (some d) ecc) s = .next t ∧ t.wordErr (a / 8) = 0 ∧
          (∀ w, w ≠ a / 8 → t.wordErr w = s.wordErr w) ∧
          (∀ b, t.rawByte b = if a ≤ b ∧ b < a + n then d.getD (b - a) 0 else s.rawByte b) ∧
          t = { s with mem := t.mem, memErr := t.memErr, outbox := .busResp m false 0 :: s.outbox }) ∧
        (n < 8 → e = 1 → ∃ t, exec (.sramAccess m a n (some d) ecc) s = .next t ∧
          (∀ b, t.rawByte b = if a ≤ b ∧ b < a + n then d.getD (b - a) 0 else s.rawByte b) ∧ t.wordErr (a / 8) = 0 ∧
          (∀ w, w ≠ a / 8 → t.wordErr w = s.wordErr w) ∧
          t.rdN R.SYS_SRAM_CE = min 0xffffffff (s.rdN R.SYS_SRAM_CE + 1) ∧ t.irqPend 2 = true ∧
          (∀ b, b ∉ R.SYS_SRAM_CE :: eventRegs 2 → t.rd b = s.rd b) ∧
          t = { s with regs := t.regs, chanIn := t.chanIn, fixedIn := t.fixedIn, mem := t.mem, memErr := t.memErr,
                       outbox := .busResp m false 0 :: s.outbox }) ∧
        (n < 8 → e = 2 → ∃ t, exec (.sramAccess m a n (some d) ecc) s = .next t ∧ ue t ∧ t.outbox = .busResp m true 0 :: s.outbox)) ∧
      (∀ (d : List (BitVec 8)) (l : CacheLine), d.length = n → masterCoherent m s = true → s.line? a = some l → n = 8 ∨ e = 0 →
        ∃ t, exec (.sramAccess m a n (some d) ecc) s = .next t ∧
          (∀ b, t.rawByte b = if a ≤ b ∧ b < a + n then d.getD (b - a) 0 else s.rawByte b) ∧
          t.line? a = some { l with data := l.data.take (a % 64) ++ d ++ l.data.drop (a % 64 + n) } ∧
          (∀ b, b / 64 ≠ a / 64 → t.line? b = s.line? b) ∧
          t = { s with mem := t.mem, memErr := t.memErr, cache := t.cache, outbox := .busResp m false 0 :: s.outbox })) ∧
    (∀ (h : Nat) (p : Bool) (d : List (BitVec 8)), h < 8 → d.length = n →
      exec (.sramAccess (.hart h p) a n (some d) ecc) s
        = .next ({ s with wbuf := s.wbuf ++ [({ hart := h, addr := a, data := d } : WbEnt)] }.emit (.busResp (.hart h p) false 0))) ∧
    (∀ (h : Nat) (p : Bool), h < 8 →
      ((s.line? a).isSome = true → exec (.sramAccess (.hart h p) a n none ecc) s
        = .next (s.emit (.busResp (.hart h p) false (leNat ((List.range n).map (fun i => s.hartByte h (a + i))))))) ∧
      (s.line? a = none → s.cache.length < cacheLines → (∀ i, i < 8 → s.wordErr (a / 64 * 8 + i) = 0) → ecc = 0 →
        exec (.sramAccess (.hart h p) a n none ecc) s
          = .next ((s.setLine a { data := s.rdBytes (a / 64 * 64) 64 }).emit
              (.busResp (.hart h p) false (leNat ((List.range n).map (fun i => s.hartByte h (a + i))))))) ∧
      (s.line? a = none → s.cache.length < cacheLines → e = 2 →
        ∃ t v, exec (.sramAccess (.hart h p) a n none ecc) s = .next t ∧
          t.outbox = .coreTrap h 5 :: .busResp (.hart h p) true v :: s.outbox ∧ t.irqPend 2 = true ∧ t.wordErr (a / 8) = 2 ∧
          (∀ b, b / 8 ≠ a / 8 → t.rawByte b = s.rawByte b) ∧
          (∀ b, b ∉ R.SYS_SRAM_CE :: ueRegs → t.rd b = s.rd b) ∧
          t = { s with regs := t.regs, chanIn := t.chanIn, fixedIn := t.fixedIn, errAt := t.errAt, mem := t.mem, memErr := t.memErr,
                       freeIx := t.freeIx, outbox := t.outbox }))

/-- CLAIM in UNPAIRED with ACT_IN inactive asserts ACT_OUT and starts CLAIMING; in any other role or with ACT_IN it sets
CFG_ERR (R395, R415). -/
def Obligations.TwinClaimsOnlyUnpairedWithActInInactive : Prop :=
  ∀ s : State, s.mainReset = false →
    (s.twRole = roUnpaired → s.on R.TWIN_TSTAT F.TWIN_TSTAT_ACT_IN = false → ∃ t, exec .claim s = .next t ∧
      t.rd R.TWIN_TSTAT = F.TWIN_TSTAT_CLAIMING.put (F.TWIN_TSTAT_ACT_OUT.put (s.rd R.TWIN_TSTAT) 1) 1 ∧
      t.claimAt = some s.cyc ∧ t = { s with regs := t.regs, claimAt := t.claimAt } ∧ readsKept s t [R.TWIN_TSTAT]) ∧
    (s.twRole ≠ roUnpaired ∨ s.on R.TWIN_TSTAT F.TWIN_TSTAT_ACT_IN = true → ∃ t, exec .claim s = .next t ∧
      raisesOnly s t R.TWIN_TERR 0 siteTwin) ∧
    (∀ v, s.inPor = false → F.TWIN_TCTL_MUX_SETTLE_US.get v = 0 ∨ 100 < F.TWIN_TCTL_MUX_SETTLE_US.get v →
      ∃ t, exec (.tctlWrite v) s = .next t ∧ raisesOnly s t R.TWIN_TERR 0 siteTwin)

/-- VDD_CORE below WARN sets WARN_NOW and WARN_SEEN, counts in WARNS and fires source 8; while WARN_NOW is 1 it fires no more
(R423, R424, R430). -/
def Obligations.SupplyWarningRaisesOnceBelowItsLevel : Prop :=
  ∀ (s : State) (mv : Nat), mv < 1024 → s.inPor = false →
    (mv < 680 + 5 * s.gf R.SUP_SCTL F.SUP_SCTL_WARN → s.on R.SUP_SSTAT F.SUP_SSTAT_WARN_NOW = false →
      ∃ t, exec (.vddCoreWarn mv) s = .next t ∧ t.rd R.SUP_SSTAT = F.SUP_SSTAT_WARN_NOW.put (F.SUP_SSTAT_VCORE_MV.put (s.rd R.SUP_SSTAT) mv) 1 ∧
        t.rd R.SUP_SERR = (bit 0).put (s.rd R.SUP_SERR) 1 ∧
        t.rdN R.SUP_WARNS = min 0xffffffff (s.rdN R.SUP_WARNS + 1) ∧
        (s.mainReset = false → t.irqPend 8 = true) ∧
        evFrame s t ([R.SUP_SSTAT, R.SUP_SERR, R.SUP_WARNS] ++ recordRegs ⟨2, 0, 0, 0⟩ ++ eventRegs 8)) ∧
    (680 + 5 * s.gf R.SUP_SCTL F.SUP_SCTL_WARN ≤ mv ∨ s.on R.SUP_SSTAT F.SUP_SSTAT_WARN_NOW = true →
      exec (.vddCoreWarn mv) s = .next (s.sf R.SUP_SSTAT F.SUP_SSTAT_VCORE_MV mv)) ∧
    (690 + 5 * s.gf R.SUP_SCTL F.SUP_SCTL_WARN ≤ mv →
      exec (.vddCoreWarnClear mv) s = .next ((s.sf R.SUP_SSTAT F.SUP_SSTAT_VCORE_MV mv).sf R.SUP_SSTAT F.SUP_SSTAT_WARN_NOW 0)) ∧
    (mv < 690 + 5 * s.gf R.SUP_SCTL F.SUP_SCTL_WARN →
      exec (.vddCoreWarnClear mv) s = .next (s.sf R.SUP_SSTAT F.SUP_SSTAT_VCORE_MV mv))

/-- A 1 written to a bit of BLOCK_STICKY clears it and FIRST[b].VALID; ECMD.CLEAR does this for every block and clears GERR
(R428). -/
def Obligations.ErrorRecordClearsRearmTheCapture : Prop :=
  ∀ s : State, s.inPor = false →
    (∀ v : Word, ∃ t, exec (.blockStickyClear v) s = .next t ∧ t.rd R.ERRLOG_BLOCK_STICKY = s.rd R.ERRLOG_BLOCK_STICKY &&& ~~~ v ∧
      (∀ b, b < 32 → if v.getLsbD b then t.on (R.ERRLOG_FINFO b) F.ERRLOG_FINFO_VALID = false
        else t.rd (R.ERRLOG_FINFO b) = s.rd (R.ERRLOG_FINFO b)) ∧
      regFrame s t (R.ERRLOG_BLOCK_STICKY :: (List.range 32).map R.ERRLOG_FINFO)) ∧
    (∃ t, exec .errlogClear s = .next t ∧ t.rd R.ERRLOG_BLOCK_STICKY = 0 ∧ t.rd R.ERRLOG_GERR = 0 ∧
      (∀ b, b < 32 → t.on (R.ERRLOG_FINFO b) F.ERRLOG_FINFO_VALID = false) ∧
      regFrame s t (R.ERRLOG_BLOCK_STICKY :: R.ERRLOG_GERR :: (List.range 32).map R.ERRLOG_FINFO))

/-- TX_PUSH appends UTX unless 16 bytes wait; RX_POP takes the head; a byte received into a full FIFO is dropped with
RX_OVERRUN (R447, R449). -/
def Obligations.UartFifosHoldSixteenBytes : Prop :=
  ∀ (s : State) (i : Nat), i < 2 → s.mainReset = false →
    ((s.uart i).tx.length < 16 → exec (.uartTxPush i) s = .next (s.setUart i { s.uart i with
      tx := (s.uart i).tx ++ [(s.rd (R.UART_UTX i)).extractLsb' 0 8] })) ∧
    (16 ≤ (s.uart i).tx.length → exec (.uartTxPush i) s = .next s) ∧
    (exec (.uartRxPop i) s = .next (s.setUart i { s.uart i with rx := (s.uart i).rx.tail })) ∧
    (∀ b, s.on (R.UART_UCTL i) F.UART_UCTL_EN = true → (s.uart i).rx.length < 16 →
      ∃ t, exec (.uartByteRx i b false false) s = .next t ∧ t.uart i = { s.uart i with rx := (s.uart i).rx ++ [b] } ∧
        t.irqPend (1188 + 3 * i) = true ∧ (∀ j, j ≠ i → t.uart j = s.uart j) ∧
        t = { s with regs := t.regs, chanIn := t.chanIn, fixedIn := t.fixedIn, uarts := t.uarts } ∧
        readsKept s t (eventRegs (1188 + 3 * i))) ∧
    (∀ b, s.on (R.UART_UCTL i) F.UART_UCTL_EN = true → 16 ≤ (s.uart i).rx.length →
      ∃ t, exec (.uartByteRx i b false false) s = .next t ∧ t.rd (R.UART_UERR i) = (bit 0).put (s.rd (R.UART_UERR i)) 1 ∧
        evFrame s t (errorRegs (R.UART_UERR i) ⟨25, 0, i, 1190 + 3 * i⟩ ++ eventRegs (1188 + 3 * i))) ∧
    (∀ b, s.on (R.UART_UCTL i) F.UART_UCTL_EN = false → exec (.uartByteRx i b false false) s = .next s)

/-- Loss of the root PLL resets the main domain, leaves the island running, and is recorded as a sticky error of block SYS
(R22). -/
def Obligations.RootPllLossResetsTheMainDomainAlone : Prop :=
  ∀ s : State, s.inPor = false →
    ∃ t, exec .rootPllLoss s = .next t ∧ t.mainReset = true ∧ t.inPor = false ∧ t.on R.ERRLOG_BLOCK_STICKY (bit 0) = true ∧
      t.on R.SUP_RESET_CAUSE (bit 3) = true ∧
      (s.mainReset = false → ∀ a, isIsland a = false → a ≠ R.TWIN_TSTAT → t.rd a = resetWord a) ∧
      (s.mainReset = false → t.on R.GUARD_GSTAT F.GUARD_GSTAT_MAIN_IN_RESET = true) ∧
      (∀ a, isIsland a = true → a ∉ [R.SUP_RESET_CAUSE, R.GUARD_GSTAT] ++ recordRegs ⟨0, 3, 0, 0⟩ → t.rd a = s.rd a) ∧
      t.guardMem = s.guardMem ∧ t.fuses = s.fuses

/-- Each reset source resets its domains and sets its bit of RESET_CAUSE; power-on leaves POWER_ON alone; a held source holds
(R423, R433, R434). -/
def Obligations.ResetSourcesRecordTheirCause : Prop :=
  ∀ s : State,
    (∃ t, exec .porAssert s = .next t ∧ t.mainReset = true ∧ t.inPor = true ∧ t.rd R.SUP_RESET_CAUSE = 0x80 ∧
      (∀ a, a ≠ R.SUP_RESET_CAUSE → t.rd a = resetWord a) ∧ t.fuses = s.fuses) ∧
    (∃ t, exec .bothAonFeedsLost s = .next t ∧ t.mainReset = true ∧ t.inPor = true ∧ t.rd R.SUP_RESET_CAUSE = 0x80 ∧
      (∀ a, a ≠ R.SUP_RESET_CAUSE → t.rd a = resetWord a) ∧ t.fuses = s.fuses) ∧
    (s.inPor = false → ∃ t, exec .resetNAssert s = .next t ∧ t.mainReset = true ∧ t.hold.pin = true ∧
      t.on R.SUP_RESET_CAUSE (bit 4) = true ∧ ∀ k, k < 32 → k ≠ 4 → t.on R.SUP_RESET_CAUSE (bit k) = s.on R.SUP_RESET_CAUSE (bit k)) ∧
    (s.inPor = false → s.jtagDis = false → ∃ t, exec .debugReset s = .next t ∧ t.mainReset = true ∧
      t.on R.SUP_RESET_CAUSE (bit 5) = true ∧ ∀ k, k < 32 → k ≠ 5 → t.on R.SUP_RESET_CAUSE (bit k) = s.on R.SUP_RESET_CAUSE (bit k)) ∧
    (∀ mv, s.inPor = false → mv < 665 → ∃ t, exec (.vddCoreUv mv) s = .next t ∧ t.mainReset = true ∧ t.hold.coreUv = true ∧
      t.on R.SUP_RESET_CAUSE (bit 0) = true ∧ ∀ k, k < 32 → k ≠ 0 → t.on R.SUP_RESET_CAUSE (bit k) = s.on R.SUP_RESET_CAUSE (bit k)) ∧
    (s.inPor = false → ∃ t, exec .vddSramUv s = .next t ∧ t.mainReset = true ∧ t.hold.sramUv = true ∧
      t.on R.SUP_RESET_CAUSE (bit 1) = true ∧ ∀ k, k < 32 → k ≠ 1 → t.on R.SUP_RESET_CAUSE (bit k) = s.on R.SUP_RESET_CAUSE (bit k)) ∧
    (∀ mode, mode < 4 → s.mainReset = true → (s.inPor = true ∨ s.hold.pin = true ∨ s.hold.coreUv = true ∨ s.hold.sramUv = true) →
      exec (.mainResetRelease mode) s = .next s)

/-- IDCODE shows 0x1EA9053F, HIGHZ, CLAMP and BYPASS show 0, and the fuse instructions act as R474 says or bypass under
JTAG_DIS (R473, R474). -/
def Obligations.JtagInstructionsDriveTapAndFuses : Prop :=
  ∀ s : State,
    exec .idcode s = .next { s with jtagIr := 0x02, outbox := .jtagOut 0x1ea9053f :: s.outbox } ∧
    exec .highz s = .next { s with jtagIr := 0x03, outbox := .jtagOut 0 :: s.outbox } ∧
    exec .clamp s = .next { s with jtagIr := 0x04, outbox := .jtagOut 0 :: s.outbox } ∧
    (∀ code, code < 256 → exec (.bypass code) s = .next { s with jtagIr := code, outbox := .jtagOut 0 :: s.outbox }) ∧
    (s.jtagDis = false →
      (∀ a : BitVec 8, exec (.fuseSel a) s = .next { s with jtagIr := 0x20, fuseSel := a.toNat }) ∧
      (∀ v : Word, exec (.fuseData v) s = .next { s with jtagIr := 0x21, fuseData := v, outbox := .jtagOut (s.fuseWord s.fuseSel).toNat :: s.outbox }) ∧
      (∀ (mv : Nat) (temp : Int), 1710 ≤ mv → mv ≤ 1890 → 0 ≤ temp → temp ≤ 85 → ∃ t, exec (.fuseProg mv temp) s = .next t ∧
        (∀ w, t.fuseWord w = if w = s.fuseSel then s.fuseWord w ||| s.fuseData else s.fuseWord w) ∧
        t = { s with jtagIr := 0x22, fuses := t.fuses, outbox := .jtagOut 0 :: s.outbox }) ∧
      (∀ (mv : Nat) (temp : Int), mv < 1710 ∨ 1890 < mv ∨ temp < 0 ∨ 85 < temp →
        exec (.fuseProg mv temp) s = .next { s with jtagIr := 0x22, outbox := .jtagOut 0 :: s.outbox })) ∧
    (s.jtagDis = true →
      (∀ a, exec (.fuseSel a) s = .next { s with jtagIr := 0x20, outbox := .jtagOut 0 :: s.outbox }) ∧
      (∀ v, exec (.fuseData v) s = .next { s with jtagIr := 0x21, outbox := .jtagOut 0 :: s.outbox }) ∧
      (∀ mv temp, exec (.fuseProg mv temp) s = .next { s with jtagIr := 0x22, outbox := .jtagOut 0 :: s.outbox }))
end

