-- ==== Sys2Proof/Laws/SMap.lean ====
section
/-! SUPPORT. Sparse maps: reading after a write, and that every operation keeps the canonical form. -/

namespace Sys2Proof

variable {β : Type}

@[simp] theorem SMap.get_nil (d : Nat → β) (k : Nat) : SMap.get d [] k = d k := rfl

theorem SMap.get_del_same (d : Nat → β) (m : SMap β) (k : Nat) : (m.del k).get d k = d k := by
  induction m with
  | nil => rfl
  | cons e m ih =>
    obtain ⟨j, v⟩ := e
    by_cases h : k = j <;> simp [SMap.del, SMap.get, h]
    · simpa [h] using ih
    · exact ih

theorem SMap.get_del_ne (d : Nat → β) (m : SMap β) {i k : Nat} (h : i ≠ k) : (m.del k).get d i = m.get d i := by
  induction m with
  | nil => rfl
  | cons e m ih =>
    obtain ⟨j, v⟩ := e
    by_cases hk : k = j
    · subst hk; simp [SMap.del, SMap.get, h, ih]
    · simp [SMap.del, SMap.get, hk, ih]

theorem SMap.get_ins_same (d : Nat → β) (m : SMap β) (k : Nat) (v : β) : (m.ins k v).get d k = v := by
  induction m with
  | nil => simp [SMap.ins, SMap.get]
  | cons e m ih =>
    obtain ⟨j, w⟩ := e
    by_cases h1 : k < j
    · simp [SMap.ins, SMap.get, h1]
    · by_cases h2 : k = j <;> simp [SMap.ins, SMap.get, h1, h2, ih]

theorem SMap.get_ins_ne (d : Nat → β) (m : SMap β) {i k : Nat} (v : β) (h : i ≠ k) :
    (m.ins k v).get d i = m.get d i := by
  induction m with
  | nil => simp [SMap.ins, SMap.get, h]
  | cons e m ih =>
    obtain ⟨j, w⟩ := e
    by_cases h1 : k < j
    · simp [SMap.ins, SMap.get, h1, h]
    · by_cases h2 : k = j
      · subst h2; simp [SMap.ins, SMap.get, h]
      · simp [SMap.ins, SMap.get, h1, h2, ih]

/-- A read of the key just written gives the value written. -/
@[simp] theorem SMap.get_set_same [DecidableEq β] (d : Nat → β) (m : SMap β) (k : Nat) (v : β) :
    (m.set d k v).get d k = v := by
  by_cases h : v = d k
  · simp [SMap.set, h, SMap.get_del_same]
  · simp [SMap.set, h, SMap.get_ins_same]

/-- A write leaves every other key alone. -/
theorem SMap.get_set_ne [DecidableEq β] (d : Nat → β) (m : SMap β) {i k : Nat} (v : β) (h : i ≠ k) :
    (m.set d k v).get d i = m.get d i := by
  by_cases hv : v = d k
  · simp [SMap.set, hv, SMap.get_del_ne d m h]
  · simp [SMap.set, hv, SMap.get_ins_ne d m v h]

theorem SMap.get_set [DecidableEq β] (d : Nat → β) (m : SMap β) (i k : Nat) (v : β) :
    (m.set d k v).get d i = if i = k then v else m.get d i := by
  by_cases h : i = k
  · subst h; simp
  · simp [h, SMap.get_set_ne d m v h]

theorem SMap.wfFrom_mono [DecidableEq β] {d : Nat → β} {a b : Nat} {m : SMap β} (h : a ≤ b)
    (hm : SMap.wfFrom d b m = true) : SMap.wfFrom d a m = true := by
  cases m with
  | nil => rfl
  | cons e m =>
    obtain ⟨j, v⟩ := e
    simp only [SMap.wfFrom, Bool.and_eq_true, decide_eq_true_eq] at hm ⊢
    exact ⟨⟨le_trans h hm.1.1, hm.1.2⟩, hm.2⟩

theorem SMap.wfFrom_del [DecidableEq β] {d : Nat → β} {m : SMap β} (k : Nat) :
    ∀ {lo : Nat}, SMap.wfFrom d lo m = true → SMap.wfFrom d lo (m.del k) = true := by
  induction m with
  | nil => intro lo _; rfl
  | cons e m ih =>
    obtain ⟨j, v⟩ := e
    intro lo h
    simp only [SMap.wfFrom, Bool.and_eq_true, decide_eq_true_eq] at h
    by_cases hk : k = j
    · subst hk
      simp only [SMap.del, if_true]
      exact SMap.wfFrom_mono (Nat.le_succ_of_le h.1.1) (ih h.2)
    · simp only [SMap.del, hk, if_false, SMap.wfFrom, Bool.and_eq_true, decide_eq_true_eq]
      exact ⟨h.1, ih h.2⟩

theorem SMap.wfFrom_ins [DecidableEq β] {d : Nat → β} {m : SMap β} {k : Nat} {v : β} (hv : v ≠ d k) :
    ∀ {lo : Nat}, lo ≤ k → SMap.wfFrom d lo m = true → SMap.wfFrom d lo (m.ins k v) = true := by
  induction m with
  | nil => intro lo hk _; simp [SMap.ins, SMap.wfFrom, hk, hv]
  | cons e m ih =>
    obtain ⟨j, w⟩ := e
    intro lo hk h
    simp only [SMap.wfFrom, Bool.and_eq_true, decide_eq_true_eq] at h
    by_cases h1 : k < j
    · simp only [SMap.ins, h1, if_true, SMap.wfFrom, Bool.and_eq_true, decide_eq_true_eq]
      exact ⟨⟨hk, hv⟩, ⟨h1, h.1.2⟩, h.2⟩
    · by_cases h2 : k = j
      · subst h2
        simp only [SMap.ins, lt_irrefl, if_false, if_true, SMap.wfFrom, Bool.and_eq_true, decide_eq_true_eq]
        exact ⟨⟨hk, hv⟩, h.2⟩
      · simp only [SMap.ins, h1, h2, if_false, SMap.wfFrom, Bool.and_eq_true, decide_eq_true_eq]
        exact ⟨h.1, ih (by omega) h.2⟩

/-- A write keeps the canonical form. -/
theorem SMap.wf_set [DecidableEq β] {d : Nat → β} {m : SMap β} (k : Nat) (v : β) (h : SMap.wf d m = true) :
    SMap.wf d (m.set d k v) = true := by
  by_cases hv : v = d k
  · simpa [SMap.set, hv, SMap.wf] using SMap.wfFrom_del k h
  · simpa [SMap.set, hv, SMap.wf] using SMap.wfFrom_ins hv (Nat.zero_le k) h

/-- Leaving entries out keeps the canonical form. -/
theorem SMap.wfFrom_filter [DecidableEq β] {d : Nat → β} {m : SMap β} (p : Nat × β → Bool) :
    ∀ {lo : Nat}, SMap.wfFrom d lo m = true → SMap.wfFrom d lo (m.filter p) = true := by
  induction m with
  | nil => intro lo _; rfl
  | cons e m ih =>
    obtain ⟨j, v⟩ := e
    intro lo h
    simp only [SMap.wfFrom, Bool.and_eq_true, decide_eq_true_eq] at h
    by_cases hp : p (j, v)
    · simp only [List.filter_cons, hp, if_true, SMap.wfFrom, Bool.and_eq_true, decide_eq_true_eq]
      exact ⟨h.1, ih h.2⟩
    · simp only [List.filter_cons, hp]
      exact SMap.wfFrom_mono (Nat.le_succ_of_le h.1.1) (ih h.2)

/-- Equal memories are equal data: two maps in canonical form that read alike are the same list. -/
theorem SMap.get_of_lt [DecidableEq β] {d : Nat → β} {m : SMap β} :
    ∀ {lo k : Nat}, SMap.wfFrom d lo m = true → k < lo → m.get d k = d k := by
  induction m with
  | nil => intro lo k _ _; rfl
  | cons e m ih =>
    obtain ⟨j, v⟩ := e
    intro lo k h hk
    simp only [SMap.wfFrom, Bool.and_eq_true, decide_eq_true_eq] at h
    have : k ≠ j := by omega
    simp only [SMap.get, this, if_false]
    exact ih h.2 (by omega)

end Sys2Proof
end

