-- ==== Sys2Proof/Laws/State.lean ====
section
/-! SUPPORT. What each of the basic updates of State leaves in each field: true by definition, so that no proof unfolds a
record update. -/

namespace Sys2Proof.Machine

variable (s t : State)

/-! `wr` writes `regs` only. -/

@[simp] theorem State.wr_pending (a : Nat) (v : Word) : (s.wr a v).pending = s.pending := rfl
@[simp] theorem State.wr_regs (a : Nat) (v : Word) : (s.wr a v).regs = s.regs.set resetWord a v := rfl
@[simp] theorem State.wr_mem (a : Nat) (v : Word) : (s.wr a v).mem = s.mem := rfl
@[simp] theorem State.wr_outbox (a : Nat) (v : Word) : (s.wr a v).outbox = s.outbox := rfl
@[simp] theorem State.wr_cyc (a : Nat) (v : Word) : (s.wr a v).cyc = s.cyc := rfl
@[simp] theorem State.wr_porCyc (a : Nat) (v : Word) : (s.wr a v).porCyc = s.porCyc := rfl
@[simp] theorem State.wr_mainReset (a : Nat) (v : Word) : (s.wr a v).mainReset = s.mainReset := rfl
@[simp] theorem State.wr_hold (a : Nat) (v : Word) : (s.wr a v).hold = s.hold := rfl
@[simp] theorem State.wr_time (a : Nat) (v : Word) : (s.wr a v).time = s.time := rfl
@[simp] theorem State.wr_chans (a : Nat) (v : Word) : (s.wr a v).chans = s.chans := rfl
@[simp] theorem State.wr_chanIn (a : Nat) (v : Word) : (s.wr a v).chanIn = s.chanIn := rfl
@[simp] theorem State.wr_consIn (a : Nat) (v : Word) : (s.wr a v).consIn = s.consIn := rfl
@[simp] theorem State.wr_fixedIn (a : Nat) (v : Word) : (s.wr a v).fixedIn = s.fixedIn := rfl
@[simp] theorem State.wr_snapReq (a : Nat) (v : Word) : (s.wr a v).snapReq = s.snapReq := rfl
@[simp] theorem State.wr_tvBad (a : Nat) (v : Word) : (s.wr a v).tvBad = s.tvBad := rfl
@[simp] theorem State.wr_freeIx (a : Nat) (v : Word) : (s.wr a v).freeIx = s.freeIx := rfl
@[simp] theorem State.wr_lanes (a : Nat) (v : Word) : (s.wr a v).lanes = s.lanes := rfl
@[simp] theorem State.wr_quads (a : Nat) (v : Word) : (s.wr a v).quads = s.quads := rfl
@[simp] theorem State.wr_ports (a : Nat) (v : Word) : (s.wr a v).ports = s.ports := rfl
@[simp] theorem State.wr_feIn (a : Nat) (v : Word) : (s.wr a v).feIn = s.feIn := rfl
@[simp] theorem State.wr_fes (a : Nat) (v : Word) : (s.wr a v).fes = s.fes := rfl
@[simp] theorem State.wr_stIn (a : Nat) (v : Word) : (s.wr a v).stIn = s.stIn := rfl
@[simp] theorem State.wr_views (a : Nat) (v : Word) : (s.wr a v).views = s.views := rfl
@[simp] theorem State.wr_stTab (a : Nat) (v : Word) : (s.wr a v).stTab = s.stTab := rfl
@[simp] theorem State.wr_stStage (a : Nat) (v : Word) : (s.wr a v).stStage = s.stStage := rfl
@[simp] theorem State.wr_driftIn (a : Nat) (v : Word) : (s.wr a v).driftIn = s.driftIn := rfl
@[simp] theorem State.wr_drift (a : Nat) (v : Word) : (s.wr a v).drift = s.drift := rfl
@[simp] theorem State.wr_tiles (a : Nat) (v : Word) : (s.wr a v).tiles = s.tiles := rfl
@[simp] theorem State.wr_groups (a : Nat) (v : Word) : (s.wr a v).groups = s.groups := rfl
@[simp] theorem State.wr_classRows (a : Nat) (v : Word) : (s.wr a v).classRows = s.classRows := rfl
@[simp] theorem State.wr_classPrev (a : Nat) (v : Word) : (s.wr a v).classPrev = s.classPrev := rfl
@[simp] theorem State.wr_mvIn (a : Nat) (v : Word) : (s.wr a v).mvIn = s.mvIn := rfl
@[simp] theorem State.wr_leftDrift (a : Nat) (v : Word) : (s.wr a v).leftDrift = s.leftDrift := rfl
@[simp] theorem State.wr_horizon (a : Nat) (v : Word) : (s.wr a v).horizon = s.horizon := rfl
@[simp] theorem State.wr_objs (a : Nat) (v : Word) : (s.wr a v).objs = s.objs := rfl
@[simp] theorem State.wr_mvCfg (a : Nat) (v : Word) : (s.wr a v).mvCfg = s.mvCfg := rfl
@[simp] theorem State.wr_rules (a : Nat) (v : Word) : (s.wr a v).rules = s.rules := rfl
@[simp] theorem State.wr_flights (a : Nat) (v : Word) : (s.wr a v).flights = s.flights := rfl
@[simp] theorem State.wr_decideQ (a : Nat) (v : Word) : (s.wr a v).decideQ = s.decideQ := rfl
@[simp] theorem State.wr_recPart (a : Nat) (v : Word) : (s.wr a v).recPart = s.recPart := rfl
@[simp] theorem State.wr_checkBlks (a : Nat) (v : Word) : (s.wr a v).checkBlks = s.checkBlks := rfl
@[simp] theorem State.wr_belIn (a : Nat) (v : Word) : (s.wr a v).belIn = s.belIn := rfl
@[simp] theorem State.wr_testIn (a : Nat) (v : Word) : (s.wr a v).testIn = s.testIn := rfl
@[simp] theorem State.wr_belQ (a : Nat) (v : Word) : (s.wr a v).belQ = s.belQ := rfl
@[simp] theorem State.wr_belOrd (a : Nat) (v : Word) : (s.wr a v).belOrd = s.belOrd := rfl
@[simp] theorem State.wr_runs (a : Nat) (v : Word) : (s.wr a v).runs = s.runs := rfl
@[simp] theorem State.wr_slotAt (a : Nat) (v : Word) : (s.wr a v).slotAt = s.slotAt := rfl
@[simp] theorem State.wr_slotNext (a : Nat) (v : Word) : (s.wr a v).slotNext = s.slotNext := rfl
@[simp] theorem State.wr_ejl (a : Nat) (v : Word) : (s.wr a v).ejl = s.ejl := rfl
@[simp] theorem State.wr_wdogAt (a : Nat) (v : Word) : (s.wr a v).wdogAt = s.wdogAt := rfl
@[simp] theorem State.wr_fbs (a : Nat) (v : Word) : (s.wr a v).fbs = s.fbs := rfl
@[simp] theorem State.wr_axes (a : Nat) (v : Word) : (s.wr a v).axes = s.axes := rfl
@[simp] theorem State.wr_segs (a : Nat) (v : Word) : (s.wr a v).segs = s.segs := rfl
@[simp] theorem State.wr_memErr (a : Nat) (v : Word) : (s.wr a v).memErr = s.memErr := rfl
@[simp] theorem State.wr_mcs (a : Nat) (v : Word) : (s.wr a v).mcs = s.mcs := rfl
@[simp] theorem State.wr_mcTable (a : Nat) (v : Word) : (s.wr a v).mcTable = s.mcTable := rfl
@[simp] theorem State.wr_mcDensity (a : Nat) (v : Word) : (s.wr a v).mcDensity = s.mcDensity := rfl
@[simp] theorem State.wr_mcClass (a : Nat) (v : Word) : (s.wr a v).mcClass = s.mcClass := rfl
@[simp] theorem State.wr_migCh (a : Nat) (v : Word) : (s.wr a v).migCh = s.migCh := rfl
@[simp] theorem State.wr_migBack (a : Nat) (v : Word) : (s.wr a v).migBack = s.migBack := rfl
@[simp] theorem State.wr_migTop (a : Nat) (v : Word) : (s.wr a v).migTop = s.migTop := rfl
@[simp] theorem State.wr_dmas (a : Nat) (v : Word) : (s.wr a v).dmas = s.dmas := rfl
@[simp] theorem State.wr_dmaLast (a : Nat) (v : Word) : (s.wr a v).dmaLast = s.dmaLast := rfl
@[simp] theorem State.wr_firns (a : Nat) (v : Word) : (s.wr a v).firns = s.firns := rfl
@[simp] theorem State.wr_firnImgs (a : Nat) (v : Word) : (s.wr a v).firnImgs = s.firnImgs := rfl
@[simp] theorem State.wr_tps (a : Nat) (v : Word) : (s.wr a v).tps = s.tps := rfl
@[simp] theorem State.wr_ethTx (a : Nat) (v : Word) : (s.wr a v).ethTx = s.ethTx := rfl
@[simp] theorem State.wr_mdioCmd (a : Nat) (v : Word) : (s.wr a v).mdioCmd = s.mdioCmd := rfl
@[simp] theorem State.wr_cache (a : Nat) (v : Word) : (s.wr a v).cache = s.cache := rfl
@[simp] theorem State.wr_wbuf (a : Nat) (v : Word) : (s.wr a v).wbuf = s.wbuf := rfl
@[simp] theorem State.wr_ioBuf (a : Nat) (v : Word) : (s.wr a v).ioBuf = s.ioBuf := rfl
@[simp] theorem State.wr_harts (a : Nat) (v : Word) : (s.wr a v).harts = s.harts := rfl
@[simp] theorem State.wr_guardMem (a : Nat) (v : Word) : (s.wr a v).guardMem = s.guardMem := rfl
@[simp] theorem State.wr_twOpen (a : Nat) (v : Word) : (s.wr a v).twOpen = s.twOpen := rfl
@[simp] theorem State.wr_twCycle (a : Nat) (v : Word) : (s.wr a v).twCycle = s.twCycle := rfl
@[simp] theorem State.wr_twUnacked (a : Nat) (v : Word) : (s.wr a v).twUnacked = s.twUnacked := rfl
@[simp] theorem State.wr_twAcked (a : Nat) (v : Word) : (s.wr a v).twAcked = s.twAcked := rfl
@[simp] theorem State.wr_twIn (a : Nat) (v : Word) : (s.wr a v).twIn = s.twIn := rfl
@[simp] theorem State.wr_twHeld (a : Nat) (v : Word) : (s.wr a v).twHeld = s.twHeld := rfl
@[simp] theorem State.wr_twShadow (a : Nat) (v : Word) : (s.wr a v).twShadow = s.twShadow := rfl
@[simp] theorem State.wr_twDump (a : Nat) (v : Word) : (s.wr a v).twDump = s.twDump := rfl
@[simp] theorem State.wr_twAlign (a : Nat) (v : Word) : (s.wr a v).twAlign = s.twAlign := rfl
@[simp] theorem State.wr_peerBlks (a : Nat) (v : Word) : (s.wr a v).peerBlks = s.peerBlks := rfl
@[simp] theorem State.wr_hbSeq (a : Nat) (v : Word) : (s.wr a v).hbSeq = s.hbSeq := rfl
@[simp] theorem State.wr_hbLine (a : Nat) (v : Word) : (s.wr a v).hbLine = s.hbLine := rfl
@[simp] theorem State.wr_userHdr (a : Nat) (v : Word) : (s.wr a v).userHdr = s.userHdr := rfl
@[simp] theorem State.wr_hbAt (a : Nat) (v : Word) : (s.wr a v).hbAt = s.hbAt := rfl
@[simp] theorem State.wr_hbStop (a : Nat) (v : Word) : (s.wr a v).hbStop = s.hbStop := rfl
@[simp] theorem State.wr_hbPath (a : Nat) (v : Word) : (s.wr a v).hbPath = s.hbPath := rfl
@[simp] theorem State.wr_claimAt (a : Nat) (v : Word) : (s.wr a v).claimAt = s.claimAt := rfl
@[simp] theorem State.wr_settleAt (a : Nat) (v : Word) : (s.wr a v).settleAt = s.settleAt := rfl
@[simp] theorem State.wr_handover (a : Nat) (v : Word) : (s.wr a v).handover = s.handover := rfl
@[simp] theorem State.wr_peerSynced (a : Nat) (v : Word) : (s.wr a v).peerSynced = s.peerSynced := rfl
@[simp] theorem State.wr_twDseq (a : Nat) (v : Word) : (s.wr a v).twDseq = s.twDseq := rfl
@[simp] theorem State.wr_calWant (a : Nat) (v : Word) : (s.wr a v).calWant = s.calWant := rfl
@[simp] theorem State.wr_calRun (a : Nat) (v : Word) : (s.wr a v).calRun = s.calRun := rfl
@[simp] theorem State.wr_calStaged (a : Nat) (v : Word) : (s.wr a v).calStaged = s.calStaged := rfl
@[simp] theorem State.wr_errAt (a : Nat) (v : Word) : (s.wr a v).errAt = s.errAt := rfl
@[simp] theorem State.wr_railLow (a : Nat) (v : Word) : (s.wr a v).railLow = s.railLow := rfl
@[simp] theorem State.wr_uarts (a : Nat) (v : Word) : (s.wr a v).uarts = s.uarts := rfl
@[simp] theorem State.wr_qspiRun (a : Nat) (v : Word) : (s.wr a v).qspiRun = s.qspiRun := rfl
@[simp] theorem State.wr_iicRun (a : Nat) (v : Word) : (s.wr a v).iicRun = s.iicRun := rfl
@[simp] theorem State.wr_booted (a : Nat) (v : Word) : (s.wr a v).booted = s.booted := rfl
@[simp] theorem State.wr_doorPer (a : Nat) (v : Word) : (s.wr a v).doorPer = s.doorPer := rfl
@[simp] theorem State.wr_gBell (a : Nat) (v : Word) : (s.wr a v).gBell = s.gBell := rfl
@[simp] theorem State.wr_fuses (a : Nat) (v : Word) : (s.wr a v).fuses = s.fuses := rfl
@[simp] theorem State.wr_jtagDis (a : Nat) (v : Word) : (s.wr a v).jtagDis = s.jtagDis := rfl
@[simp] theorem State.wr_jtagIr (a : Nat) (v : Word) : (s.wr a v).jtagIr = s.jtagIr := rfl
@[simp] theorem State.wr_fuseSel (a : Nat) (v : Word) : (s.wr a v).fuseSel = s.fuseSel := rfl
@[simp] theorem State.wr_fuseData (a : Nat) (v : Word) : (s.wr a v).fuseData = s.fuseData := rfl
@[simp] theorem State.wr_bscan (a : Nat) (v : Word) : (s.wr a v).bscan = s.bscan := rfl

/-! `setRaw` writes `mem` only. -/

@[simp] theorem State.setRaw_pending (a : Nat) (b : BitVec 8) : (s.setRaw a b).pending = s.pending := rfl
@[simp] theorem State.setRaw_regs (a : Nat) (b : BitVec 8) : (s.setRaw a b).regs = s.regs := rfl
@[simp] theorem State.setRaw_mem (a : Nat) (b : BitVec 8) : (s.setRaw a b).mem = SMap.set (fun _ => 0) s.mem a b := rfl
@[simp] theorem State.setRaw_outbox (a : Nat) (b : BitVec 8) : (s.setRaw a b).outbox = s.outbox := rfl
@[simp] theorem State.setRaw_cyc (a : Nat) (b : BitVec 8) : (s.setRaw a b).cyc = s.cyc := rfl
@[simp] theorem State.setRaw_porCyc (a : Nat) (b : BitVec 8) : (s.setRaw a b).porCyc = s.porCyc := rfl
@[simp] theorem State.setRaw_mainReset (a : Nat) (b : BitVec 8) : (s.setRaw a b).mainReset = s.mainReset := rfl
@[simp] theorem State.setRaw_hold (a : Nat) (b : BitVec 8) : (s.setRaw a b).hold = s.hold := rfl
@[simp] theorem State.setRaw_time (a : Nat) (b : BitVec 8) : (s.setRaw a b).time = s.time := rfl
@[simp] theorem State.setRaw_chans (a : Nat) (b : BitVec 8) : (s.setRaw a b).chans = s.chans := rfl
@[simp] theorem State.setRaw_chanIn (a : Nat) (b : BitVec 8) : (s.setRaw a b).chanIn = s.chanIn := rfl
@[simp] theorem State.setRaw_consIn (a : Nat) (b : BitVec 8) : (s.setRaw a b).consIn = s.consIn := rfl
@[simp] theorem State.setRaw_fixedIn (a : Nat) (b : BitVec 8) : (s.setRaw a b).fixedIn = s.fixedIn := rfl
@[simp] theorem State.setRaw_snapReq (a : Nat) (b : BitVec 8) : (s.setRaw a b).snapReq = s.snapReq := rfl
@[simp] theorem State.setRaw_tvBad (a : Nat) (b : BitVec 8) : (s.setRaw a b).tvBad = s.tvBad := rfl
@[simp] theorem State.setRaw_freeIx (a : Nat) (b : BitVec 8) : (s.setRaw a b).freeIx = s.freeIx := rfl
@[simp] theorem State.setRaw_lanes (a : Nat) (b : BitVec 8) : (s.setRaw a b).lanes = s.lanes := rfl
@[simp] theorem State.setRaw_quads (a : Nat) (b : BitVec 8) : (s.setRaw a b).quads = s.quads := rfl
@[simp] theorem State.setRaw_ports (a : Nat) (b : BitVec 8) : (s.setRaw a b).ports = s.ports := rfl
@[simp] theorem State.setRaw_feIn (a : Nat) (b : BitVec 8) : (s.setRaw a b).feIn = s.feIn := rfl
@[simp] theorem State.setRaw_fes (a : Nat) (b : BitVec 8) : (s.setRaw a b).fes = s.fes := rfl
@[simp] theorem State.setRaw_stIn (a : Nat) (b : BitVec 8) : (s.setRaw a b).stIn = s.stIn := rfl
@[simp] theorem State.setRaw_views (a : Nat) (b : BitVec 8) : (s.setRaw a b).views = s.views := rfl
@[simp] theorem State.setRaw_stTab (a : Nat) (b : BitVec 8) : (s.setRaw a b).stTab = s.stTab := rfl
@[simp] theorem State.setRaw_stStage (a : Nat) (b : BitVec 8) : (s.setRaw a b).stStage = s.stStage := rfl
@[simp] theorem State.setRaw_driftIn (a : Nat) (b : BitVec 8) : (s.setRaw a b).driftIn = s.driftIn := rfl
@[simp] theorem State.setRaw_drift (a : Nat) (b : BitVec 8) : (s.setRaw a b).drift = s.drift := rfl
@[simp] theorem State.setRaw_tiles (a : Nat) (b : BitVec 8) : (s.setRaw a b).tiles = s.tiles := rfl
@[simp] theorem State.setRaw_groups (a : Nat) (b : BitVec 8) : (s.setRaw a b).groups = s.groups := rfl
@[simp] theorem State.setRaw_classRows (a : Nat) (b : BitVec 8) : (s.setRaw a b).classRows = s.classRows := rfl
@[simp] theorem State.setRaw_classPrev (a : Nat) (b : BitVec 8) : (s.setRaw a b).classPrev = s.classPrev := rfl
@[simp] theorem State.setRaw_mvIn (a : Nat) (b : BitVec 8) : (s.setRaw a b).mvIn = s.mvIn := rfl
@[simp] theorem State.setRaw_leftDrift (a : Nat) (b : BitVec 8) : (s.setRaw a b).leftDrift = s.leftDrift := rfl
@[simp] theorem State.setRaw_horizon (a : Nat) (b : BitVec 8) : (s.setRaw a b).horizon = s.horizon := rfl
@[simp] theorem State.setRaw_objs (a : Nat) (b : BitVec 8) : (s.setRaw a b).objs = s.objs := rfl
@[simp] theorem State.setRaw_mvCfg (a : Nat) (b : BitVec 8) : (s.setRaw a b).mvCfg = s.mvCfg := rfl
@[simp] theorem State.setRaw_rules (a : Nat) (b : BitVec 8) : (s.setRaw a b).rules = s.rules := rfl
@[simp] theorem State.setRaw_flights (a : Nat) (b : BitVec 8) : (s.setRaw a b).flights = s.flights := rfl
@[simp] theorem State.setRaw_decideQ (a : Nat) (b : BitVec 8) : (s.setRaw a b).decideQ = s.decideQ := rfl
@[simp] theorem State.setRaw_recPart (a : Nat) (b : BitVec 8) : (s.setRaw a b).recPart = s.recPart := rfl
@[simp] theorem State.setRaw_checkBlks (a : Nat) (b : BitVec 8) : (s.setRaw a b).checkBlks = s.checkBlks := rfl
@[simp] theorem State.setRaw_belIn (a : Nat) (b : BitVec 8) : (s.setRaw a b).belIn = s.belIn := rfl
@[simp] theorem State.setRaw_testIn (a : Nat) (b : BitVec 8) : (s.setRaw a b).testIn = s.testIn := rfl
@[simp] theorem State.setRaw_belQ (a : Nat) (b : BitVec 8) : (s.setRaw a b).belQ = s.belQ := rfl
@[simp] theorem State.setRaw_belOrd (a : Nat) (b : BitVec 8) : (s.setRaw a b).belOrd = s.belOrd := rfl
@[simp] theorem State.setRaw_runs (a : Nat) (b : BitVec 8) : (s.setRaw a b).runs = s.runs := rfl
@[simp] theorem State.setRaw_slotAt (a : Nat) (b : BitVec 8) : (s.setRaw a b).slotAt = s.slotAt := rfl
@[simp] theorem State.setRaw_slotNext (a : Nat) (b : BitVec 8) : (s.setRaw a b).slotNext = s.slotNext := rfl
@[simp] theorem State.setRaw_ejl (a : Nat) (b : BitVec 8) : (s.setRaw a b).ejl = s.ejl := rfl
@[simp] theorem State.setRaw_wdogAt (a : Nat) (b : BitVec 8) : (s.setRaw a b).wdogAt = s.wdogAt := rfl
@[simp] theorem State.setRaw_fbs (a : Nat) (b : BitVec 8) : (s.setRaw a b).fbs = s.fbs := rfl
@[simp] theorem State.setRaw_axes (a : Nat) (b : BitVec 8) : (s.setRaw a b).axes = s.axes := rfl
@[simp] theorem State.setRaw_segs (a : Nat) (b : BitVec 8) : (s.setRaw a b).segs = s.segs := rfl
@[simp] theorem State.setRaw_memErr (a : Nat) (b : BitVec 8) : (s.setRaw a b).memErr = s.memErr := rfl
@[simp] theorem State.setRaw_mcs (a : Nat) (b : BitVec 8) : (s.setRaw a b).mcs = s.mcs := rfl
@[simp] theorem State.setRaw_mcTable (a : Nat) (b : BitVec 8) : (s.setRaw a b).mcTable = s.mcTable := rfl
@[simp] theorem State.setRaw_mcDensity (a : Nat) (b : BitVec 8) : (s.setRaw a b).mcDensity = s.mcDensity := rfl
@[simp] theorem State.setRaw_mcClass (a : Nat) (b : BitVec 8) : (s.setRaw a b).mcClass = s.mcClass := rfl
@[simp] theorem State.setRaw_migCh (a : Nat) (b : BitVec 8) : (s.setRaw a b).migCh = s.migCh := rfl
@[simp] theorem State.setRaw_migBack (a : Nat) (b : BitVec 8) : (s.setRaw a b).migBack = s.migBack := rfl
@[simp] theorem State.setRaw_migTop (a : Nat) (b : BitVec 8) : (s.setRaw a b).migTop = s.migTop := rfl
@[simp] theorem State.setRaw_dmas (a : Nat) (b : BitVec 8) : (s.setRaw a b).dmas = s.dmas := rfl
@[simp] theorem State.setRaw_dmaLast (a : Nat) (b : BitVec 8) : (s.setRaw a b).dmaLast = s.dmaLast := rfl
@[simp] theorem State.setRaw_firns (a : Nat) (b : BitVec 8) : (s.setRaw a b).firns = s.firns := rfl
@[simp] theorem State.setRaw_firnImgs (a : Nat) (b : BitVec 8) : (s.setRaw a b).firnImgs = s.firnImgs := rfl
@[simp] theorem State.setRaw_tps (a : Nat) (b : BitVec 8) : (s.setRaw a b).tps = s.tps := rfl
@[simp] theorem State.setRaw_ethTx (a : Nat) (b : BitVec 8) : (s.setRaw a b).ethTx = s.ethTx := rfl
@[simp] theorem State.setRaw_mdioCmd (a : Nat) (b : BitVec 8) : (s.setRaw a b).mdioCmd = s.mdioCmd := rfl
@[simp] theorem State.setRaw_cache (a : Nat) (b : BitVec 8) : (s.setRaw a b).cache = s.cache := rfl
@[simp] theorem State.setRaw_wbuf (a : Nat) (b : BitVec 8) : (s.setRaw a b).wbuf = s.wbuf := rfl
@[simp] theorem State.setRaw_ioBuf (a : Nat) (b : BitVec 8) : (s.setRaw a b).ioBuf = s.ioBuf := rfl
@[simp] theorem State.setRaw_harts (a : Nat) (b : BitVec 8) : (s.setRaw a b).harts = s.harts := rfl
@[simp] theorem State.setRaw_guardMem (a : Nat) (b : BitVec 8) : (s.setRaw a b).guardMem = s.guardMem := rfl
@[simp] theorem State.setRaw_twOpen (a : Nat) (b : BitVec 8) : (s.setRaw a b).twOpen = s.twOpen := rfl
@[simp] theorem State.setRaw_twCycle (a : Nat) (b : BitVec 8) : (s.setRaw a b).twCycle = s.twCycle := rfl
@[simp] theorem State.setRaw_twUnacked (a : Nat) (b : BitVec 8) : (s.setRaw a b).twUnacked = s.twUnacked := rfl
@[simp] theorem State.setRaw_twAcked (a : Nat) (b : BitVec 8) : (s.setRaw a b).twAcked = s.twAcked := rfl
@[simp] theorem State.setRaw_twIn (a : Nat) (b : BitVec 8) : (s.setRaw a b).twIn = s.twIn := rfl
@[simp] theorem State.setRaw_twHeld (a : Nat) (b : BitVec 8) : (s.setRaw a b).twHeld = s.twHeld := rfl
@[simp] theorem State.setRaw_twShadow (a : Nat) (b : BitVec 8) : (s.setRaw a b).twShadow = s.twShadow := rfl
@[simp] theorem State.setRaw_twDump (a : Nat) (b : BitVec 8) : (s.setRaw a b).twDump = s.twDump := rfl
@[simp] theorem State.setRaw_twAlign (a : Nat) (b : BitVec 8) : (s.setRaw a b).twAlign = s.twAlign := rfl
@[simp] theorem State.setRaw_peerBlks (a : Nat) (b : BitVec 8) : (s.setRaw a b).peerBlks = s.peerBlks := rfl
@[simp] theorem State.setRaw_hbSeq (a : Nat) (b : BitVec 8) : (s.setRaw a b).hbSeq = s.hbSeq := rfl
@[simp] theorem State.setRaw_hbLine (a : Nat) (b : BitVec 8) : (s.setRaw a b).hbLine = s.hbLine := rfl
@[simp] theorem State.setRaw_userHdr (a : Nat) (b : BitVec 8) : (s.setRaw a b).userHdr = s.userHdr := rfl
@[simp] theorem State.setRaw_hbAt (a : Nat) (b : BitVec 8) : (s.setRaw a b).hbAt = s.hbAt := rfl
@[simp] theorem State.setRaw_hbStop (a : Nat) (b : BitVec 8) : (s.setRaw a b).hbStop = s.hbStop := rfl
@[simp] theorem State.setRaw_hbPath (a : Nat) (b : BitVec 8) : (s.setRaw a b).hbPath = s.hbPath := rfl
@[simp] theorem State.setRaw_claimAt (a : Nat) (b : BitVec 8) : (s.setRaw a b).claimAt = s.claimAt := rfl
@[simp] theorem State.setRaw_settleAt (a : Nat) (b : BitVec 8) : (s.setRaw a b).settleAt = s.settleAt := rfl
@[simp] theorem State.setRaw_handover (a : Nat) (b : BitVec 8) : (s.setRaw a b).handover = s.handover := rfl
@[simp] theorem State.setRaw_peerSynced (a : Nat) (b : BitVec 8) : (s.setRaw a b).peerSynced = s.peerSynced := rfl
@[simp] theorem State.setRaw_twDseq (a : Nat) (b : BitVec 8) : (s.setRaw a b).twDseq = s.twDseq := rfl
@[simp] theorem State.setRaw_calWant (a : Nat) (b : BitVec 8) : (s.setRaw a b).calWant = s.calWant := rfl
@[simp] theorem State.setRaw_calRun (a : Nat) (b : BitVec 8) : (s.setRaw a b).calRun = s.calRun := rfl
@[simp] theorem State.setRaw_calStaged (a : Nat) (b : BitVec 8) : (s.setRaw a b).calStaged = s.calStaged := rfl
@[simp] theorem State.setRaw_errAt (a : Nat) (b : BitVec 8) : (s.setRaw a b).errAt = s.errAt := rfl
@[simp] theorem State.setRaw_railLow (a : Nat) (b : BitVec 8) : (s.setRaw a b).railLow = s.railLow := rfl
@[simp] theorem State.setRaw_uarts (a : Nat) (b : BitVec 8) : (s.setRaw a b).uarts = s.uarts := rfl
@[simp] theorem State.setRaw_qspiRun (a : Nat) (b : BitVec 8) : (s.setRaw a b).qspiRun = s.qspiRun := rfl
@[simp] theorem State.setRaw_iicRun (a : Nat) (b : BitVec 8) : (s.setRaw a b).iicRun = s.iicRun := rfl
@[simp] theorem State.setRaw_booted (a : Nat) (b : BitVec 8) : (s.setRaw a b).booted = s.booted := rfl
@[simp] theorem State.setRaw_doorPer (a : Nat) (b : BitVec 8) : (s.setRaw a b).doorPer = s.doorPer := rfl
@[simp] theorem State.setRaw_gBell (a : Nat) (b : BitVec 8) : (s.setRaw a b).gBell = s.gBell := rfl
@[simp] theorem State.setRaw_fuses (a : Nat) (b : BitVec 8) : (s.setRaw a b).fuses = s.fuses := rfl
@[simp] theorem State.setRaw_jtagDis (a : Nat) (b : BitVec 8) : (s.setRaw a b).jtagDis = s.jtagDis := rfl
@[simp] theorem State.setRaw_jtagIr (a : Nat) (b : BitVec 8) : (s.setRaw a b).jtagIr = s.jtagIr := rfl
@[simp] theorem State.setRaw_fuseSel (a : Nat) (b : BitVec 8) : (s.setRaw a b).fuseSel = s.fuseSel := rfl
@[simp] theorem State.setRaw_fuseData (a : Nat) (b : BitVec 8) : (s.setRaw a b).fuseData = s.fuseData := rfl
@[simp] theorem State.setRaw_bscan (a : Nat) (b : BitVec 8) : (s.setRaw a b).bscan = s.bscan := rfl

/-! `emit` writes `outbox` only. -/

@[simp] theorem State.emit_pending (o : Output) : (s.emit o).pending = s.pending := rfl
@[simp] theorem State.emit_regs (o : Output) : (s.emit o).regs = s.regs := rfl
@[simp] theorem State.emit_mem (o : Output) : (s.emit o).mem = s.mem := rfl
@[simp] theorem State.emit_outbox (o : Output) : (s.emit o).outbox = o :: s.outbox := rfl
@[simp] theorem State.emit_cyc (o : Output) : (s.emit o).cyc = s.cyc := rfl
@[simp] theorem State.emit_porCyc (o : Output) : (s.emit o).porCyc = s.porCyc := rfl
@[simp] theorem State.emit_mainReset (o : Output) : (s.emit o).mainReset = s.mainReset := rfl
@[simp] theorem State.emit_hold (o : Output) : (s.emit o).hold = s.hold := rfl
@[simp] theorem State.emit_time (o : Output) : (s.emit o).time = s.time := rfl
@[simp] theorem State.emit_chans (o : Output) : (s.emit o).chans = s.chans := rfl
@[simp] theorem State.emit_chanIn (o : Output) : (s.emit o).chanIn = s.chanIn := rfl
@[simp] theorem State.emit_consIn (o : Output) : (s.emit o).consIn = s.consIn := rfl
@[simp] theorem State.emit_fixedIn (o : Output) : (s.emit o).fixedIn = s.fixedIn := rfl
@[simp] theorem State.emit_snapReq (o : Output) : (s.emit o).snapReq = s.snapReq := rfl
@[simp] theorem State.emit_tvBad (o : Output) : (s.emit o).tvBad = s.tvBad := rfl
@[simp] theorem State.emit_freeIx (o : Output) : (s.emit o).freeIx = s.freeIx := rfl
@[simp] theorem State.emit_lanes (o : Output) : (s.emit o).lanes = s.lanes := rfl
@[simp] theorem State.emit_quads (o : Output) : (s.emit o).quads = s.quads := rfl
@[simp] theorem State.emit_ports (o : Output) : (s.emit o).ports = s.ports := rfl
@[simp] theorem State.emit_feIn (o : Output) : (s.emit o).feIn = s.feIn := rfl
@[simp] theorem State.emit_fes (o : Output) : (s.emit o).fes = s.fes := rfl
@[simp] theorem State.emit_stIn (o : Output) : (s.emit o).stIn = s.stIn := rfl
@[simp] theorem State.emit_views (o : Output) : (s.emit o).views = s.views := rfl
@[simp] theorem State.emit_stTab (o : Output) : (s.emit o).stTab = s.stTab := rfl
@[simp] theorem State.emit_stStage (o : Output) : (s.emit o).stStage = s.stStage := rfl
@[simp] theorem State.emit_driftIn (o : Output) : (s.emit o).driftIn = s.driftIn := rfl
@[simp] theorem State.emit_drift (o : Output) : (s.emit o).drift = s.drift := rfl
@[simp] theorem State.emit_tiles (o : Output) : (s.emit o).tiles = s.tiles := rfl
@[simp] theorem State.emit_groups (o : Output) : (s.emit o).groups = s.groups := rfl
@[simp] theorem State.emit_classRows (o : Output) : (s.emit o).classRows = s.classRows := rfl
@[simp] theorem State.emit_classPrev (o : Output) : (s.emit o).classPrev = s.classPrev := rfl
@[simp] theorem State.emit_mvIn (o : Output) : (s.emit o).mvIn = s.mvIn := rfl
@[simp] theorem State.emit_leftDrift (o : Output) : (s.emit o).leftDrift = s.leftDrift := rfl
@[simp] theorem State.emit_horizon (o : Output) : (s.emit o).horizon = s.horizon := rfl
@[simp] theorem State.emit_objs (o : Output) : (s.emit o).objs = s.objs := rfl
@[simp] theorem State.emit_mvCfg (o : Output) : (s.emit o).mvCfg = s.mvCfg := rfl
@[simp] theorem State.emit_rules (o : Output) : (s.emit o).rules = s.rules := rfl
@[simp] theorem State.emit_flights (o : Output) : (s.emit o).flights = s.flights := rfl
@[simp] theorem State.emit_decideQ (o : Output) : (s.emit o).decideQ = s.decideQ := rfl
@[simp] theorem State.emit_recPart (o : Output) : (s.emit o).recPart = s.recPart := rfl
@[simp] theorem State.emit_checkBlks (o : Output) : (s.emit o).checkBlks = s.checkBlks := rfl
@[simp] theorem State.emit_belIn (o : Output) : (s.emit o).belIn = s.belIn := rfl
@[simp] theorem State.emit_testIn (o : Output) : (s.emit o).testIn = s.testIn := rfl
@[simp] theorem State.emit_belQ (o : Output) : (s.emit o).belQ = s.belQ := rfl
@[simp] theorem State.emit_belOrd (o : Output) : (s.emit o).belOrd = s.belOrd := rfl
@[simp] theorem State.emit_runs (o : Output) : (s.emit o).runs = s.runs := rfl
@[simp] theorem State.emit_slotAt (o : Output) : (s.emit o).slotAt = s.slotAt := rfl
@[simp] theorem State.emit_slotNext (o : Output) : (s.emit o).slotNext = s.slotNext := rfl
@[simp] theorem State.emit_ejl (o : Output) : (s.emit o).ejl = s.ejl := rfl
@[simp] theorem State.emit_wdogAt (o : Output) : (s.emit o).wdogAt = s.wdogAt := rfl
@[simp] theorem State.emit_fbs (o : Output) : (s.emit o).fbs = s.fbs := rfl
@[simp] theorem State.emit_axes (o : Output) : (s.emit o).axes = s.axes := rfl
@[simp] theorem State.emit_segs (o : Output) : (s.emit o).segs = s.segs := rfl
@[simp] theorem State.emit_memErr (o : Output) : (s.emit o).memErr = s.memErr := rfl
@[simp] theorem State.emit_mcs (o : Output) : (s.emit o).mcs = s.mcs := rfl
@[simp] theorem State.emit_mcTable (o : Output) : (s.emit o).mcTable = s.mcTable := rfl
@[simp] theorem State.emit_mcDensity (o : Output) : (s.emit o).mcDensity = s.mcDensity := rfl
@[simp] theorem State.emit_mcClass (o : Output) : (s.emit o).mcClass = s.mcClass := rfl
@[simp] theorem State.emit_migCh (o : Output) : (s.emit o).migCh = s.migCh := rfl
@[simp] theorem State.emit_migBack (o : Output) : (s.emit o).migBack = s.migBack := rfl
@[simp] theorem State.emit_migTop (o : Output) : (s.emit o).migTop = s.migTop := rfl
@[simp] theorem State.emit_dmas (o : Output) : (s.emit o).dmas = s.dmas := rfl
@[simp] theorem State.emit_dmaLast (o : Output) : (s.emit o).dmaLast = s.dmaLast := rfl
@[simp] theorem State.emit_firns (o : Output) : (s.emit o).firns = s.firns := rfl
@[simp] theorem State.emit_firnImgs (o : Output) : (s.emit o).firnImgs = s.firnImgs := rfl
@[simp] theorem State.emit_tps (o : Output) : (s.emit o).tps = s.tps := rfl
@[simp] theorem State.emit_ethTx (o : Output) : (s.emit o).ethTx = s.ethTx := rfl
@[simp] theorem State.emit_mdioCmd (o : Output) : (s.emit o).mdioCmd = s.mdioCmd := rfl
@[simp] theorem State.emit_cache (o : Output) : (s.emit o).cache = s.cache := rfl
@[simp] theorem State.emit_wbuf (o : Output) : (s.emit o).wbuf = s.wbuf := rfl
@[simp] theorem State.emit_ioBuf (o : Output) : (s.emit o).ioBuf = s.ioBuf := rfl
@[simp] theorem State.emit_harts (o : Output) : (s.emit o).harts = s.harts := rfl
@[simp] theorem State.emit_guardMem (o : Output) : (s.emit o).guardMem = s.guardMem := rfl
@[simp] theorem State.emit_twOpen (o : Output) : (s.emit o).twOpen = s.twOpen := rfl
@[simp] theorem State.emit_twCycle (o : Output) : (s.emit o).twCycle = s.twCycle := rfl
@[simp] theorem State.emit_twUnacked (o : Output) : (s.emit o).twUnacked = s.twUnacked := rfl
@[simp] theorem State.emit_twAcked (o : Output) : (s.emit o).twAcked = s.twAcked := rfl
@[simp] theorem State.emit_twIn (o : Output) : (s.emit o).twIn = s.twIn := rfl
@[simp] theorem State.emit_twHeld (o : Output) : (s.emit o).twHeld = s.twHeld := rfl
@[simp] theorem State.emit_twShadow (o : Output) : (s.emit o).twShadow = s.twShadow := rfl
@[simp] theorem State.emit_twDump (o : Output) : (s.emit o).twDump = s.twDump := rfl
@[simp] theorem State.emit_twAlign (o : Output) : (s.emit o).twAlign = s.twAlign := rfl
@[simp] theorem State.emit_peerBlks (o : Output) : (s.emit o).peerBlks = s.peerBlks := rfl
@[simp] theorem State.emit_hbSeq (o : Output) : (s.emit o).hbSeq = s.hbSeq := rfl
@[simp] theorem State.emit_hbLine (o : Output) : (s.emit o).hbLine = s.hbLine := rfl
@[simp] theorem State.emit_userHdr (o : Output) : (s.emit o).userHdr = s.userHdr := rfl
@[simp] theorem State.emit_hbAt (o : Output) : (s.emit o).hbAt = s.hbAt := rfl
@[simp] theorem State.emit_hbStop (o : Output) : (s.emit o).hbStop = s.hbStop := rfl
@[simp] theorem State.emit_hbPath (o : Output) : (s.emit o).hbPath = s.hbPath := rfl
@[simp] theorem State.emit_claimAt (o : Output) : (s.emit o).claimAt = s.claimAt := rfl
@[simp] theorem State.emit_settleAt (o : Output) : (s.emit o).settleAt = s.settleAt := rfl
@[simp] theorem State.emit_handover (o : Output) : (s.emit o).handover = s.handover := rfl
@[simp] theorem State.emit_peerSynced (o : Output) : (s.emit o).peerSynced = s.peerSynced := rfl
@[simp] theorem State.emit_twDseq (o : Output) : (s.emit o).twDseq = s.twDseq := rfl
@[simp] theorem State.emit_calWant (o : Output) : (s.emit o).calWant = s.calWant := rfl
@[simp] theorem State.emit_calRun (o : Output) : (s.emit o).calRun = s.calRun := rfl
@[simp] theorem State.emit_calStaged (o : Output) : (s.emit o).calStaged = s.calStaged := rfl
@[simp] theorem State.emit_errAt (o : Output) : (s.emit o).errAt = s.errAt := rfl
@[simp] theorem State.emit_railLow (o : Output) : (s.emit o).railLow = s.railLow := rfl
@[simp] theorem State.emit_uarts (o : Output) : (s.emit o).uarts = s.uarts := rfl
@[simp] theorem State.emit_qspiRun (o : Output) : (s.emit o).qspiRun = s.qspiRun := rfl
@[simp] theorem State.emit_iicRun (o : Output) : (s.emit o).iicRun = s.iicRun := rfl
@[simp] theorem State.emit_booted (o : Output) : (s.emit o).booted = s.booted := rfl
@[simp] theorem State.emit_doorPer (o : Output) : (s.emit o).doorPer = s.doorPer := rfl
@[simp] theorem State.emit_gBell (o : Output) : (s.emit o).gBell = s.gBell := rfl
@[simp] theorem State.emit_fuses (o : Output) : (s.emit o).fuses = s.fuses := rfl
@[simp] theorem State.emit_jtagDis (o : Output) : (s.emit o).jtagDis = s.jtagDis := rfl
@[simp] theorem State.emit_jtagIr (o : Output) : (s.emit o).jtagIr = s.jtagIr := rfl
@[simp] theorem State.emit_fuseSel (o : Output) : (s.emit o).fuseSel = s.fuseSel := rfl
@[simp] theorem State.emit_fuseData (o : Output) : (s.emit o).fuseData = s.fuseData := rfl
@[simp] theorem State.emit_bscan (o : Output) : (s.emit o).bscan = s.bscan := rfl

/-! `freeNext` writes `freeIx` only. -/

@[simp] theorem State.freeNext_pending : (s.freeNext).pending = s.pending := rfl
@[simp] theorem State.freeNext_regs : (s.freeNext).regs = s.regs := rfl
@[simp] theorem State.freeNext_mem : (s.freeNext).mem = s.mem := rfl
@[simp] theorem State.freeNext_outbox : (s.freeNext).outbox = s.outbox := rfl
@[simp] theorem State.freeNext_cyc : (s.freeNext).cyc = s.cyc := rfl
@[simp] theorem State.freeNext_porCyc : (s.freeNext).porCyc = s.porCyc := rfl
@[simp] theorem State.freeNext_mainReset : (s.freeNext).mainReset = s.mainReset := rfl
@[simp] theorem State.freeNext_hold : (s.freeNext).hold = s.hold := rfl
@[simp] theorem State.freeNext_time : (s.freeNext).time = s.time := rfl
@[simp] theorem State.freeNext_chans : (s.freeNext).chans = s.chans := rfl
@[simp] theorem State.freeNext_chanIn : (s.freeNext).chanIn = s.chanIn := rfl
@[simp] theorem State.freeNext_consIn : (s.freeNext).consIn = s.consIn := rfl
@[simp] theorem State.freeNext_fixedIn : (s.freeNext).fixedIn = s.fixedIn := rfl
@[simp] theorem State.freeNext_snapReq : (s.freeNext).snapReq = s.snapReq := rfl
@[simp] theorem State.freeNext_tvBad : (s.freeNext).tvBad = s.tvBad := rfl
@[simp] theorem State.freeNext_freeIx : (s.freeNext).freeIx = s.freeIx + 1 := rfl
@[simp] theorem State.freeNext_lanes : (s.freeNext).lanes = s.lanes := rfl
@[simp] theorem State.freeNext_quads : (s.freeNext).quads = s.quads := rfl
@[simp] theorem State.freeNext_ports : (s.freeNext).ports = s.ports := rfl
@[simp] theorem State.freeNext_feIn : (s.freeNext).feIn = s.feIn := rfl
@[simp] theorem State.freeNext_fes : (s.freeNext).fes = s.fes := rfl
@[simp] theorem State.freeNext_stIn : (s.freeNext).stIn = s.stIn := rfl
@[simp] theorem State.freeNext_views : (s.freeNext).views = s.views := rfl
@[simp] theorem State.freeNext_stTab : (s.freeNext).stTab = s.stTab := rfl
@[simp] theorem State.freeNext_stStage : (s.freeNext).stStage = s.stStage := rfl
@[simp] theorem State.freeNext_driftIn : (s.freeNext).driftIn = s.driftIn := rfl
@[simp] theorem State.freeNext_drift : (s.freeNext).drift = s.drift := rfl
@[simp] theorem State.freeNext_tiles : (s.freeNext).tiles = s.tiles := rfl
@[simp] theorem State.freeNext_groups : (s.freeNext).groups = s.groups := rfl
@[simp] theorem State.freeNext_classRows : (s.freeNext).classRows = s.classRows := rfl
@[simp] theorem State.freeNext_classPrev : (s.freeNext).classPrev = s.classPrev := rfl
@[simp] theorem State.freeNext_mvIn : (s.freeNext).mvIn = s.mvIn := rfl
@[simp] theorem State.freeNext_leftDrift : (s.freeNext).leftDrift = s.leftDrift := rfl
@[simp] theorem State.freeNext_horizon : (s.freeNext).horizon = s.horizon := rfl
@[simp] theorem State.freeNext_objs : (s.freeNext).objs = s.objs := rfl
@[simp] theorem State.freeNext_mvCfg : (s.freeNext).mvCfg = s.mvCfg := rfl
@[simp] theorem State.freeNext_rules : (s.freeNext).rules = s.rules := rfl
@[simp] theorem State.freeNext_flights : (s.freeNext).flights = s.flights := rfl
@[simp] theorem State.freeNext_decideQ : (s.freeNext).decideQ = s.decideQ := rfl
@[simp] theorem State.freeNext_recPart : (s.freeNext).recPart = s.recPart := rfl
@[simp] theorem State.freeNext_checkBlks : (s.freeNext).checkBlks = s.checkBlks := rfl
@[simp] theorem State.freeNext_belIn : (s.freeNext).belIn = s.belIn := rfl
@[simp] theorem State.freeNext_testIn : (s.freeNext).testIn = s.testIn := rfl
@[simp] theorem State.freeNext_belQ : (s.freeNext).belQ = s.belQ := rfl
@[simp] theorem State.freeNext_belOrd : (s.freeNext).belOrd = s.belOrd := rfl
@[simp] theorem State.freeNext_runs : (s.freeNext).runs = s.runs := rfl
@[simp] theorem State.freeNext_slotAt : (s.freeNext).slotAt = s.slotAt := rfl
@[simp] theorem State.freeNext_slotNext : (s.freeNext).slotNext = s.slotNext := rfl
@[simp] theorem State.freeNext_ejl : (s.freeNext).ejl = s.ejl := rfl
@[simp] theorem State.freeNext_wdogAt : (s.freeNext).wdogAt = s.wdogAt := rfl
@[simp] theorem State.freeNext_fbs : (s.freeNext).fbs = s.fbs := rfl
@[simp] theorem State.freeNext_axes : (s.freeNext).axes = s.axes := rfl
@[simp] theorem State.freeNext_segs : (s.freeNext).segs = s.segs := rfl
@[simp] theorem State.freeNext_memErr : (s.freeNext).memErr = s.memErr := rfl
@[simp] theorem State.freeNext_mcs : (s.freeNext).mcs = s.mcs := rfl
@[simp] theorem State.freeNext_mcTable : (s.freeNext).mcTable = s.mcTable := rfl
@[simp] theorem State.freeNext_mcDensity : (s.freeNext).mcDensity = s.mcDensity := rfl
@[simp] theorem State.freeNext_mcClass : (s.freeNext).mcClass = s.mcClass := rfl
@[simp] theorem State.freeNext_migCh : (s.freeNext).migCh = s.migCh := rfl
@[simp] theorem State.freeNext_migBack : (s.freeNext).migBack = s.migBack := rfl
@[simp] theorem State.freeNext_migTop : (s.freeNext).migTop = s.migTop := rfl
@[simp] theorem State.freeNext_dmas : (s.freeNext).dmas = s.dmas := rfl
@[simp] theorem State.freeNext_dmaLast : (s.freeNext).dmaLast = s.dmaLast := rfl
@[simp] theorem State.freeNext_firns : (s.freeNext).firns = s.firns := rfl
@[simp] theorem State.freeNext_firnImgs : (s.freeNext).firnImgs = s.firnImgs := rfl
@[simp] theorem State.freeNext_tps : (s.freeNext).tps = s.tps := rfl
@[simp] theorem State.freeNext_ethTx : (s.freeNext).ethTx = s.ethTx := rfl
@[simp] theorem State.freeNext_mdioCmd : (s.freeNext).mdioCmd = s.mdioCmd := rfl
@[simp] theorem State.freeNext_cache : (s.freeNext).cache = s.cache := rfl
@[simp] theorem State.freeNext_wbuf : (s.freeNext).wbuf = s.wbuf := rfl
@[simp] theorem State.freeNext_ioBuf : (s.freeNext).ioBuf = s.ioBuf := rfl
@[simp] theorem State.freeNext_harts : (s.freeNext).harts = s.harts := rfl
@[simp] theorem State.freeNext_guardMem : (s.freeNext).guardMem = s.guardMem := rfl
@[simp] theorem State.freeNext_twOpen : (s.freeNext).twOpen = s.twOpen := rfl
@[simp] theorem State.freeNext_twCycle : (s.freeNext).twCycle = s.twCycle := rfl
@[simp] theorem State.freeNext_twUnacked : (s.freeNext).twUnacked = s.twUnacked := rfl
@[simp] theorem State.freeNext_twAcked : (s.freeNext).twAcked = s.twAcked := rfl
@[simp] theorem State.freeNext_twIn : (s.freeNext).twIn = s.twIn := rfl
@[simp] theorem State.freeNext_twHeld : (s.freeNext).twHeld = s.twHeld := rfl
@[simp] theorem State.freeNext_twShadow : (s.freeNext).twShadow = s.twShadow := rfl
@[simp] theorem State.freeNext_twDump : (s.freeNext).twDump = s.twDump := rfl
@[simp] theorem State.freeNext_twAlign : (s.freeNext).twAlign = s.twAlign := rfl
@[simp] theorem State.freeNext_peerBlks : (s.freeNext).peerBlks = s.peerBlks := rfl
@[simp] theorem State.freeNext_hbSeq : (s.freeNext).hbSeq = s.hbSeq := rfl
@[simp] theorem State.freeNext_hbLine : (s.freeNext).hbLine = s.hbLine := rfl
@[simp] theorem State.freeNext_userHdr : (s.freeNext).userHdr = s.userHdr := rfl
@[simp] theorem State.freeNext_hbAt : (s.freeNext).hbAt = s.hbAt := rfl
@[simp] theorem State.freeNext_hbStop : (s.freeNext).hbStop = s.hbStop := rfl
@[simp] theorem State.freeNext_hbPath : (s.freeNext).hbPath = s.hbPath := rfl
@[simp] theorem State.freeNext_claimAt : (s.freeNext).claimAt = s.claimAt := rfl
@[simp] theorem State.freeNext_settleAt : (s.freeNext).settleAt = s.settleAt := rfl
@[simp] theorem State.freeNext_handover : (s.freeNext).handover = s.handover := rfl
@[simp] theorem State.freeNext_peerSynced : (s.freeNext).peerSynced = s.peerSynced := rfl
@[simp] theorem State.freeNext_twDseq : (s.freeNext).twDseq = s.twDseq := rfl
@[simp] theorem State.freeNext_calWant : (s.freeNext).calWant = s.calWant := rfl
@[simp] theorem State.freeNext_calRun : (s.freeNext).calRun = s.calRun := rfl
@[simp] theorem State.freeNext_calStaged : (s.freeNext).calStaged = s.calStaged := rfl
@[simp] theorem State.freeNext_errAt : (s.freeNext).errAt = s.errAt := rfl
@[simp] theorem State.freeNext_railLow : (s.freeNext).railLow = s.railLow := rfl
@[simp] theorem State.freeNext_uarts : (s.freeNext).uarts = s.uarts := rfl
@[simp] theorem State.freeNext_qspiRun : (s.freeNext).qspiRun = s.qspiRun := rfl
@[simp] theorem State.freeNext_iicRun : (s.freeNext).iicRun = s.iicRun := rfl
@[simp] theorem State.freeNext_booted : (s.freeNext).booted = s.booted := rfl
@[simp] theorem State.freeNext_doorPer : (s.freeNext).doorPer = s.doorPer := rfl
@[simp] theorem State.freeNext_gBell : (s.freeNext).gBell = s.gBell := rfl
@[simp] theorem State.freeNext_fuses : (s.freeNext).fuses = s.fuses := rfl
@[simp] theorem State.freeNext_jtagDis : (s.freeNext).jtagDis = s.jtagDis := rfl
@[simp] theorem State.freeNext_jtagIr : (s.freeNext).jtagIr = s.jtagIr := rfl
@[simp] theorem State.freeNext_fuseSel : (s.freeNext).fuseSel = s.fuseSel := rfl
@[simp] theorem State.freeNext_fuseData : (s.freeNext).fuseData = s.fuseData := rfl
@[simp] theorem State.freeNext_bscan : (s.freeNext).bscan = s.bscan := rfl

/-! `keepQueue` puts back pending, cyc. -/

@[simp] theorem State.keepQueue_pending : (t.keepQueue s).pending = s.pending := rfl
@[simp] theorem State.keepQueue_regs : (t.keepQueue s).regs = t.regs := rfl
@[simp] theorem State.keepQueue_mem : (t.keepQueue s).mem = t.mem := rfl
@[simp] theorem State.keepQueue_outbox : (t.keepQueue s).outbox = t.outbox := rfl
@[simp] theorem State.keepQueue_cyc : (t.keepQueue s).cyc = s.cyc := rfl
@[simp] theorem State.keepQueue_porCyc : (t.keepQueue s).porCyc = t.porCyc := rfl
@[simp] theorem State.keepQueue_mainReset : (t.keepQueue s).mainReset = t.mainReset := rfl
@[simp] theorem State.keepQueue_hold : (t.keepQueue s).hold = t.hold := rfl
@[simp] theorem State.keepQueue_time : (t.keepQueue s).time = t.time := rfl
@[simp] theorem State.keepQueue_chans : (t.keepQueue s).chans = t.chans := rfl
@[simp] theorem State.keepQueue_chanIn : (t.keepQueue s).chanIn = t.chanIn := rfl
@[simp] theorem State.keepQueue_consIn : (t.keepQueue s).consIn = t.consIn := rfl
@[simp] theorem State.keepQueue_fixedIn : (t.keepQueue s).fixedIn = t.fixedIn := rfl
@[simp] theorem State.keepQueue_snapReq : (t.keepQueue s).snapReq = t.snapReq := rfl
@[simp] theorem State.keepQueue_tvBad : (t.keepQueue s).tvBad = t.tvBad := rfl
@[simp] theorem State.keepQueue_freeIx : (t.keepQueue s).freeIx = t.freeIx := rfl
@[simp] theorem State.keepQueue_lanes : (t.keepQueue s).lanes = t.lanes := rfl
@[simp] theorem State.keepQueue_quads : (t.keepQueue s).quads = t.quads := rfl
@[simp] theorem State.keepQueue_ports : (t.keepQueue s).ports = t.ports := rfl
@[simp] theorem State.keepQueue_feIn : (t.keepQueue s).feIn = t.feIn := rfl
@[simp] theorem State.keepQueue_fes : (t.keepQueue s).fes = t.fes := rfl
@[simp] theorem State.keepQueue_stIn : (t.keepQueue s).stIn = t.stIn := rfl
@[simp] theorem State.keepQueue_views : (t.keepQueue s).views = t.views := rfl
@[simp] theorem State.keepQueue_stTab : (t.keepQueue s).stTab = t.stTab := rfl
@[simp] theorem State.keepQueue_stStage : (t.keepQueue s).stStage = t.stStage := rfl
@[simp] theorem State.keepQueue_driftIn : (t.keepQueue s).driftIn = t.driftIn := rfl
@[simp] theorem State.keepQueue_drift : (t.keepQueue s).drift = t.drift := rfl
@[simp] theorem State.keepQueue_tiles : (t.keepQueue s).tiles = t.tiles := rfl
@[simp] theorem State.keepQueue_groups : (t.keepQueue s).groups = t.groups := rfl
@[simp] theorem State.keepQueue_classRows : (t.keepQueue s).classRows = t.classRows := rfl
@[simp] theorem State.keepQueue_classPrev : (t.keepQueue s).classPrev = t.classPrev := rfl
@[simp] theorem State.keepQueue_mvIn : (t.keepQueue s).mvIn = t.mvIn := rfl
@[simp] theorem State.keepQueue_leftDrift : (t.keepQueue s).leftDrift = t.leftDrift := rfl
@[simp] theorem State.keepQueue_horizon : (t.keepQueue s).horizon = t.horizon := rfl
@[simp] theorem State.keepQueue_objs : (t.keepQueue s).objs = t.objs := rfl
@[simp] theorem State.keepQueue_mvCfg : (t.keepQueue s).mvCfg = t.mvCfg := rfl
@[simp] theorem State.keepQueue_rules : (t.keepQueue s).rules = t.rules := rfl
@[simp] theorem State.keepQueue_flights : (t.keepQueue s).flights = t.flights := rfl
@[simp] theorem State.keepQueue_decideQ : (t.keepQueue s).decideQ = t.decideQ := rfl
@[simp] theorem State.keepQueue_recPart : (t.keepQueue s).recPart = t.recPart := rfl
@[simp] theorem State.keepQueue_checkBlks : (t.keepQueue s).checkBlks = t.checkBlks := rfl
@[simp] theorem State.keepQueue_belIn : (t.keepQueue s).belIn = t.belIn := rfl
@[simp] theorem State.keepQueue_testIn : (t.keepQueue s).testIn = t.testIn := rfl
@[simp] theorem State.keepQueue_belQ : (t.keepQueue s).belQ = t.belQ := rfl
@[simp] theorem State.keepQueue_belOrd : (t.keepQueue s).belOrd = t.belOrd := rfl
@[simp] theorem State.keepQueue_runs : (t.keepQueue s).runs = t.runs := rfl
@[simp] theorem State.keepQueue_slotAt : (t.keepQueue s).slotAt = t.slotAt := rfl
@[simp] theorem State.keepQueue_slotNext : (t.keepQueue s).slotNext = t.slotNext := rfl
@[simp] theorem State.keepQueue_ejl : (t.keepQueue s).ejl = t.ejl := rfl
@[simp] theorem State.keepQueue_wdogAt : (t.keepQueue s).wdogAt = t.wdogAt := rfl
@[simp] theorem State.keepQueue_fbs : (t.keepQueue s).fbs = t.fbs := rfl
@[simp] theorem State.keepQueue_axes : (t.keepQueue s).axes = t.axes := rfl
@[simp] theorem State.keepQueue_segs : (t.keepQueue s).segs = t.segs := rfl
@[simp] theorem State.keepQueue_memErr : (t.keepQueue s).memErr = t.memErr := rfl
@[simp] theorem State.keepQueue_mcs : (t.keepQueue s).mcs = t.mcs := rfl
@[simp] theorem State.keepQueue_mcTable : (t.keepQueue s).mcTable = t.mcTable := rfl
@[simp] theorem State.keepQueue_mcDensity : (t.keepQueue s).mcDensity = t.mcDensity := rfl
@[simp] theorem State.keepQueue_mcClass : (t.keepQueue s).mcClass = t.mcClass := rfl
@[simp] theorem State.keepQueue_migCh : (t.keepQueue s).migCh = t.migCh := rfl
@[simp] theorem State.keepQueue_migBack : (t.keepQueue s).migBack = t.migBack := rfl
@[simp] theorem State.keepQueue_migTop : (t.keepQueue s).migTop = t.migTop := rfl
@[simp] theorem State.keepQueue_dmas : (t.keepQueue s).dmas = t.dmas := rfl
@[simp] theorem State.keepQueue_dmaLast : (t.keepQueue s).dmaLast = t.dmaLast := rfl
@[simp] theorem State.keepQueue_firns : (t.keepQueue s).firns = t.firns := rfl
@[simp] theorem State.keepQueue_firnImgs : (t.keepQueue s).firnImgs = t.firnImgs := rfl
@[simp] theorem State.keepQueue_tps : (t.keepQueue s).tps = t.tps := rfl
@[simp] theorem State.keepQueue_ethTx : (t.keepQueue s).ethTx = t.ethTx := rfl
@[simp] theorem State.keepQueue_mdioCmd : (t.keepQueue s).mdioCmd = t.mdioCmd := rfl
@[simp] theorem State.keepQueue_cache : (t.keepQueue s).cache = t.cache := rfl
@[simp] theorem State.keepQueue_wbuf : (t.keepQueue s).wbuf = t.wbuf := rfl
@[simp] theorem State.keepQueue_ioBuf : (t.keepQueue s).ioBuf = t.ioBuf := rfl
@[simp] theorem State.keepQueue_harts : (t.keepQueue s).harts = t.harts := rfl
@[simp] theorem State.keepQueue_guardMem : (t.keepQueue s).guardMem = t.guardMem := rfl
@[simp] theorem State.keepQueue_twOpen : (t.keepQueue s).twOpen = t.twOpen := rfl
@[simp] theorem State.keepQueue_twCycle : (t.keepQueue s).twCycle = t.twCycle := rfl
@[simp] theorem State.keepQueue_twUnacked : (t.keepQueue s).twUnacked = t.twUnacked := rfl
@[simp] theorem State.keepQueue_twAcked : (t.keepQueue s).twAcked = t.twAcked := rfl
@[simp] theorem State.keepQueue_twIn : (t.keepQueue s).twIn = t.twIn := rfl
@[simp] theorem State.keepQueue_twHeld : (t.keepQueue s).twHeld = t.twHeld := rfl
@[simp] theorem State.keepQueue_twShadow : (t.keepQueue s).twShadow = t.twShadow := rfl
@[simp] theorem State.keepQueue_twDump : (t.keepQueue s).twDump = t.twDump := rfl
@[simp] theorem State.keepQueue_twAlign : (t.keepQueue s).twAlign = t.twAlign := rfl
@[simp] theorem State.keepQueue_peerBlks : (t.keepQueue s).peerBlks = t.peerBlks := rfl
@[simp] theorem State.keepQueue_hbSeq : (t.keepQueue s).hbSeq = t.hbSeq := rfl
@[simp] theorem State.keepQueue_hbLine : (t.keepQueue s).hbLine = t.hbLine := rfl
@[simp] theorem State.keepQueue_userHdr : (t.keepQueue s).userHdr = t.userHdr := rfl
@[simp] theorem State.keepQueue_hbAt : (t.keepQueue s).hbAt = t.hbAt := rfl
@[simp] theorem State.keepQueue_hbStop : (t.keepQueue s).hbStop = t.hbStop := rfl
@[simp] theorem State.keepQueue_hbPath : (t.keepQueue s).hbPath = t.hbPath := rfl
@[simp] theorem State.keepQueue_claimAt : (t.keepQueue s).claimAt = t.claimAt := rfl
@[simp] theorem State.keepQueue_settleAt : (t.keepQueue s).settleAt = t.settleAt := rfl
@[simp] theorem State.keepQueue_handover : (t.keepQueue s).handover = t.handover := rfl
@[simp] theorem State.keepQueue_peerSynced : (t.keepQueue s).peerSynced = t.peerSynced := rfl
@[simp] theorem State.keepQueue_twDseq : (t.keepQueue s).twDseq = t.twDseq := rfl
@[simp] theorem State.keepQueue_calWant : (t.keepQueue s).calWant = t.calWant := rfl
@[simp] theorem State.keepQueue_calRun : (t.keepQueue s).calRun = t.calRun := rfl
@[simp] theorem State.keepQueue_calStaged : (t.keepQueue s).calStaged = t.calStaged := rfl
@[simp] theorem State.keepQueue_errAt : (t.keepQueue s).errAt = t.errAt := rfl
@[simp] theorem State.keepQueue_railLow : (t.keepQueue s).railLow = t.railLow := rfl
@[simp] theorem State.keepQueue_uarts : (t.keepQueue s).uarts = t.uarts := rfl
@[simp] theorem State.keepQueue_qspiRun : (t.keepQueue s).qspiRun = t.qspiRun := rfl
@[simp] theorem State.keepQueue_iicRun : (t.keepQueue s).iicRun = t.iicRun := rfl
@[simp] theorem State.keepQueue_booted : (t.keepQueue s).booted = t.booted := rfl
@[simp] theorem State.keepQueue_doorPer : (t.keepQueue s).doorPer = t.doorPer := rfl
@[simp] theorem State.keepQueue_gBell : (t.keepQueue s).gBell = t.gBell := rfl
@[simp] theorem State.keepQueue_fuses : (t.keepQueue s).fuses = t.fuses := rfl
@[simp] theorem State.keepQueue_jtagDis : (t.keepQueue s).jtagDis = t.jtagDis := rfl
@[simp] theorem State.keepQueue_jtagIr : (t.keepQueue s).jtagIr = t.jtagIr := rfl
@[simp] theorem State.keepQueue_fuseSel : (t.keepQueue s).fuseSel = t.fuseSel := rfl
@[simp] theorem State.keepQueue_fuseData : (t.keepQueue s).fuseData = t.fuseData := rfl
@[simp] theorem State.keepQueue_bscan : (t.keepQueue s).bscan = t.bscan := rfl

/-! `keepTap` puts back pending, cyc, porCyc, fuses, jtagDis, jtagIr, fuseSel, fuseData, bscan, hold. -/

@[simp] theorem State.keepTap_pending : (t.keepTap s).pending = s.pending := rfl
@[simp] theorem State.keepTap_regs : (t.keepTap s).regs = t.regs := rfl
@[simp] theorem State.keepTap_mem : (t.keepTap s).mem = t.mem := rfl
@[simp] theorem State.keepTap_outbox : (t.keepTap s).outbox = t.outbox := rfl
@[simp] theorem State.keepTap_cyc : (t.keepTap s).cyc = s.cyc := rfl
@[simp] theorem State.keepTap_porCyc : (t.keepTap s).porCyc = s.porCyc := rfl
@[simp] theorem State.keepTap_mainReset : (t.keepTap s).mainReset = t.mainReset := rfl
@[simp] theorem State.keepTap_hold : (t.keepTap s).hold = s.hold := rfl
@[simp] theorem State.keepTap_time : (t.keepTap s).time = t.time := rfl
@[simp] theorem State.keepTap_chans : (t.keepTap s).chans = t.chans := rfl
@[simp] theorem State.keepTap_chanIn : (t.keepTap s).chanIn = t.chanIn := rfl
@[simp] theorem State.keepTap_consIn : (t.keepTap s).consIn = t.consIn := rfl
@[simp] theorem State.keepTap_fixedIn : (t.keepTap s).fixedIn = t.fixedIn := rfl
@[simp] theorem State.keepTap_snapReq : (t.keepTap s).snapReq = t.snapReq := rfl
@[simp] theorem State.keepTap_tvBad : (t.keepTap s).tvBad = t.tvBad := rfl
@[simp] theorem State.keepTap_freeIx : (t.keepTap s).freeIx = t.freeIx := rfl
@[simp] theorem State.keepTap_lanes : (t.keepTap s).lanes = t.lanes := rfl
@[simp] theorem State.keepTap_quads : (t.keepTap s).quads = t.quads := rfl
@[simp] theorem State.keepTap_ports : (t.keepTap s).ports = t.ports := rfl
@[simp] theorem State.keepTap_feIn : (t.keepTap s).feIn = t.feIn := rfl
@[simp] theorem State.keepTap_fes : (t.keepTap s).fes = t.fes := rfl
@[simp] theorem State.keepTap_stIn : (t.keepTap s).stIn = t.stIn := rfl
@[simp] theorem State.keepTap_views : (t.keepTap s).views = t.views := rfl
@[simp] theorem State.keepTap_stTab : (t.keepTap s).stTab = t.stTab := rfl
@[simp] theorem State.keepTap_stStage : (t.keepTap s).stStage = t.stStage := rfl
@[simp] theorem State.keepTap_driftIn : (t.keepTap s).driftIn = t.driftIn := rfl
@[simp] theorem State.keepTap_drift : (t.keepTap s).drift = t.drift := rfl
@[simp] theorem State.keepTap_tiles : (t.keepTap s).tiles = t.tiles := rfl
@[simp] theorem State.keepTap_groups : (t.keepTap s).groups = t.groups := rfl
@[simp] theorem State.keepTap_classRows : (t.keepTap s).classRows = t.classRows := rfl
@[simp] theorem State.keepTap_classPrev : (t.keepTap s).classPrev = t.classPrev := rfl
@[simp] theorem State.keepTap_mvIn : (t.keepTap s).mvIn = t.mvIn := rfl
@[simp] theorem State.keepTap_leftDrift : (t.keepTap s).leftDrift = t.leftDrift := rfl
@[simp] theorem State.keepTap_horizon : (t.keepTap s).horizon = t.horizon := rfl
@[simp] theorem State.keepTap_objs : (t.keepTap s).objs = t.objs := rfl
@[simp] theorem State.keepTap_mvCfg : (t.keepTap s).mvCfg = t.mvCfg := rfl
@[simp] theorem State.keepTap_rules : (t.keepTap s).rules = t.rules := rfl
@[simp] theorem State.keepTap_flights : (t.keepTap s).flights = t.flights := rfl
@[simp] theorem State.keepTap_decideQ : (t.keepTap s).decideQ = t.decideQ := rfl
@[simp] theorem State.keepTap_recPart : (t.keepTap s).recPart = t.recPart := rfl
@[simp] theorem State.keepTap_checkBlks : (t.keepTap s).checkBlks = t.checkBlks := rfl
@[simp] theorem State.keepTap_belIn : (t.keepTap s).belIn = t.belIn := rfl
@[simp] theorem State.keepTap_testIn : (t.keepTap s).testIn = t.testIn := rfl
@[simp] theorem State.keepTap_belQ : (t.keepTap s).belQ = t.belQ := rfl
@[simp] theorem State.keepTap_belOrd : (t.keepTap s).belOrd = t.belOrd := rfl
@[simp] theorem State.keepTap_runs : (t.keepTap s).runs = t.runs := rfl
@[simp] theorem State.keepTap_slotAt : (t.keepTap s).slotAt = t.slotAt := rfl
@[simp] theorem State.keepTap_slotNext : (t.keepTap s).slotNext = t.slotNext := rfl
@[simp] theorem State.keepTap_ejl : (t.keepTap s).ejl = t.ejl := rfl
@[simp] theorem State.keepTap_wdogAt : (t.keepTap s).wdogAt = t.wdogAt := rfl
@[simp] theorem State.keepTap_fbs : (t.keepTap s).fbs = t.fbs := rfl
@[simp] theorem State.keepTap_axes : (t.keepTap s).axes = t.axes := rfl
@[simp] theorem State.keepTap_segs : (t.keepTap s).segs = t.segs := rfl
@[simp] theorem State.keepTap_memErr : (t.keepTap s).memErr = t.memErr := rfl
@[simp] theorem State.keepTap_mcs : (t.keepTap s).mcs = t.mcs := rfl
@[simp] theorem State.keepTap_mcTable : (t.keepTap s).mcTable = t.mcTable := rfl
@[simp] theorem State.keepTap_mcDensity : (t.keepTap s).mcDensity = t.mcDensity := rfl
@[simp] theorem State.keepTap_mcClass : (t.keepTap s).mcClass = t.mcClass := rfl
@[simp] theorem State.keepTap_migCh : (t.keepTap s).migCh = t.migCh := rfl
@[simp] theorem State.keepTap_migBack : (t.keepTap s).migBack = t.migBack := rfl
@[simp] theorem State.keepTap_migTop : (t.keepTap s).migTop = t.migTop := rfl
@[simp] theorem State.keepTap_dmas : (t.keepTap s).dmas = t.dmas := rfl
@[simp] theorem State.keepTap_dmaLast : (t.keepTap s).dmaLast = t.dmaLast := rfl
@[simp] theorem State.keepTap_firns : (t.keepTap s).firns = t.firns := rfl
@[simp] theorem State.keepTap_firnImgs : (t.keepTap s).firnImgs = t.firnImgs := rfl
@[simp] theorem State.keepTap_tps : (t.keepTap s).tps = t.tps := rfl
@[simp] theorem State.keepTap_ethTx : (t.keepTap s).ethTx = t.ethTx := rfl
@[simp] theorem State.keepTap_mdioCmd : (t.keepTap s).mdioCmd = t.mdioCmd := rfl
@[simp] theorem State.keepTap_cache : (t.keepTap s).cache = t.cache := rfl
@[simp] theorem State.keepTap_wbuf : (t.keepTap s).wbuf = t.wbuf := rfl
@[simp] theorem State.keepTap_ioBuf : (t.keepTap s).ioBuf = t.ioBuf := rfl
@[simp] theorem State.keepTap_harts : (t.keepTap s).harts = t.harts := rfl
@[simp] theorem State.keepTap_guardMem : (t.keepTap s).guardMem = t.guardMem := rfl
@[simp] theorem State.keepTap_twOpen : (t.keepTap s).twOpen = t.twOpen := rfl
@[simp] theorem State.keepTap_twCycle : (t.keepTap s).twCycle = t.twCycle := rfl
@[simp] theorem State.keepTap_twUnacked : (t.keepTap s).twUnacked = t.twUnacked := rfl
@[simp] theorem State.keepTap_twAcked : (t.keepTap s).twAcked = t.twAcked := rfl
@[simp] theorem State.keepTap_twIn : (t.keepTap s).twIn = t.twIn := rfl
@[simp] theorem State.keepTap_twHeld : (t.keepTap s).twHeld = t.twHeld := rfl
@[simp] theorem State.keepTap_twShadow : (t.keepTap s).twShadow = t.twShadow := rfl
@[simp] theorem State.keepTap_twDump : (t.keepTap s).twDump = t.twDump := rfl
@[simp] theorem State.keepTap_twAlign : (t.keepTap s).twAlign = t.twAlign := rfl
@[simp] theorem State.keepTap_peerBlks : (t.keepTap s).peerBlks = t.peerBlks := rfl
@[simp] theorem State.keepTap_hbSeq : (t.keepTap s).hbSeq = t.hbSeq := rfl
@[simp] theorem State.keepTap_hbLine : (t.keepTap s).hbLine = t.hbLine := rfl
@[simp] theorem State.keepTap_userHdr : (t.keepTap s).userHdr = t.userHdr := rfl
@[simp] theorem State.keepTap_hbAt : (t.keepTap s).hbAt = t.hbAt := rfl
@[simp] theorem State.keepTap_hbStop : (t.keepTap s).hbStop = t.hbStop := rfl
@[simp] theorem State.keepTap_hbPath : (t.keepTap s).hbPath = t.hbPath := rfl
@[simp] theorem State.keepTap_claimAt : (t.keepTap s).claimAt = t.claimAt := rfl
@[simp] theorem State.keepTap_settleAt : (t.keepTap s).settleAt = t.settleAt := rfl
@[simp] theorem State.keepTap_handover : (t.keepTap s).handover = t.handover := rfl
@[simp] theorem State.keepTap_peerSynced : (t.keepTap s).peerSynced = t.peerSynced := rfl
@[simp] theorem State.keepTap_twDseq : (t.keepTap s).twDseq = t.twDseq := rfl
@[simp] theorem State.keepTap_calWant : (t.keepTap s).calWant = t.calWant := rfl
@[simp] theorem State.keepTap_calRun : (t.keepTap s).calRun = t.calRun := rfl
@[simp] theorem State.keepTap_calStaged : (t.keepTap s).calStaged = t.calStaged := rfl
@[simp] theorem State.keepTap_errAt : (t.keepTap s).errAt = t.errAt := rfl
@[simp] theorem State.keepTap_railLow : (t.keepTap s).railLow = t.railLow := rfl
@[simp] theorem State.keepTap_uarts : (t.keepTap s).uarts = t.uarts := rfl
@[simp] theorem State.keepTap_qspiRun : (t.keepTap s).qspiRun = t.qspiRun := rfl
@[simp] theorem State.keepTap_iicRun : (t.keepTap s).iicRun = t.iicRun := rfl
@[simp] theorem State.keepTap_booted : (t.keepTap s).booted = t.booted := rfl
@[simp] theorem State.keepTap_doorPer : (t.keepTap s).doorPer = t.doorPer := rfl
@[simp] theorem State.keepTap_gBell : (t.keepTap s).gBell = t.gBell := rfl
@[simp] theorem State.keepTap_fuses : (t.keepTap s).fuses = s.fuses := rfl
@[simp] theorem State.keepTap_jtagDis : (t.keepTap s).jtagDis = s.jtagDis := rfl
@[simp] theorem State.keepTap_jtagIr : (t.keepTap s).jtagIr = s.jtagIr := rfl
@[simp] theorem State.keepTap_fuseSel : (t.keepTap s).fuseSel = s.fuseSel := rfl
@[simp] theorem State.keepTap_fuseData : (t.keepTap s).fuseData = s.fuseData := rfl
@[simp] theorem State.keepTap_bscan : (t.keepTap s).bscan = s.bscan := rfl

/-! `keepGuard` puts back pending, cyc, porCyc, fuses, jtagDis, jtagIr, fuseSel, fuseData, bscan, hold, guardMem. -/

@[simp] theorem State.keepGuard_pending : (t.keepGuard s).pending = s.pending := rfl
@[simp] theorem State.keepGuard_regs : (t.keepGuard s).regs = t.regs := rfl
@[simp] theorem State.keepGuard_mem : (t.keepGuard s).mem = t.mem := rfl
@[simp] theorem State.keepGuard_outbox : (t.keepGuard s).outbox = t.outbox := rfl
@[simp] theorem State.keepGuard_cyc : (t.keepGuard s).cyc = s.cyc := rfl
@[simp] theorem State.keepGuard_porCyc : (t.keepGuard s).porCyc = s.porCyc := rfl
@[simp] theorem State.keepGuard_mainReset : (t.keepGuard s).mainReset = t.mainReset := rfl
@[simp] theorem State.keepGuard_hold : (t.keepGuard s).hold = s.hold := rfl
@[simp] theorem State.keepGuard_time : (t.keepGuard s).time = t.time := rfl
@[simp] theorem State.keepGuard_chans : (t.keepGuard s).chans = t.chans := rfl
@[simp] theorem State.keepGuard_chanIn : (t.keepGuard s).chanIn = t.chanIn := rfl
@[simp] theorem State.keepGuard_consIn : (t.keepGuard s).consIn = t.consIn := rfl
@[simp] theorem State.keepGuard_fixedIn : (t.keepGuard s).fixedIn = t.fixedIn := rfl
@[simp] theorem State.keepGuard_snapReq : (t.keepGuard s).snapReq = t.snapReq := rfl
@[simp] theorem State.keepGuard_tvBad : (t.keepGuard s).tvBad = t.tvBad := rfl
@[simp] theorem State.keepGuard_freeIx : (t.keepGuard s).freeIx = t.freeIx := rfl
@[simp] theorem State.keepGuard_lanes : (t.keepGuard s).lanes = t.lanes := rfl
@[simp] theorem State.keepGuard_quads : (t.keepGuard s).quads = t.quads := rfl
@[simp] theorem State.keepGuard_ports : (t.keepGuard s).ports = t.ports := rfl
@[simp] theorem State.keepGuard_feIn : (t.keepGuard s).feIn = t.feIn := rfl
@[simp] theorem State.keepGuard_fes : (t.keepGuard s).fes = t.fes := rfl
@[simp] theorem State.keepGuard_stIn : (t.keepGuard s).stIn = t.stIn := rfl
@[simp] theorem State.keepGuard_views : (t.keepGuard s).views = t.views := rfl
@[simp] theorem State.keepGuard_stTab : (t.keepGuard s).stTab = t.stTab := rfl
@[simp] theorem State.keepGuard_stStage : (t.keepGuard s).stStage = t.stStage := rfl
@[simp] theorem State.keepGuard_driftIn : (t.keepGuard s).driftIn = t.driftIn := rfl
@[simp] theorem State.keepGuard_drift : (t.keepGuard s).drift = t.drift := rfl
@[simp] theorem State.keepGuard_tiles : (t.keepGuard s).tiles = t.tiles := rfl
@[simp] theorem State.keepGuard_groups : (t.keepGuard s).groups = t.groups := rfl
@[simp] theorem State.keepGuard_classRows : (t.keepGuard s).classRows = t.classRows := rfl
@[simp] theorem State.keepGuard_classPrev : (t.keepGuard s).classPrev = t.classPrev := rfl
@[simp] theorem State.keepGuard_mvIn : (t.keepGuard s).mvIn = t.mvIn := rfl
@[simp] theorem State.keepGuard_leftDrift : (t.keepGuard s).leftDrift = t.leftDrift := rfl
@[simp] theorem State.keepGuard_horizon : (t.keepGuard s).horizon = t.horizon := rfl
@[simp] theorem State.keepGuard_objs : (t.keepGuard s).objs = t.objs := rfl
@[simp] theorem State.keepGuard_mvCfg : (t.keepGuard s).mvCfg = t.mvCfg := rfl
@[simp] theorem State.keepGuard_rules : (t.keepGuard s).rules = t.rules := rfl
@[simp] theorem State.keepGuard_flights : (t.keepGuard s).flights = t.flights := rfl
@[simp] theorem State.keepGuard_decideQ : (t.keepGuard s).decideQ = t.decideQ := rfl
@[simp] theorem State.keepGuard_recPart : (t.keepGuard s).recPart = t.recPart := rfl
@[simp] theorem State.keepGuard_checkBlks : (t.keepGuard s).checkBlks = t.checkBlks := rfl
@[simp] theorem State.keepGuard_belIn : (t.keepGuard s).belIn = t.belIn := rfl
@[simp] theorem State.keepGuard_testIn : (t.keepGuard s).testIn = t.testIn := rfl
@[simp] theorem State.keepGuard_belQ : (t.keepGuard s).belQ = t.belQ := rfl
@[simp] theorem State.keepGuard_belOrd : (t.keepGuard s).belOrd = t.belOrd := rfl
@[simp] theorem State.keepGuard_runs : (t.keepGuard s).runs = t.runs := rfl
@[simp] theorem State.keepGuard_slotAt : (t.keepGuard s).slotAt = t.slotAt := rfl
@[simp] theorem State.keepGuard_slotNext : (t.keepGuard s).slotNext = t.slotNext := rfl
@[simp] theorem State.keepGuard_ejl : (t.keepGuard s).ejl = t.ejl := rfl
@[simp] theorem State.keepGuard_wdogAt : (t.keepGuard s).wdogAt = t.wdogAt := rfl
@[simp] theorem State.keepGuard_fbs : (t.keepGuard s).fbs = t.fbs := rfl
@[simp] theorem State.keepGuard_axes : (t.keepGuard s).axes = t.axes := rfl
@[simp] theorem State.keepGuard_segs : (t.keepGuard s).segs = t.segs := rfl
@[simp] theorem State.keepGuard_memErr : (t.keepGuard s).memErr = t.memErr := rfl
@[simp] theorem State.keepGuard_mcs : (t.keepGuard s).mcs = t.mcs := rfl
@[simp] theorem State.keepGuard_mcTable : (t.keepGuard s).mcTable = t.mcTable := rfl
@[simp] theorem State.keepGuard_mcDensity : (t.keepGuard s).mcDensity = t.mcDensity := rfl
@[simp] theorem State.keepGuard_mcClass : (t.keepGuard s).mcClass = t.mcClass := rfl
@[simp] theorem State.keepGuard_migCh : (t.keepGuard s).migCh = t.migCh := rfl
@[simp] theorem State.keepGuard_migBack : (t.keepGuard s).migBack = t.migBack := rfl
@[simp] theorem State.keepGuard_migTop : (t.keepGuard s).migTop = t.migTop := rfl
@[simp] theorem State.keepGuard_dmas : (t.keepGuard s).dmas = t.dmas := rfl
@[simp] theorem State.keepGuard_dmaLast : (t.keepGuard s).dmaLast = t.dmaLast := rfl
@[simp] theorem State.keepGuard_firns : (t.keepGuard s).firns = t.firns := rfl
@[simp] theorem State.keepGuard_firnImgs : (t.keepGuard s).firnImgs = t.firnImgs := rfl
@[simp] theorem State.keepGuard_tps : (t.keepGuard s).tps = t.tps := rfl
@[simp] theorem State.keepGuard_ethTx : (t.keepGuard s).ethTx = t.ethTx := rfl
@[simp] theorem State.keepGuard_mdioCmd : (t.keepGuard s).mdioCmd = t.mdioCmd := rfl
@[simp] theorem State.keepGuard_cache : (t.keepGuard s).cache = t.cache := rfl
@[simp] theorem State.keepGuard_wbuf : (t.keepGuard s).wbuf = t.wbuf := rfl
@[simp] theorem State.keepGuard_ioBuf : (t.keepGuard s).ioBuf = t.ioBuf := rfl
@[simp] theorem State.keepGuard_harts : (t.keepGuard s).harts = t.harts := rfl
@[simp] theorem State.keepGuard_guardMem : (t.keepGuard s).guardMem = s.guardMem := rfl
@[simp] theorem State.keepGuard_twOpen : (t.keepGuard s).twOpen = t.twOpen := rfl
@[simp] theorem State.keepGuard_twCycle : (t.keepGuard s).twCycle = t.twCycle := rfl
@[simp] theorem State.keepGuard_twUnacked : (t.keepGuard s).twUnacked = t.twUnacked := rfl
@[simp] theorem State.keepGuard_twAcked : (t.keepGuard s).twAcked = t.twAcked := rfl
@[simp] theorem State.keepGuard_twIn : (t.keepGuard s).twIn = t.twIn := rfl
@[simp] theorem State.keepGuard_twHeld : (t.keepGuard s).twHeld = t.twHeld := rfl
@[simp] theorem State.keepGuard_twShadow : (t.keepGuard s).twShadow = t.twShadow := rfl
@[simp] theorem State.keepGuard_twDump : (t.keepGuard s).twDump = t.twDump := rfl
@[simp] theorem State.keepGuard_twAlign : (t.keepGuard s).twAlign = t.twAlign := rfl
@[simp] theorem State.keepGuard_peerBlks : (t.keepGuard s).peerBlks = t.peerBlks := rfl
@[simp] theorem State.keepGuard_hbSeq : (t.keepGuard s).hbSeq = t.hbSeq := rfl
@[simp] theorem State.keepGuard_hbLine : (t.keepGuard s).hbLine = t.hbLine := rfl
@[simp] theorem State.keepGuard_userHdr : (t.keepGuard s).userHdr = t.userHdr := rfl
@[simp] theorem State.keepGuard_hbAt : (t.keepGuard s).hbAt = t.hbAt := rfl
@[simp] theorem State.keepGuard_hbStop : (t.keepGuard s).hbStop = t.hbStop := rfl
@[simp] theorem State.keepGuard_hbPath : (t.keepGuard s).hbPath = t.hbPath := rfl
@[simp] theorem State.keepGuard_claimAt : (t.keepGuard s).claimAt = t.claimAt := rfl
@[simp] theorem State.keepGuard_settleAt : (t.keepGuard s).settleAt = t.settleAt := rfl
@[simp] theorem State.keepGuard_handover : (t.keepGuard s).handover = t.handover := rfl
@[simp] theorem State.keepGuard_peerSynced : (t.keepGuard s).peerSynced = t.peerSynced := rfl
@[simp] theorem State.keepGuard_twDseq : (t.keepGuard s).twDseq = t.twDseq := rfl
@[simp] theorem State.keepGuard_calWant : (t.keepGuard s).calWant = t.calWant := rfl
@[simp] theorem State.keepGuard_calRun : (t.keepGuard s).calRun = t.calRun := rfl
@[simp] theorem State.keepGuard_calStaged : (t.keepGuard s).calStaged = t.calStaged := rfl
@[simp] theorem State.keepGuard_errAt : (t.keepGuard s).errAt = t.errAt := rfl
@[simp] theorem State.keepGuard_railLow : (t.keepGuard s).railLow = t.railLow := rfl
@[simp] theorem State.keepGuard_uarts : (t.keepGuard s).uarts = t.uarts := rfl
@[simp] theorem State.keepGuard_qspiRun : (t.keepGuard s).qspiRun = t.qspiRun := rfl
@[simp] theorem State.keepGuard_iicRun : (t.keepGuard s).iicRun = t.iicRun := rfl
@[simp] theorem State.keepGuard_booted : (t.keepGuard s).booted = t.booted := rfl
@[simp] theorem State.keepGuard_doorPer : (t.keepGuard s).doorPer = t.doorPer := rfl
@[simp] theorem State.keepGuard_gBell : (t.keepGuard s).gBell = t.gBell := rfl
@[simp] theorem State.keepGuard_fuses : (t.keepGuard s).fuses = s.fuses := rfl
@[simp] theorem State.keepGuard_jtagDis : (t.keepGuard s).jtagDis = s.jtagDis := rfl
@[simp] theorem State.keepGuard_jtagIr : (t.keepGuard s).jtagIr = s.jtagIr := rfl
@[simp] theorem State.keepGuard_fuseSel : (t.keepGuard s).fuseSel = s.fuseSel := rfl
@[simp] theorem State.keepGuard_fuseData : (t.keepGuard s).fuseData = s.fuseData := rfl
@[simp] theorem State.keepGuard_bscan : (t.keepGuard s).bscan = s.bscan := rfl

/-! `keepIsland` puts back pending, cyc, porCyc, fuses, jtagDis, jtagIr, fuseSel, fuseData, bscan, hold, guardMem, railLow. -/

@[simp] theorem State.keepIsland_pending : (t.keepIsland s).pending = s.pending := rfl
@[simp] theorem State.keepIsland_regs : (t.keepIsland s).regs = t.regs := rfl
@[simp] theorem State.keepIsland_mem : (t.keepIsland s).mem = t.mem := rfl
@[simp] theorem State.keepIsland_outbox : (t.keepIsland s).outbox = t.outbox := rfl
@[simp] theorem State.keepIsland_cyc : (t.keepIsland s).cyc = s.cyc := rfl
@[simp] theorem State.keepIsland_porCyc : (t.keepIsland s).porCyc = s.porCyc := rfl
@[simp] theorem State.keepIsland_mainReset : (t.keepIsland s).mainReset = t.mainReset := rfl
@[simp] theorem State.keepIsland_hold : (t.keepIsland s).hold = s.hold := rfl
@[simp] theorem State.keepIsland_time : (t.keepIsland s).time = t.time := rfl
@[simp] theorem State.keepIsland_chans : (t.keepIsland s).chans = t.chans := rfl
@[simp] theorem State.keepIsland_chanIn : (t.keepIsland s).chanIn = t.chanIn := rfl
@[simp] theorem State.keepIsland_consIn : (t.keepIsland s).consIn = t.consIn := rfl
@[simp] theorem State.keepIsland_fixedIn : (t.keepIsland s).fixedIn = t.fixedIn := rfl
@[simp] theorem State.keepIsland_snapReq : (t.keepIsland s).snapReq = t.snapReq := rfl
@[simp] theorem State.keepIsland_tvBad : (t.keepIsland s).tvBad = t.tvBad := rfl
@[simp] theorem State.keepIsland_freeIx : (t.keepIsland s).freeIx = t.freeIx := rfl
@[simp] theorem State.keepIsland_lanes : (t.keepIsland s).lanes = t.lanes := rfl
@[simp] theorem State.keepIsland_quads : (t.keepIsland s).quads = t.quads := rfl
@[simp] theorem State.keepIsland_ports : (t.keepIsland s).ports = t.ports := rfl
@[simp] theorem State.keepIsland_feIn : (t.keepIsland s).feIn = t.feIn := rfl
@[simp] theorem State.keepIsland_fes : (t.keepIsland s).fes = t.fes := rfl
@[simp] theorem State.keepIsland_stIn : (t.keepIsland s).stIn = t.stIn := rfl
@[simp] theorem State.keepIsland_views : (t.keepIsland s).views = t.views := rfl
@[simp] theorem State.keepIsland_stTab : (t.keepIsland s).stTab = t.stTab := rfl
@[simp] theorem State.keepIsland_stStage : (t.keepIsland s).stStage = t.stStage := rfl
@[simp] theorem State.keepIsland_driftIn : (t.keepIsland s).driftIn = t.driftIn := rfl
@[simp] theorem State.keepIsland_drift : (t.keepIsland s).drift = t.drift := rfl
@[simp] theorem State.keepIsland_tiles : (t.keepIsland s).tiles = t.tiles := rfl
@[simp] theorem State.keepIsland_groups : (t.keepIsland s).groups = t.groups := rfl
@[simp] theorem State.keepIsland_classRows : (t.keepIsland s).classRows = t.classRows := rfl
@[simp] theorem State.keepIsland_classPrev : (t.keepIsland s).classPrev = t.classPrev := rfl
@[simp] theorem State.keepIsland_mvIn : (t.keepIsland s).mvIn = t.mvIn := rfl
@[simp] theorem State.keepIsland_leftDrift : (t.keepIsland s).leftDrift = t.leftDrift := rfl
@[simp] theorem State.keepIsland_horizon : (t.keepIsland s).horizon = t.horizon := rfl
@[simp] theorem State.keepIsland_objs : (t.keepIsland s).objs = t.objs := rfl
@[simp] theorem State.keepIsland_mvCfg : (t.keepIsland s).mvCfg = t.mvCfg := rfl
@[simp] theorem State.keepIsland_rules : (t.keepIsland s).rules = t.rules := rfl
@[simp] theorem State.keepIsland_flights : (t.keepIsland s).flights = t.flights := rfl
@[simp] theorem State.keepIsland_decideQ : (t.keepIsland s).decideQ = t.decideQ := rfl
@[simp] theorem State.keepIsland_recPart : (t.keepIsland s).recPart = t.recPart := rfl
@[simp] theorem State.keepIsland_checkBlks : (t.keepIsland s).checkBlks = t.checkBlks := rfl
@[simp] theorem State.keepIsland_belIn : (t.keepIsland s).belIn = t.belIn := rfl
@[simp] theorem State.keepIsland_testIn : (t.keepIsland s).testIn = t.testIn := rfl
@[simp] theorem State.keepIsland_belQ : (t.keepIsland s).belQ = t.belQ := rfl
@[simp] theorem State.keepIsland_belOrd : (t.keepIsland s).belOrd = t.belOrd := rfl
@[simp] theorem State.keepIsland_runs : (t.keepIsland s).runs = t.runs := rfl
@[simp] theorem State.keepIsland_slotAt : (t.keepIsland s).slotAt = t.slotAt := rfl
@[simp] theorem State.keepIsland_slotNext : (t.keepIsland s).slotNext = t.slotNext := rfl
@[simp] theorem State.keepIsland_ejl : (t.keepIsland s).ejl = t.ejl := rfl
@[simp] theorem State.keepIsland_wdogAt : (t.keepIsland s).wdogAt = t.wdogAt := rfl
@[simp] theorem State.keepIsland_fbs : (t.keepIsland s).fbs = t.fbs := rfl
@[simp] theorem State.keepIsland_axes : (t.keepIsland s).axes = t.axes := rfl
@[simp] theorem State.keepIsland_segs : (t.keepIsland s).segs = t.segs := rfl
@[simp] theorem State.keepIsland_memErr : (t.keepIsland s).memErr = t.memErr := rfl
@[simp] theorem State.keepIsland_mcs : (t.keepIsland s).mcs = t.mcs := rfl
@[simp] theorem State.keepIsland_mcTable : (t.keepIsland s).mcTable = t.mcTable := rfl
@[simp] theorem State.keepIsland_mcDensity : (t.keepIsland s).mcDensity = t.mcDensity := rfl
@[simp] theorem State.keepIsland_mcClass : (t.keepIsland s).mcClass = t.mcClass := rfl
@[simp] theorem State.keepIsland_migCh : (t.keepIsland s).migCh = t.migCh := rfl
@[simp] theorem State.keepIsland_migBack : (t.keepIsland s).migBack = t.migBack := rfl
@[simp] theorem State.keepIsland_migTop : (t.keepIsland s).migTop = t.migTop := rfl
@[simp] theorem State.keepIsland_dmas : (t.keepIsland s).dmas = t.dmas := rfl
@[simp] theorem State.keepIsland_dmaLast : (t.keepIsland s).dmaLast = t.dmaLast := rfl
@[simp] theorem State.keepIsland_firns : (t.keepIsland s).firns = t.firns := rfl
@[simp] theorem State.keepIsland_firnImgs : (t.keepIsland s).firnImgs = t.firnImgs := rfl
@[simp] theorem State.keepIsland_tps : (t.keepIsland s).tps = t.tps := rfl
@[simp] theorem State.keepIsland_ethTx : (t.keepIsland s).ethTx = t.ethTx := rfl
@[simp] theorem State.keepIsland_mdioCmd : (t.keepIsland s).mdioCmd = t.mdioCmd := rfl
@[simp] theorem State.keepIsland_cache : (t.keepIsland s).cache = t.cache := rfl
@[simp] theorem State.keepIsland_wbuf : (t.keepIsland s).wbuf = t.wbuf := rfl
@[simp] theorem State.keepIsland_ioBuf : (t.keepIsland s).ioBuf = t.ioBuf := rfl
@[simp] theorem State.keepIsland_harts : (t.keepIsland s).harts = t.harts := rfl
@[simp] theorem State.keepIsland_guardMem : (t.keepIsland s).guardMem = s.guardMem := rfl
@[simp] theorem State.keepIsland_twOpen : (t.keepIsland s).twOpen = t.twOpen := rfl
@[simp] theorem State.keepIsland_twCycle : (t.keepIsland s).twCycle = t.twCycle := rfl
@[simp] theorem State.keepIsland_twUnacked : (t.keepIsland s).twUnacked = t.twUnacked := rfl
@[simp] theorem State.keepIsland_twAcked : (t.keepIsland s).twAcked = t.twAcked := rfl
@[simp] theorem State.keepIsland_twIn : (t.keepIsland s).twIn = t.twIn := rfl
@[simp] theorem State.keepIsland_twHeld : (t.keepIsland s).twHeld = t.twHeld := rfl
@[simp] theorem State.keepIsland_twShadow : (t.keepIsland s).twShadow = t.twShadow := rfl
@[simp] theorem State.keepIsland_twDump : (t.keepIsland s).twDump = t.twDump := rfl
@[simp] theorem State.keepIsland_twAlign : (t.keepIsland s).twAlign = t.twAlign := rfl
@[simp] theorem State.keepIsland_peerBlks : (t.keepIsland s).peerBlks = t.peerBlks := rfl
@[simp] theorem State.keepIsland_hbSeq : (t.keepIsland s).hbSeq = t.hbSeq := rfl
@[simp] theorem State.keepIsland_hbLine : (t.keepIsland s).hbLine = t.hbLine := rfl
@[simp] theorem State.keepIsland_userHdr : (t.keepIsland s).userHdr = t.userHdr := rfl
@[simp] theorem State.keepIsland_hbAt : (t.keepIsland s).hbAt = t.hbAt := rfl
@[simp] theorem State.keepIsland_hbStop : (t.keepIsland s).hbStop = t.hbStop := rfl
@[simp] theorem State.keepIsland_hbPath : (t.keepIsland s).hbPath = t.hbPath := rfl
@[simp] theorem State.keepIsland_claimAt : (t.keepIsland s).claimAt = t.claimAt := rfl
@[simp] theorem State.keepIsland_settleAt : (t.keepIsland s).settleAt = t.settleAt := rfl
@[simp] theorem State.keepIsland_handover : (t.keepIsland s).handover = t.handover := rfl
@[simp] theorem State.keepIsland_peerSynced : (t.keepIsland s).peerSynced = t.peerSynced := rfl
@[simp] theorem State.keepIsland_twDseq : (t.keepIsland s).twDseq = t.twDseq := rfl
@[simp] theorem State.keepIsland_calWant : (t.keepIsland s).calWant = t.calWant := rfl
@[simp] theorem State.keepIsland_calRun : (t.keepIsland s).calRun = t.calRun := rfl
@[simp] theorem State.keepIsland_calStaged : (t.keepIsland s).calStaged = t.calStaged := rfl
@[simp] theorem State.keepIsland_errAt : (t.keepIsland s).errAt = t.errAt := rfl
@[simp] theorem State.keepIsland_railLow : (t.keepIsland s).railLow = s.railLow := rfl
@[simp] theorem State.keepIsland_uarts : (t.keepIsland s).uarts = t.uarts := rfl
@[simp] theorem State.keepIsland_qspiRun : (t.keepIsland s).qspiRun = t.qspiRun := rfl
@[simp] theorem State.keepIsland_iicRun : (t.keepIsland s).iicRun = t.iicRun := rfl
@[simp] theorem State.keepIsland_booted : (t.keepIsland s).booted = t.booted := rfl
@[simp] theorem State.keepIsland_doorPer : (t.keepIsland s).doorPer = t.doorPer := rfl
@[simp] theorem State.keepIsland_gBell : (t.keepIsland s).gBell = t.gBell := rfl
@[simp] theorem State.keepIsland_fuses : (t.keepIsland s).fuses = s.fuses := rfl
@[simp] theorem State.keepIsland_jtagDis : (t.keepIsland s).jtagDis = s.jtagDis := rfl
@[simp] theorem State.keepIsland_jtagIr : (t.keepIsland s).jtagIr = s.jtagIr := rfl
@[simp] theorem State.keepIsland_fuseSel : (t.keepIsland s).fuseSel = s.fuseSel := rfl
@[simp] theorem State.keepIsland_fuseData : (t.keepIsland s).fuseData = s.fuseData := rfl
@[simp] theorem State.keepIsland_bscan : (t.keepIsland s).bscan = s.bscan := rfl

end Sys2Proof.Machine
end

