-- ==== Sys2Proof/Laws/Ops.lean ====
section
/-! SUPPORT. What the shared operations do: registers, memory, and the outcomes of a command. -/

namespace Sys2Proof.Machine

variable (s : State)

/-! Registers: a write is read back, and leaves every other register alone. -/

@[simp] theorem rd_wr_same (a : Nat) (v : Word) : (s.wr a v).rd a = v := by simp [State.rd]

theorem rd_wr_ne {a b : Nat} (v : Word) (h : b ≠ a) : (s.wr a v).rd b = s.rd b := by
  simp [State.rd, SMap.get_set_ne _ _ _ h]

theorem rd_wr (a b : Nat) (v : Word) : (s.wr a v).rd b = if b = a then v else s.rd b := by
  simp [State.rd, SMap.get_set]

@[simp] theorem rd_setRaw (a b : Nat) (v : BitVec 8) : (s.setRaw a v).rd b = s.rd b := rfl
@[simp] theorem rd_emit (o : Output) (b : Nat) : (s.emit o).rd b = s.rd b := rfl
@[simp] theorem rd_freeNext (b : Nat) : s.freeNext.rd b = s.rd b := rfl

/-- Two states with the same registers and displacement find a byte at the same place. -/
theorem loc_congr {s t : State} (hr : t.regs = s.regs) (hm : t.migCh = s.migCh) (hb : t.migBack = s.migBack)
    (hp : t.migTop = s.migTop) (ht : t.mcTable = s.mcTable) (a : Nat) : t.loc a = s.loc a := by
  obtain ⟨⟩ := s
  obtain ⟨⟩ := t
  simp only at hr hm hb hp ht
  subst hr hm hb hp ht
  rfl

@[simp] theorem loc_setRaw (a b : Nat) (v : BitVec 8) : (s.setRaw a v).loc b = s.loc b :=
  loc_congr rfl rfl rfl rfl rfl b

@[simp] theorem rawByte_setRaw_same (a : Nat) (v : BitVec 8) : (s.setRaw a v).rawByte a = v := by
  simp [State.rawByte]

theorem rawByte_setRaw_ne {a b : Nat} (v : BitVec 8) (h : b ≠ a) : (s.setRaw a v).rawByte b = s.rawByte b := by
  simp [State.rawByte, SMap.get_set_ne _ _ _ h]

/-- A byte written is read back. -/
@[simp] theorem rdByte_wrByte_same (a : Nat) (v : BitVec 8) : (s.wrByte a v).rdByte a = v := by
  simp [State.wrByte, State.rdByte]

/-- A byte write leaves every byte that stands elsewhere alone. -/
theorem rdByte_wrByte_ne {a b : Nat} (v : BitVec 8) (h : s.loc b ≠ s.loc a) :
    (s.wrByte a v).rdByte b = s.rdByte b := by
  simp [State.wrByte, State.rdByte, rawByte_setRaw_ne _ _ h]

/-- While no channel is displaced, each address has a place of its own. -/
theorem loc_of_home (h : s.migCh = none) (a : Nat) : s.loc a = a := by simp [State.loc, h]

@[simp] theorem regs_wrByte (a : Nat) (v : BitVec 8) : (s.wrByte a v).regs = s.regs := rfl

theorem regs_wrBytes (l : List (BitVec 8)) : ∀ (s : State) (a : Nat), (s.wrBytes a l).regs = s.regs := by
  induction l with
  | nil => intro s a; rfl
  | cons b bs ih => intro s a; simp [State.wrBytes, ih]

theorem regs_wrMem (n : Nat) : ∀ (s : State) (a v : Nat), (s.wrMem a n v).regs = s.regs := by
  induction n with
  | zero => intro s a v; rfl
  | succ n ih => intro s a v; simp [State.wrMem, ih]

/-! The canonical forms. -/

theorem memWf_setRaw {s : State} (a : Nat) (b : BitVec 8) (h : memWf s = true) : memWf (s.setRaw a b) = true :=
  SMap.wf_set a b h

theorem memWf_wrByte {s : State} (a : Nat) (b : BitVec 8) (h : memWf s = true) : memWf (s.wrByte a b) = true :=
  memWf_setRaw _ _ h

theorem memWf_wrMem (n : Nat) : ∀ {s : State} (a v : Nat), memWf s = true → memWf (s.wrMem a n v) = true := by
  induction n with
  | zero => intro s a v h; exact h
  | succ n ih => intro s a v h; exact ih _ _ (memWf_wrByte _ _ h)

theorem memWf_wrBytes (l : List (BitVec 8)) : ∀ {s : State} (a : Nat), memWf s = true → memWf (s.wrBytes a l) = true := by
  induction l with
  | nil => intro s a h; exact h
  | cons b bs ih => intro s a h; exact ih _ (memWf_wrByte _ _ h)

theorem memWf_wr {s : State} (a : Nat) (v : Word) (h : memWf s = true) : memWf (s.wr a v) = true := h

theorem memWf_mainCleared {s : State} (h : memWf s = true) : memWf s.mainCleared = true :=
  SMap.wfFrom_filter _ h

theorem memWf_reset : memWf State.reset = true := rfl

theorem regsWf_wr {s : State} (a : Nat) (v : Word) (h : regsWf s = true) : regsWf (s.wr a v) = true :=
  SMap.wf_set a v h

theorem regsWf_wrByte {s : State} (a : Nat) (b : BitVec 8) (h : regsWf s = true) : regsWf (s.wrByte a b) = true := h

theorem regsWf_reset : regsWf State.reset = true := by decide

/-! The outcomes of a command. -/

/-- All that a command of the main domain can answer. -/
theorem onMain_next {ok : Bool} {s t : State} {f : State → State} (h : onMain ok s f = .next t) :
    ok = true ∧ ((s.mainReset = true ∧ t = s) ∨ (s.mainReset = false ∧ t = (f s).keepIsland s)) := by
  unfold onMain at h
  cases ok <;> cases hm : s.mainReset <;> simp_all

/-- All that a command of the island can answer. -/
theorem onIsland_next {ok : Bool} {s t : State} {f : State → State} (h : onIsland ok s f = .next t) :
    ok = true ∧ ((s.inPor = true ∧ t = s) ∨ (s.inPor = false ∧ t = (f s).keepGuard s)) := by
  unfold onIsland at h
  cases ok <;> cases hm : s.inPor <;> simp_all

/-- All that a command of a guardian core itself can answer. -/
theorem onGuard_next {ok : Bool} {s t : State} {f : State → State} (h : onGuard ok s f = .next t) :
    ok = true ∧ ((s.inPor = true ∧ t = s) ∨ (s.inPor = false ∧ t = (f s).keepTap s)) := by
  unfold onGuard at h
  cases ok <;> cases hm : s.inPor <;> simp_all

/-- All that a command which acts in every reset state can answer. -/
theorem onAlways_next {ok : Bool} {s t : State} {f : State → State} (h : onAlways ok s f = .next t) :
    ok = true ∧ t = (f s).keepQueue s := by
  unfold onAlways at h
  cases ok <;> simp_all

theorem onMust_next {must : Bool} {o : Out} {t : State} (h : onMust must o = .next t) : must = true ∧ o = .next t := by
  unfold onMust at h
  cases must <;> simp_all

theorem onMain_run {ok : Bool} {s : State} (f : State → State) (hk : ok = true) (hm : s.mainReset = false) :
    onMain ok s f = .next ((f s).keepIsland s) := by simp [onMain, hk, hm]

theorem onMain_reset {ok : Bool} {s : State} (f : State → State) (hk : ok = true) (hm : s.mainReset = true) :
    onMain ok s f = .next s := by simp [onMain, hk, hm]

theorem onIsland_run {ok : Bool} {s : State} (f : State → State) (hk : ok = true) (hm : s.inPor = false) :
    onIsland ok s f = .next ((f s).keepGuard s) := by simp [onIsland, hk, hm]

theorem onGuard_run {ok : Bool} {s : State} (f : State → State) (hk : ok = true) (hm : s.inPor = false) :
    onGuard ok s f = .next ((f s).keepTap s) := by simp [onGuard, hk, hm]

theorem onAlways_run {ok : Bool} {s : State} (f : State → State) (hk : ok = true) :
    onAlways ok s f = .next ((f s).keepQueue s) := by simp [onAlways, hk]

/-- Outside its conditions nothing happens under `when`. -/
@[simp] theorem State.when_true (f : State → State) : s.when true f = f s := rfl
@[simp] theorem State.when_false (f : State → State) : s.when false f = s := rfl

/-- `times` unrolled at its end. -/
theorem times_succ (n : Nat) (f : Nat → State → State) : times (n + 1) f s = f n (times n f s) := by
  simp [times, List.range_succ, List.foldl_append]

@[simp] theorem times_zero (f : Nat → State → State) : times 0 f s = s := rfl

end Sys2Proof.Machine
end

