-- ==== Sys2Proof/Laws/Frames.lean ====
section
/-! SUPPORT. Fields of a word and of a register, and all that counters, events and errors can change. -/

namespace Sys2Proof

/-! Fields. -/

theorem Fld.get_lt (f : Fld) (x : Word) : f.get x < 2 ^ f.w := Nat.mod_lt _ (Nat.two_pow_pos _)

theorem Fld.testBit_get (f : Fld) (x : Word) (i : Nat) : (f.get x).testBit i = (decide (i < f.w) && x.getLsbD (f.lo + i)) := by
  simp [Fld.get, BitVec.getLsbD, Nat.testBit_mod_two_pow, Nat.testBit_div_two_pow, Nat.add_comm]

/-- Every bit of a word with a field replaced: the field's from the number, the others from the word. -/
theorem Fld.getLsbD_put (f : Fld) (x : Word) (n : Nat) (i : Nat) (hi : i < 32) :
    (f.put x n).getLsbD i = if f.lo ≤ i ∧ i < f.lo + f.w then n.testBit (i - f.lo) else x.getLsbD i := by
  have hl : x.toNat % 2 ^ f.lo < 2 ^ f.lo := Nat.mod_lt _ (Nat.two_pow_pos _)
  have hm : n % 2 ^ f.w * 2 ^ f.lo + x.toNat % 2 ^ f.lo < 2 ^ (f.lo + f.w) := by
    have hn : n % 2 ^ f.w < 2 ^ f.w := Nat.mod_lt _ (Nat.two_pow_pos _)
    have : (n % 2 ^ f.w + 1) * 2 ^ f.lo ≤ 2 ^ f.w * 2 ^ f.lo := Nat.mul_le_mul_right _ hn
    rw [Nat.pow_add, Nat.mul_comm (2 ^ f.lo)]
    nlinarith
  have e : x.toNat / 2 ^ (f.lo + f.w) * 2 ^ (f.lo + f.w) + n % 2 ^ f.w * 2 ^ f.lo + x.toNat % 2 ^ f.lo
      = 2 ^ (f.lo + f.w) * (x.toNat / 2 ^ (f.lo + f.w)) + (2 ^ f.lo * (n % 2 ^ f.w) + x.toNat % 2 ^ f.lo) := by ring
  rw [Fld.put, e, BitVec.getLsbD_ofNat, Nat.testBit_two_pow_mul_add _ (by rw [Nat.mul_comm (2 ^ f.lo)]; exact hm),
    Nat.testBit_two_pow_mul_add _ hl]
  simp only [hi, decide_true, Bool.true_and, Nat.testBit_mod_two_pow, Nat.testBit_div_two_pow, BitVec.getLsbD]
  by_cases h1 : i < f.lo
  · have : ¬ f.lo ≤ i := by omega
    simp [h1, this, show i < f.lo + f.w by omega]
  · by_cases h2 : i < f.lo + f.w
    · simp [h1, h2, show f.lo ≤ i by omega, show i - f.lo < f.w by omega]
    · simp [h2, show i - (f.lo + f.w) + (f.lo + f.w) = i by omega]

/-- A field just replaced reads the low bits of the number. -/
theorem Fld.get_put (f : Fld) (x : Word) (n : Nat) (h : f.lo + f.w ≤ 32) : f.get (f.put x n) = n % 2 ^ f.w := by
  apply Nat.eq_of_testBit_eq
  intro i
  rw [Fld.testBit_get, Nat.testBit_mod_two_pow]
  by_cases hi : i < f.w
  · rw [Fld.getLsbD_put f x n _ (by omega)]
    simp [hi]
  · simp [hi]

/-- Replacing a field leaves a field that does not overlap it alone. -/
theorem Fld.get_put_ne (f g : Fld) (x : Word) (n : Nat) (hg : f.lo + f.w ≤ g.lo ∨ g.lo + g.w ≤ f.lo) :
    g.get (f.put x n) = g.get x := by
  apply Nat.eq_of_testBit_eq
  intro i
  rw [Fld.testBit_get, Fld.testBit_get]
  by_cases hi : i < g.w
  · by_cases h32 : g.lo + i < 32
    · rw [Fld.getLsbD_put f x n _ h32, if_neg (by omega)]
    · simp [BitVec.getLsbD_of_ge _ _ (Nat.le_of_not_lt h32)]
  · simp [hi]

theorem Fld.get_bit (k : Nat) (x : Word) : (bit k).get x = (x.getLsbD k).toNat := by
  apply Nat.eq_of_testBit_eq
  intro i
  rw [Fld.testBit_get]
  cases i with
  | zero => cases h : x.getLsbD k <;> simp [bit, h]
  | succ i => cases x.getLsbD k <;> simp [bit, Nat.testBit_succ]

end Sys2Proof

namespace Sys2Proof.Machine

variable {s t u : State}

/-! Fields of registers. -/

theorem gf_sf_same (a : Nat) (f : Fld) (n : Nat) (h : f.lo + f.w ≤ 32) : (s.sf a f n).gf a f = n % 2 ^ f.w := by
  simp [State.gf, State.sf, Fld.get_put _ _ _ h]

theorem gf_sf_ne (a : Nat) (f g : Fld) (n : Nat) (hg : f.lo + f.w ≤ g.lo ∨ g.lo + g.w ≤ f.lo) :
    (s.sf a f n).gf a g = s.gf a g := by
  simp [State.gf, State.sf, Fld.get_put_ne f g _ n hg]

theorem gf_congr {a : Nat} (f : Fld) (h : t.rd a = s.rd a) : t.gf a f = s.gf a f := by simp [State.gf, h]

theorem on_congr {a : Nat} (f : Fld) (h : t.rd a = s.rd a) : t.on a f = s.on a f := by simp [State.on, gf_congr f h]

theorem on_sf_one (a k : Nat) (hk : k < 32) : (s.sf a (bit k) 1).on a (bit k) = true := by
  rw [State.on, gf_sf_same _ _ _ (by simp [bit]; omega)]; rfl

theorem on_sf_zero (a k : Nat) (hk : k < 32) : (s.sf a (bit k) 0).on a (bit k) = false := by
  rw [State.on, gf_sf_same _ _ _ (by simp [bit]; omega)]; rfl

theorem rd_sf_ne {a b : Nat} (f : Fld) (n : Nat) (h : b ≠ a) : (s.sf a f n).rd b = s.rd b := rd_wr_ne _ _ h

theorem rdN_cnt_same (a : Nat) : (s.cnt a).rdN a = min 0xffffffff (s.rdN a + 1) := by
  simp only [State.cnt, State.cntN, State.wrN, State.rdN, rd_wr_same, BitVec.toNat_ofNat]
  omega

theorem rd_cnt_ne {a b : Nat} (h : b ≠ a) : (s.cnt a).rd b = s.rd b := rd_wr_ne _ _ h

/-! What an operation can change: registers, pulses on their way to the event fabric, and the cycles of captures. -/

/-- Only the listed registers, the pulses on their way and the cycles of captures differ. -/
def evTouches (s t : State) (l : List Nat) : Prop :=
  t = { s with regs := t.regs, chanIn := t.chanIn, fixedIn := t.fixedIn, errAt := t.errAt } ∧ ∀ a, a ∉ l → t.rd a = s.rd a

theorem evTouches_refl (s : State) (l : List Nat) : evTouches s s l := ⟨rfl, fun _ _ => rfl⟩

theorem evTouches.mono {l m : List Nat} (h : evTouches s t l) (hl : l ⊆ m) : evTouches s t m :=
  ⟨h.1, fun a ha => h.2 a (fun h' => ha (hl h'))⟩

theorem evTouches.trans {l : List Nat} (h : evTouches s t l) (h' : evTouches t u l) : evTouches s u l := by
  refine ⟨?_, fun a ha => (h'.2 a ha).trans (h.2 a ha)⟩
  rw [h'.1, h.1]

theorem evTouches_wr (s : State) (a : Nat) (v : Word) : evTouches s (s.wr a v) [a] :=
  ⟨rfl, fun _ h => rd_wr_ne _ _ (by simpa using h)⟩

theorem evTouches_sf (s : State) (a : Nat) (f : Fld) (n : Nat) : evTouches s (s.sf a f n) [a] := evTouches_wr _ _ _

theorem evTouches_cnt (s : State) (a : Nat) : evTouches s (s.cnt a) [a] := evTouches_wr _ _ _

/-! One operation more: the same list, when it names what the operation changes. -/

theorem evTouches.step {f : State → State} {l m : List Nat} (h : evTouches s t l) (hf : evTouches t (f t) m) (hm : m ⊆ l) :
    evTouches s (f t) l := h.trans (hf.mono hm)

theorem evTouches.wr {l : List Nat} (h : evTouches s t l) {a : Nat} (v : Word) (ha : a ∈ l) : evTouches s (t.wr a v) l :=
  h.trans ((evTouches_wr t a v).mono (by simpa using ha))

theorem evTouches.wrN {l : List Nat} (h : evTouches s t l) {a : Nat} (n : Nat) (ha : a ∈ l) : evTouches s (t.wrN a n) l := h.wr _ ha

theorem evTouches.sf {l : List Nat} (h : evTouches s t l) {a : Nat} (f : Fld) (n : Nat) (ha : a ∈ l) : evTouches s (t.sf a f n) l :=
  h.wr _ ha

theorem evTouches.cnt {l : List Nat} (h : evTouches s t l) {a : Nat} (ha : a ∈ l) : evTouches s (t.cnt a) l := h.wr _ ha

theorem evTouches.wr64 {l : List Nat} (h : evTouches s t l) {lo hi : Nat} (v : BitVec 64) (h1 : lo ∈ l) (h2 : hi ∈ l) :
    evTouches s (t.wr64 lo hi v) l := (h.wr _ h1).wr _ h2

theorem evTouches.when {l : List Nat} (h : evTouches s t l) (c : Bool) {f : State → State} (hf : evTouches s (f t) l) :
    evTouches s (t.when c f) l := by
  cases c
  · exact h
  · exact hf

theorem evTouches_pulse (s : State) (n : Nat) (b : Bool) (hn : n < 260) :
    evTouches s (s.pulse n b) ((List.range 260).map R.EVF_COINCIDE) := by
  unfold State.pulse
  split
  · exact (evTouches_cnt _ _).mono (by simpa using ⟨n, hn, rfl⟩)
  · exact ⟨rfl, fun _ _ => rfl⟩

theorem evTouches_fixed (s : State) (i : Nat) (hi : i < 4) : evTouches s (s.fixed i) ((List.range 260).map R.EVF_COINCIDE) := by
  unfold State.fixed
  split
  · exact (evTouches_cnt _ _).mono (by simpa using ⟨256 + i, by omega, rfl⟩)
  · exact ⟨rfl, fun _ _ => rfl⟩

theorem channelsOf_lt {src n : Nat} (h : n ∈ s.channelsOf src) : n < 256 := by
  unfold State.channelsOf at h
  obtain ⟨e, -, he⟩ := List.mem_filterMap.mp h
  split at he
  · rename_i hc
    simp only [Bool.and_eq_true, decide_eq_true_eq] at hc
    simp only [R.EVF_CH_CTL] at hc
    simp only [Option.some.injEq, R.EVF_CH_CTL] at he
    omega
  · exact absurd he (by simp)

theorem evTouches_pulses (l : List Nat) : ∀ s : State, (∀ n ∈ l, n < 256) →
    evTouches s (l.foldl (fun s n => s.pulse n false) s) ((List.range 260).map R.EVF_COINCIDE) := by
  induction l with
  | nil => intro s _; exact evTouches_refl _ _
  | cons n l ih =>
    intro s h
    have h0 : n < 256 := h n (by simp)
    exact (evTouches_pulse s n false (by omega)).trans (ih _ (fun m hm => h m (by simp [hm])))

/-- A pulse to a fixed input, under a condition. -/
theorem evTouches.fixedWhen {l : List Nat} (h : evTouches s t l) (c : Bool) {i : Nat} (hi : i < 4)
    (hl : (List.range 260).map R.EVF_COINCIDE ⊆ l) : evTouches s (t.when c (·.fixed i)) l :=
  h.when c (h.step (f := (·.fixed i)) (evTouches_fixed _ _ hi) hl)

/-- All that an event source can change (R358, R361, R387). -/
theorem evTouches_fire (s : State) (src : Nat) : evTouches s (s.fire src) (eventRegs src) := by
  have hc : (List.range 260).map R.EVF_COINCIDE ⊆ eventRegs src := fun _ h => by simp only [eventRegs, List.mem_cons]; exact .inr (.inr h)
  have h0 : evTouches s (if s.on (R.IRQC_PEND (src / 32)) (bit (src % 32)) then s.cnt R.IRQC_MERGED
      else s.sf (R.IRQC_PEND (src / 32)) (bit (src % 32)) 1) (eventRegs src) := by
    split
    · exact (evTouches_refl _ _).cnt (by simp [eventRegs])
    · exact (evTouches_refl _ _).sf _ _ (by simp [eventRegs])
  unfold State.fire
  split
  · exact evTouches_refl _ _
  · exact (((h0.trans ((evTouches_pulses _ _ (fun _ h => channelsOf_lt h)).mono hc)).fixedWhen _ (by omega) hc).fixedWhen _ (by omega)
      hc).fixedWhen _ (by omega) hc

theorem evTouches.fire {l : List Nat} (h : evTouches s t l) (src : Nat) (hl : eventRegs src ⊆ l) : evTouches s (t.fire src) l :=
  h.step (f := (·.fire src)) (evTouches_fire _ _) hl

theorem evTouches_errAt (s : State) (b : Nat) (c : Option Nat) {l : List Nat} :
    evTouches s { s with errAt := s.errAt.set (fun _ => none) b c } l := ⟨rfl, fun _ _ => rfl⟩

/-- All that the error record can change (R425, R426). -/
theorem evTouches_record (s : State) (e : Site) (code addr : Nat) : evTouches s (s.record e code addr) (recordRegs e) := by
  have h15 : eventRegs 15 ⊆ recordRegs e := List.subset_append_right _ _
  have h1 : evTouches s (if s.on R.ERRLOG_BLOCK_STICKY (bit e.blk) then s
      else (s.sf R.ERRLOG_BLOCK_STICKY (bit e.blk) 1).fire 15) (recordRegs e) := by
    split
    · exact evTouches_refl _ _
    · exact ((evTouches_refl _ _).sf _ _ (by simp [recordRegs])).fire 15 h15
  unfold State.record
  generalize (if s.on R.ERRLOG_BLOCK_STICKY (bit e.blk) then s
      else (s.sf R.ERRLOG_BLOCK_STICKY (bit e.blk) 1).fire 15) = u at h1 ⊢
  dsimp only
  split
  · exact h1
  · exact ((((h1.trans (evTouches_errAt u e.blk _)).wrN _ (by simp [recordRegs])).wr64 _ (by simp [recordRegs]) (by simp [recordRegs])).wr64 _ (by simp [recordRegs])
      (by simp [recordRegs])).wr64 _ (by simp [recordRegs]) (by simp [recordRegs])

/-- All that an error can change (R384, R425). -/
theorem evTouches_raiseAt (s : State) (a n : Nat) (e : Site) (addr : Nat) : evTouches s (s.raiseAt a n e addr) (errorRegs a e) := by
  unfold State.raiseAt
  split
  · exact evTouches_refl _ _
  · refine evTouches.fire ?_ _ (fun _ h => by simp [errorRegs, h])
    exact ((evTouches_refl _ _).sf _ _ (by simp [errorRegs])).trans ((evTouches_record _ _ _ _).mono (fun _ h => by simp [errorRegs, h]))

theorem evTouches_raise (s : State) (a n : Nat) (e : Site) : evTouches s (s.raise a n e) (errorRegs a e) := evTouches_raiseAt _ _ _ _ _

/-- A byte is found at the same place where the two registers of the displacement read alike (R305). -/
theorem loc_of_rd (hm : t.migCh = s.migCh) (hb : t.migBack = s.migBack) (hp : t.migTop = s.migTop) (ht : t.mcTable = s.mcTable)
    (h1 : t.rd R.MC_RES_BASE = s.rd R.MC_RES_BASE) (h2 : ∀ n, t.rd (R.MC_MIG_PTR n) = s.rd (R.MC_MIG_PTR n)) (a : Nat) :
    t.loc a = s.loc a := by
  simp only [State.loc, hm, hb, hp, ht, State.rdN, h1, h2]
  cases s.migCh <;> rfl

/-- What evTouches no register of the displacement leaves every byte of memory alone. -/
theorem evTouches.rdByte {l : List Nat} (h : evTouches s t l) (h1 : R.MC_RES_BASE ∉ l) (h2 : ∀ n, R.MC_MIG_PTR n ∉ l) (a : Nat) :
    t.rdByte a = s.rdByte a := by
  have e := h.1
  have hl : t.loc a = s.loc a := loc_of_rd (by rw [e]) (by rw [e]) (by rw [e]) (by rw [e]) (h.2 _ h1) (fun n => h.2 _ (h2 n)) a
  have hm : t.mem = s.mem := by rw [e]
  simp [State.rdByte, State.rawByte, hl, hm]

/-- What touches only registers and pulses is left alone by the wrappers of the domains. -/
theorem evTouches.keepIsland {l : List Nat} (h : evTouches s t l) : t.keepIsland s = t := by rw [h.1]; rfl

theorem evTouches.keepGuard {l : List Nat} (h : evTouches s t l) : t.keepGuard s = t := by rw [h.1]; rfl

/-- An error leaves its sticky bit set, where no register of the error record or of its event source is the error register. -/
theorem on_raise (s : State) (a n : Nat) (e : Site) (hn : n < 32) (h1 : a ∉ recordRegs e) (h2 : a ∉ eventRegs e.src) :
    (s.raise a n e).on a (bit n) = true := by
  unfold State.raise State.raiseAt
  split
  · assumption
  · rw [on_congr (bit n) ((evTouches_fire _ _).2 a h2), on_congr (bit n) ((evTouches_record _ _ _ _).2 a h1), on_sf_one _ _ hn]

/-- An event source that fires out of main-domain reset leaves its PEND bit set (R387). -/
theorem on_fire (s : State) (src : Nat) (hs : src < 1280) (hm : s.mainReset = false) :
    (s.fire src).on (R.IRQC_PEND (src / 32)) (bit (src % 32)) = true := by
  have hc : R.IRQC_PEND (src / 32) ∉ (List.range 260).map R.EVF_COINCIDE := by
    intro h
    obtain ⟨n, hn, he⟩ := List.mem_map.mp h
    simp only [List.mem_range, R.EVF_COINCIDE, R.IRQC_PEND] at hn he
    omega
  have hm' : R.IRQC_PEND (src / 32) ≠ R.IRQC_MERGED := by simp only [R.IRQC_PEND, R.IRQC_MERGED]; omega
  unfold State.fire
  rw [if_neg (by simp [hm])]
  dsimp only
  generalize hu : (if s.on (R.IRQC_PEND (src / 32)) (bit (src % 32)) then s.cnt R.IRQC_MERGED
      else s.sf (R.IRQC_PEND (src / 32)) (bit (src % 32)) 1) = u
  have h0 : u.on (R.IRQC_PEND (src / 32)) (bit (src % 32)) = true := by
    subst hu
    split
    · rename_i h
      rw [on_congr _ (rd_cnt_ne hm'), h]
    · exact on_sf_one _ _ (Nat.mod_lt _ (by omega))
  have hf : ∀ v, evTouches u v ((List.range 260).map R.EVF_COINCIDE) → v.on (R.IRQC_PEND (src / 32)) (bit (src % 32)) = true :=
    fun v hv => by rw [on_congr _ (hv.2 _ hc), h0]
  exact hf _ ((((evTouches_pulses _ _ (fun _ h => channelsOf_lt h)).fixedWhen _ (by omega) (List.Subset.refl _)).fixedWhen _ (by omega)
    (List.Subset.refl _)).fixedWhen _ (by omega) (List.Subset.refl _))

theorem evTouches.evFrame {l : List Nat} (h : evTouches s t l) (h1 : R.MC_RES_BASE ∉ l) (h2 : ∀ n, R.MC_MIG_PTR n ∉ l) : evFrame s t l :=
  ⟨h.1, h.2, h.rdByte h1 h2⟩

theorem evTouches.regFrame {l : List Nat} (h : evTouches s t l) (hc : t.chanIn = s.chanIn) (hf : t.fixedIn = s.fixedIn)
    (he : t.errAt = s.errAt) (h1 : R.MC_RES_BASE ∉ l) (h2 : ∀ n, R.MC_MIG_PTR n ∉ l) : regFrame s t l :=
  ⟨by have e := h.1; rw [hc, hf, he] at e; exact e, h.2, h.rdByte h1 h2⟩

end Sys2Proof.Machine
end

