-- ==== Sys2Proof/Laws/Memory.lean ====
section
/-! SUPPORT. Accesses to memory keep its canonical form: those of the units, of the coherent masters, and of the cores' caches and write
buffers. -/

namespace Sys2Proof.Machine

variable {s t : State}

/-! Folds. -/

theorem foldl_keeps {α β : Type} {P : β → Prop} {f : β → α → β} (hf : ∀ b a, P b → P (f b a)) (l : List α) :
    ∀ b, P b → P (l.foldl f b) := by
  induction l with
  | nil => exact fun _ h => h
  | cons a l ih => exact fun b h => ih _ (hf b a h)

theorem times_keeps {P : State → Prop} {f : Nat → State → State} (hf : ∀ i s, P s → P (f i s)) (n : Nat) (s : State) (h : P s) :
    P (times n f s) := foldl_keeps (fun s i h => hf i s h) _ s h

theorem when_keeps {P : State → Prop} (c : Bool) {f : State → State} (h : P s) (hf : P s → P (f s)) : P (s.when c f) := by
  cases c
  · exact h
  · exact hf h

/-! What leaves memory alone. -/

/-- The two states hold the same memory. -/
structure SameMem (s t : State) : Prop where
  eq : t.mem = s.mem

theorem SameMem.refl (s : State) : SameMem s s := ⟨rfl⟩
theorem SameMem.trans {u : State} (h : SameMem s t) (h' : SameMem t u) : SameMem s u := ⟨h'.eq.trans h.eq⟩
theorem SameMem.wf (h : SameMem s t) (hs : memWf s = true) : memWf t = true := by simpa only [memWf, h.eq] using hs
theorem evTouches.sameMem {l : List Nat} (h : evTouches s t l) : SameMem s t := ⟨by rw [h.1]⟩

theorem SameMem.ite {c : Prop} {_ : Decidable c} {u : State} (h : SameMem s t) (h' : SameMem s u) : SameMem s (if c then t else u) := by
  split
  · exact h
  · exact h'

theorem SameMem.when (h : SameMem s t) (c : Bool) {f : State → State} (hf : SameMem t (f t)) : SameMem s (t.when c f) := by
  cases c
  · exact h
  · exact h.trans hf

theorem SameMem.wr (h : SameMem s t) (a : Nat) (v : Word) : SameMem s (t.wr a v) := ⟨h.eq⟩
theorem SameMem.wrN (h : SameMem s t) (a n : Nat) : SameMem s (t.wrN a n) := h.wr _ _
theorem SameMem.sf (h : SameMem s t) (a : Nat) (f : Fld) (n : Nat) : SameMem s (t.sf a f n) := h.wr _ _
theorem SameMem.cntN (h : SameMem s t) (a n : Nat) : SameMem s (t.cntN a n) := h.wrN _ _
theorem SameMem.cnt (h : SameMem s t) (a : Nat) : SameMem s (t.cnt a) := h.cntN _ _
theorem SameMem.wr64 (h : SameMem s t) (lo hi : Nat) (v : BitVec 64) : SameMem s (t.wr64 lo hi v) := (h.wr _ _).wr _ _
theorem SameMem.emit (h : SameMem s t) (o : Output) : SameMem s (t.emit o) := ⟨h.eq⟩
theorem SameMem.fire (h : SameMem s t) (src : Nat) : SameMem s (t.fire src) := h.trans (evTouches_fire t src).sameMem
theorem SameMem.raiseAt (h : SameMem s t) (a n : Nat) (e : Site) (addr : Nat) : SameMem s (t.raiseAt a n e addr) :=
  h.trans (evTouches_raiseAt t a n e addr).sameMem
theorem SameMem.mcChErr (h : SameMem s t) (n b : Nat) : SameMem s (t.mcChErr n b) := h.raiseAt _ _ _ _
theorem SameMem.setMc (h : SameMem s t) (n : Nat) (x : McCh) : SameMem s (t.setMc n x) := ⟨h.eq⟩
theorem SameMem.setBank (h : SameMem s t) (n b : Nat) (x : McBank) : SameMem s (t.setBank n b x) := h.setMc _ _
theorem SameMem.setWordErr (h : SameMem s t) (p e : Nat) : SameMem s (t.setWordErr p e) := ⟨h.eq⟩

theorem SameMem.clearErrs (h : SameMem s t) (ps : List Nat) : SameMem s (t.clearErrs ps) :=
  foldl_keeps (P := SameMem s) (f := fun s p => s.setWordErr p 0) (fun _ _ h => h.setWordErr _ _) ps t h

theorem SameMem.calTrigger (h : SameMem s t) (d : Nat) : SameMem s (t.calTrigger d) := by
  unfold State.calTrigger
  exact (h.sf _ _ _).ite ⟨h.eq⟩

theorem SameMem.calEnd (h : SameMem s t) (d : Nat) : SameMem s (t.calEnd d) := by
  unfold State.calEnd
  refine h.ite (SameMem.ite (SameMem.calTrigger (SameMem.sf ?_ _ _ _) _) ?_) <;>
    exact ((((h.sf _ _ _).sf _ _ _).sf _ _ _).cnt _).fire _

theorem SameMem.chopCorrect (h : SameMem s t) (u : Nat) : SameMem s (t.chopCorrect u) := by
  unfold State.chopCorrect State.setChop State.freeNext State.setAx
  exact ⟨h.eq⟩

theorem SameMem.staged (h : SameMem s t) (l : List (Nat × Nat)) : SameMem s { t with calStaged := l } := ⟨h.eq⟩
theorem SameMem.freeAt (h : SameMem s t) (n : Nat) : SameMem s { t with freeIx := n } := ⟨h.eq⟩

theorem SameMem.calDiscard (h : SameMem s t) (d u : Nat) : SameMem s (t.calDiscard d u) := by
  unfold State.calDiscard
  exact ((h.staged _).calEnd _).ite h

theorem SameMem.calApply (h : SameMem s t) (d u : Nat) : SameMem s (t.calApply d u) := by
  unfold State.calApply
  have h1 : SameMem s (t.when (d == 7) (·.chopCorrect u)) := h.when _ ((SameMem.refl t).chopCorrect u)
  exact (((h1.staged _).cnt _).calEnd _).ite h

theorem SameMem.emptyBanks (h : SameMem s t) (n : Nat) : SameMem s (t.emptyBanks n) := h.setMc _ _

theorem SameMem.startTraining (h : SameMem s t) (n : Nat) (b : Bool) : SameMem s (t.startTraining n b) := by
  unfold State.startTraining
  exact ((((((h.sf _ _ _).sf _ _ _).sf _ _ _).sf _ _ _).sf _ _ _).emptyBanks _).calDiscard _ _

theorem SameMem.activate (h : SameMem s t) (n b x : Nat) : SameMem s (t.activate n b x) := by
  unfold State.activate
  exact SameMem.ite (((h.setBank _ _ _).cnt _).setMc _ _) ((h.setBank _ _ _).cnt _)

theorem SameMem.nref (h : SameMem s t) (n : Nat) (w : Nat × Nat) : SameMem s (t.nref n w) := by
  unfold State.nref
  exact (((h.setMc _ _).setBank _ _ _).emit _).cnt _

theorem SameMem.refreshOne (h : SameMem s t) (n : Nat) : SameMem s (t.refreshOne n) := by
  unfold State.refreshOne
  have h1 := fun x => (((h.sf (R.MC_CH_STAT n) F.MC_CH_STAT_DEBT (t.debt n - 1)).cnt (R.MC_REFRESHES n)).setMc n x).calApply (4 + n / 3) (n % 3)
  exact h.ite (SameMem.ite (((h1 _).setMc _ _).startTraining _ _) (h1 _))

theorem SameMem.slotOne {n : Nat} (h : s.slotOne n = some t) : SameMem s t := by
  unfold State.slotOne at h
  split at h
  · cases h; exact (SameMem.refl s).refreshOne n
  · obtain ⟨w, -, rfl⟩ := Option.map_eq_some_iff.mp h
    exact (SameMem.refl s).nref n w

theorem SameMem.touchRow (h : SameMem s t) (n off : Nat) : SameMem s (t.touchRow n off).1 := by
  have hs : ∀ k, SameMem s (times k (fun _ u => (u.slotOne n).getD u) t) := fun k =>
    times_keeps (P := SameMem s) (fun _ u hu => by
      cases hs : u.slotOne n with
      | none => exact hu
      | some v => exact hu.trans (SameMem.slotOne hs)) k t h
  unfold State.touchRow
  dsimp only
  generalize (times ((t.mc n).owed.length + 1) (fun _ s => (s.slotOne n).getD s) t) = u, hs ((t.mc n).owed.length + 1) = hu
  split
  · exact hu.setBank _ _ _
  · exact hu.activate _ _ _

theorem SameMem.dramCe (h : SameMem s t) (n : Nat) (ws : List Nat) : SameMem s (t.dramCe n ws) := by
  have h1 := ((h.cntN (R.MC_CE n) ws.length).mcChErr n 0).fire (978 + 4 * n)
  unfold State.dramCe
  exact h.ite (SameMem.ite ((h1.cnt _).clearErrs _) h1)

theorem SameMem.dramEcc (h : SameMem s t) (n a : Nat) : SameMem s (t.dramEcc n a).1 := by
  have h2 := fun ws => h.dramCe n ws
  unfold State.dramEcc
  dsimp only
  split
  · exact ((((h2 _).cnt _).wr64 _ _ _).raiseAt _ _ _ _).fire _
  · exact h2 _

theorem SameMem.sramCe (h : SameMem s t) : SameMem s t.sramCe := (h.cnt _).fire _
theorem SameMem.sramUe (h : SameMem s t) (a : Nat) : SameMem s (t.sramUe a) := by
  unfold State.sramUe
  exact (((h.cnt _).wr64 _ _ _).raiseAt _ _ _ _).fire _

theorem SameMem.sramEcc (h : SameMem s t) (a : Nat) : SameMem s (t.sramEcc a).1 := by
  unfold State.sramEcc
  dsimp only
  split
  · exact h.sramCe.setWordErr _ _
  · split
    · exact h.sramUe _
    · exact h

/-! What keeps the canonical form. -/

theorem memWf_freeWord (p : Nat) (h : memWf s = true) : memWf (s.freeWord p) = true :=
  ((SameMem.refl _).freeAt _).wf (times_keeps (P := fun u : State => memWf u = true)
    (f := fun i t => t.setRaw (8 * p + i) ((s.freeBytes 8).getD i 0)) (fun _ _ hu => memWf_setRaw _ _ hu) 8 s h)

theorem memWf_upset (a e : Nat) (h : memWf s = true) : memWf (s.upset a e) = true := by
  unfold State.upset
  dsimp only
  split
  · exact h
  · exact ((SameMem.refl _).setWordErr _ _).wf (when_keeps (P := fun u : State => memWf u = true) _ h (fun h => memWf_freeWord _ h))

theorem memWf_writeReq (n : Nat) (r : McReq) (h : memWf s = true) : memWf (s.writeReq n r) = true := by
  unfold State.writeReq
  exact (((SameMem.refl _).clearErrs _).emit _).wf (memWf_wrBytes _ _ (((SameMem.refl s).cnt _).wf h))

theorem memWf_finishReq (n : Nat) (r : McReq) (h : memWf s = true) : memWf (s.finishReq n r) = true := by
  have hx := ((SameMem.refl s).dramEcc n r.addr).wf h
  unfold State.finishReq
  generalize s.dramEcc n r.addr = x at hx ⊢
  dsimp only
  split
  · exact ((SameMem.refl _).emit _).wf hx
  · split
    · exact ((SameMem.refl _).emit _).wf hx
    · exact (((SameMem.refl _).clearErrs _).emit _).wf (memWf_wrBytes _ _ hx)

theorem memWf_serveReq (n : Nat) (r : McReq) (h : memWf s = true) : memWf (s.serveReq n r) = true := by
  have hx := ((SameMem.refl s).touchRow n (s.chanAddr r.addr).2).wf h
  unfold State.serveReq
  generalize s.touchRow n (s.chanAddr r.addr).2 = x at hx ⊢
  have hy := when_keeps (P := fun u : State => memWf u = true) (x.2 && !r.acted) (f := (·.cnt (R.MC_ROW_HITS n))) hx
    (fun h => ((SameMem.refl x.1).cnt _).wf h)
  dsimp only
  split
  · exact memWf_writeReq _ _ hy
  · exact memWf_finishReq _ _ (((SameMem.refl _).cnt _).wf hy)

theorem memWf_settle (n a : Nat) (h : memWf s = true) : memWf (s.settle n a) = true := by
  have h0 := fun x => ((SameMem.refl s).setMc n x).wf h
  unfold State.settle
  dsimp only
  generalize hu : s.setMc n _ = u
  have hw : memWf u = true := hu ▸ h0 _
  clear hu h0
  refine foldl_keeps (P := fun u : State => memWf u = true) (fun u r hu => memWf_serveReq _ _ hu) _ _ ?_
  exact foldl_keeps (P := fun u : State => memWf u = true) (fun u r hu => memWf_finishReq _ _ hu) _ _ hw

theorem memWf_openBlock (a : Nat) (h : memWf s = true) : memWf (s.openBlock a) = true := by
  have hx := memWf_settle (s.chanAddr a).1 a h
  have hy := ((SameMem.refl (s.settle (s.chanAddr a).1 a)).touchRow (s.chanAddr a).1 (s.chanAddr a).2).wf hx
  unfold State.openBlock
  dsimp only
  generalize (s.settle (s.chanAddr a).1 a).touchRow (s.chanAddr a).1 (s.chanAddr a).2 = y at hy ⊢
  exact when_keeps (P := fun u : State => memWf u = true) y.2 (f := (·.cnt (R.MC_ROW_HITS (s.chanAddr a).1))) hy
    (fun h => ((SameMem.refl _).cnt _).wf h)

theorem memWf_readPiece (a : Nat) (h : memWf s = true) : memWf (s.readPiece a).1 = true := by
  unfold State.readPiece
  split
  · exact ((SameMem.refl s).sramEcc a).wf h
  · have ho := memWf_openBlock a h
    generalize s.openBlock a = u at ho ⊢
    exact (((SameMem.refl u).cnt _).dramEcc _ _).wf ho

theorem memWf_putPiece (a : Nat) (bs : List (BitVec 8)) (h : memWf s = true) : memWf (s.putPiece a bs).1 = true := by
  unfold State.putPiece
  split
  · have hx : memWf (if partialWord a bs.length then s.sramEcc a else (s, false)).1 = true := by
      split
      · exact ((SameMem.refl s).sramEcc a).wf h
      · exact h
    generalize (if partialWord a bs.length then s.sramEcc a else (s, false)) = x at hx ⊢
    dsimp only
    split
    · exact hx
    · exact ((SameMem.refl _).setWordErr _ _).wf (memWf_wrBytes bs a hx)
  · have ho := memWf_openBlock a h
    generalize s.openBlock a = u at ho ⊢
    dsimp only
    split
    · have hx := (((SameMem.refl u).cnt (R.MC_RMW (u.chanAddr a).1)).dramEcc (u.chanAddr a).1 a).wf ho
      generalize (u.cnt (R.MC_RMW (u.chanAddr a).1)).dramEcc (u.chanAddr a).1 a = x at hx ⊢
      split
      · exact hx
      · exact ((SameMem.refl _).clearErrs _).wf (memWf_wrBytes bs a hx)
    · exact ((SameMem.refl _).clearErrs _).wf (memWf_wrBytes bs a (((SameMem.refl u).cnt _).wf ho))

/-- A unit's read keeps the canonical form (R26, R289, R390). -/
theorem memWf_memRead (a n : Nat) (h : memWf s = true) : memWf (s.memRead a n).1 = true :=
  foldl_keeps (P := fun x : State × Bool => memWf x.1 = true) (f := fun x (p : Nat × Nat) => let y := x.1.readPiece p.1; (y.1, x.2 || y.2))
    (fun _ _ hx => memWf_readPiece _ hx) _ (s, false) h

/-- A unit's write keeps the canonical form (R290, R390). -/
theorem memWf_memPut (a : Nat) (bs : List (BitVec 8)) (h : memWf s = true) : memWf (s.memPut a bs).1 = true :=
  foldl_keeps (P := fun x : State × Bool => memWf x.1 = true) (f := fun x (p : Nat × Nat) =>
    let y := x.1.putPiece p.1 ((bs.drop (p.1 - a)).take p.2)
    (y.1, x.2 || y.2)) (fun _ _ hx => memWf_putPiece _ _ hx) _ (s, false) h

theorem memWf_ringPut (base size off : Nat) (bs : List (BitVec 8)) (h : memWf s = true) : memWf (s.ringPut base size off bs).1 = true :=
  memWf_memPut _ _ (memWf_memPut _ _ h)

/-! The coherent masters. -/

theorem memWf_cohRead (a n : Nat) (h : memWf s = true) : memWf (s.cohRead a n).1 = true :=
  foldl_keeps (P := fun x : State × Bool => memWf x.1 = true)
    (fun x p hx => by dsimp only; split; exacts [hx, memWf_memRead _ _ hx]) _ (s, false) h

theorem memWf_cohPut (a : Nat) (bs : List (BitVec 8)) (h : memWf s = true) : memWf (s.cohPut a bs).1 = true :=
  foldl_keeps (P := fun x : State × Bool => memWf x.1 = true)
    (fun x p hx => by
      have hy := memWf_memPut p.1 ((bs.drop (p.1 - a)).take p.2) hx
      dsimp only
      generalize x.1.memPut p.1 ((bs.drop (p.1 - a)).take p.2) = y at hy ⊢
      split
      · exact hy
      · split
        · exact SameMem.wf (s := y.1) ⟨rfl⟩ hy
        · exact hy) _ (s, false) h

theorem SameMem.setLine (h : SameMem s t) (a : Nat) (l : CacheLine) : SameMem s (t.setLine a l) := ⟨h.eq⟩
theorem SameMem.dropLine (h : SameMem s t) (a : Nat) : SameMem s (t.dropLine a) := ⟨h.eq⟩
theorem SameMem.freeNext (h : SameMem s t) : SameMem s t.freeNext := ⟨h.eq⟩

theorem memWf_cleanLine (a : Nat) (keep : Bool) (h : memWf s = true) : memWf (s.cleanLine a keep) = true := by
  unfold State.cleanLine
  split
  · rename_i l _
    have hx : memWf (if l.dirty then (s.memPut (a / 64 * 64) l.data).1 else s) = true := by
      split
      · exact memWf_memPut _ _ h
      · exact h
    generalize (if l.dirty then (s.memPut (a / 64 * 64) l.data).1 else s) = u at hx ⊢
    dsimp only
    split
    · exact ((SameMem.refl u).setLine _ _).wf hx
    · exact ((SameMem.refl u).dropLine _).wf hx
  · exact h

theorem memWf_fillLine (a : Nat) (h : memWf s = true) : memWf (s.fillLine a).1 = true := by
  unfold State.fillLine
  split
  · exact h
  · have hx : memWf (if s.cache.length < cacheLines then s else
        match s.cache[Config.victim s.freeIx % s.cache.length]? with
        | some e => (s.cleanLine (64 * e.1) false).freeNext
        | none => s) = true := by
      split
      · exact h
      · split
        · exact ((SameMem.refl _).freeNext).wf (memWf_cleanLine _ _ h)
        · exact h
    generalize (if s.cache.length < cacheLines then s else
        match s.cache[Config.victim s.freeIx % s.cache.length]? with
        | some e => (s.cleanLine (64 * e.1) false).freeNext
        | none => s) = u at hx ⊢
    have hy := memWf_memRead (a / 64 * 64) 64 hx
    dsimp only
    generalize u.memRead (a / 64 * 64) 64 = x at hy ⊢
    split
    · exact hy
    · exact ((SameMem.refl _).setLine _ _).wf hy

theorem memWf_corePuts (n a : Nat) (bs : List (BitVec 8)) (h : memWf s = true) : memWf (s.corePuts n a bs).1 = true :=
  foldl_keeps (P := fun x : State × Bool => memWf x.1 = true)
    (fun x p hx => by
      have hy := memWf_fillLine p.1 hx
      dsimp only
      generalize x.1.fillLine p.1 = y at hy ⊢
      split
      · exact ((SameMem.refl y.1).setLine _ _).wf hy
      · exact hy) _ (s, false) h

theorem memWf_drainOne (e : WbEnt) (h : memWf s = true) : memWf (s.drainOne e) = true := by
  unfold State.drainOne
  split
  · exact memWf_cleanLine _ _ h
  · have hx := memWf_corePuts e.hart e.addr e.data h
    generalize s.corePuts e.hart e.addr e.data = x at hx ⊢
    dsimp only
    split
    · exact ((SameMem.refl _).emit _).wf hx
    · exact hx

/-- Draining a write buffer keeps the canonical form (R374). -/
theorem memWf_drain (n : Nat) (h : memWf s = true) : memWf (s.drain n) = true :=
  foldl_keeps (P := fun u : State => memWf u = true) (fun _ e hu => memWf_drainOne e hu) _ _ h

end Sys2Proof.Machine
end

