-- ==== Sys2Proof/Tests/Slice0.lean ====
section
/-! SUPPORT. Tests. The expected results come from the spec's worked examples and tables; then, for every statement with
hypotheses, a state and operands that meet them. -/

namespace Sys2Proof.Tests

open Sys2Proof.Machine

/-- Does a command answer a next state of which `p` holds? -/
def got (o : Out) (p : State → Bool) : Bool := match o with | .next t => p t | _ => false

/-- An empty packet. -/
abbrev pkt0 : Pkt := ⟨0, [], 0, false⟩

/-- The state after reset. -/
abbrev s0 : State := State.reset

/-! Well-formedness: a term that each range check refuses, and the largest that it takes. -/

theorem test_wf_refuses_lanes :
    [Instr.quadApply 32, .acquireDone 128 0, .acquireDone 0 16, .laneReady 128, .streamOutSend 32 0, .streamOutSend 0 4, .feApply 24,
     .statOutHoldExpiry 24 0 0, .statOutHoldExpiry 0 32 0, .statOutHoldExpiry 0 0 4, .viewApply 4].all (fun c => !c.wf) = true := by decide

theorem test_wf_refuses_hearth :
    [Instr.vadd 64 0, .vadd 0 4, .groupApply 16, .fragmentQueueDrain 64, .imemWrite 64 false 0 0, .imemWrite 0 false 4096 0,
     .clutWrite 0 false 16384 0, .lineStoreWrite 0 98304 0, .fusionWindowExpiry 65536, .kick].map (fun c => c.wf)
      = [false, false, false, false, false, false, false, false, false, true] := by decide

theorem test_wf_refuses_motion :
    [Instr.lctlWrite 64 0, .hallEdge 24 0 1 0, .hallEdge 0 8 1 0, .axisTick 16, .evac 6, .rowIdleClose 6 0, .rowIdleClose 0 16, .dmaStart 32,
     .dmaErrorResponse 32 0 0, .dmaErrorResponse 0 4 0, .firnStart 8, .capture 4, .ethLinkStatus true 3 true, .tpArm 16].all
      (fun c => !c.wf) = true := by decide

theorem test_wf_refuses_control :
    [Instr.channelEventArrive 256, .chFire 8 0, .tempSample 8 0 true, .swFire 2 0, .evfRouteWrite .block true 128 0,
     .evfRouteWrite .block false 256 0, .mtimerPending 8, .irqComplete .block 18 0, .sramAccess .block 0x07ffffff 1 none 0,
     .sramAccess .block 0x08000001 8 none 0, .sramAccess .block 0x08800000 1 none 0, .sramAccess .block 0x08000000 1 none 3].all
      (fun c => !c.wf) = true := by decide

theorem test_wf_refuses_island :
    [Instr.heartbeatMiss 2, .decideRx 29 pkt0, .heartbeatRx (.link 29 pkt0), .calRun 8, .railLow 3, .aonFeedLow 2,
     .islandRomLoad 2, .mainResetRelease 4, .iicDone 3 []].all (fun c => !c.wf) = true := by decide

theorem test_wf_takes_the_last :
    [Instr.quadApply 31, .acquireDone 127 15, .feApply 23, .vadd 63 3, .lineStoreWrite 63 98303 0, .axisTick 15, .rowIdleClose 5 15,
     .channelEventArrive 255, .evfRouteWrite .block true 127 0, .irqComplete .block 17 0, .sramAccess .block 0x087ffff8 8 none 2,
     .heartbeatRx (.pair []), .decideRx 31 pkt0].all (fun c => c.wf) = true := by decide

/-- No row of the table has bits, so no word spells a command. -/
theorem test_no_word_spells_a_command : decodeTableWord 32 0x1234 = none ∧ s0.withFetchWord 32 0x1234 = s0 := by
  exact ⟨rfl, rfl⟩

/-! The spec's worked examples. -/

/-- The LINE_END header, and its check after bit 16 has flipped (R68, R69). -/
theorem test_line_end_header : mkHdr 3 0 0 3 5 0 = 0x1b00000500030003 ∧
    hdrCheck 0x1b00000500020003 = some (0x1b00000500030003, true) := by decide

/-- A line that does not fit: 1,713 units take 3,423 words, and those 9,125 samples of 12 bits (R90). -/
theorem test_overload_cut : cutWords 1713 = 3423 ∧ (cutPixels 12 1 1713 []).1 = 9125 := by decide

/-- The bank of the RGB, clear and near-infrared camera. -/
def rgbBank : FeBank :=
  ⟨0x1800, [0, 0, 0, 0, 32, 0], [0, 0, 0, 0, 0x1400, 0],
    [4096, 0, 0, 0, -1024, 0, 0, 4096, 0, 0, -512, 0, 0, 0, 4096, 0, -256, 0, 0, 0, 0, 0, 4096, 0], [0, 0, 0, 0], [0, 0, 0, 0]⟩

/-- Its own site at (l, 1,001) (R108). -/
theorem test_site_correction : siteCorrect 12 1520 0x03224333 rgbBank 4 = 7543 := by decide

/-- Its four output planes (R114). -/
theorem test_plane_matrix : (List.range 4).map (fun p => planeRaw rgbBank p [3100, 5280, 2400, 9850, 7543]) = [304, 1084, 482, 1886] := by decide

/-- A line of two columns. -/
def line2 (a b : Nat) : CLine := ⟨0, 0, 0, 0, 0, 2, 1, [[a, b]]⟩

/-- The overlap column, with the samples at columns 0 and 1; with slot 1 absent the primary alone counts (R134). -/
theorem test_overlap_column :
    (colOut 0 1 [] [some (line2 1200 1216), some (line2 1230 1222)] (0xbf10000068, some 0x010000b8)).px = [1211] ∧
    (colOut 0 1 [] [some (line2 1200 1216), none] (0xbf10000068, some 0x010000b8)).px = [1207] := by decide

/-- One Drift update in BALANCED (R142, R144). -/
theorem test_drift_update : driftPlane ⟨1, presetShift 1, true, false, false⟩ false 1010 4096000 0 0 = (4096040, 80, 5) ∧
    driftRef 4096000 0 = 16000 ∧ driftRef 4096040 5 = 16001 := by decide

/-- Words 50 and 51 of the worked program (R181). -/
theorem test_hearth_word_fields :
    (fun w => (vop w, wW w, wVA w, wVB w, wPG w, wPN w, wImm8 w)) 0x0c0ff18089a240f0 = (0x30, 3, 9, 20, 1, true, 1) ∧
    (fun w => (sop w, wSD w, wSA w, wImm12 w)) 0x0c0ff18089a240f0 = (0x03, 15, 15, 192) ∧
    (fun w => (sop w, wSA w, wSD w, wImm12 w)) 0x00dfeb8000000000 = (0x17, 15, 14, 13) := by decide

/-- A context of tile 0 that runs word 0 of its program, `w`. -/
def hearthAt (w : BitVec 64) (x : HCtx) : State :=
  { s0.sf (R.HEARTH_CTX_STAT 0 0) F.HEARTH_CTX_STAT_STATE cxRunning with
    tiles := [(0, { imem := [(0, w.extractLsb' 0 32), (1, w.extractLsb' 32 32)],
                    ctxs := [(0, { x with prog := (0, 100), inv := some (true, ⟨1, 0, false⟩) })] })] }

/-- Element 0 of what the vector slot has computed. -/
def elem0 (o : Out) : Option Nat :=
  match o with
  | .next t => match (t.ctx 0 0).vres with | some (.vec _ v) => some (elem 3 v 0) | _ => none
  | _ => none

/-- The vector slot of vdot4.u16 v6, v0, s2. -/
def wVdot4 : BitVec 64 := 0x24 + 3 * 0x40 + 6 * 0x200 + 2 * 0x80000 + 0x10000000

/-- Neurons h0 and h1 of the worked program: 46, and −14 in 16 bits (R190). -/
theorem test_vdot4_neurons :
    elem0 (exec (.vdot4 0 0) (hearthAt wVdot4 { v := [(0, 0xc468)], s := [(2, 0x2f31)] })) = some 46 ∧
    elem0 (exec (.vdot4 0 0) (hearthAt wVdot4 { v := [(0, 0xc468)], s := [(2, 0xf21e)] })) = some 65522 := by decide +kernel

/-- Its quantiser takes 2,000 with shift 8 to code 8, and −14 with shift 4 to 0 (R189). -/
theorem test_vqnt_codes :
    elem0 (exec (.vqnt 0 0) (hearthAt (0x20 + 3 * 0x40 + 8 * 0x80000000) { v := [(0, 2000)] })) = some 8 ∧
    elem0 (exec (.vqnt 0 0) (hearthAt (0x20 + 3 * 0x40 + 0x20000000 + 4 * 0x80000000) { v := [(0, 65522)] })) = some 0 := by decide +kernel

/-- The registers of V0 in the worked example of Moraine, in force. -/
def kernelState : State :=
  { s0 with
    views := [(0, { width := 47872 })],
    flights := [(37, 36363000), (38, 35483000)],
    mvCfg := ([(R.MVIEW_X_SCALE 0, 0xffff0000), (R.MVIEW_X_OFFS 0, 47871), (R.MVIEW_X_TOL 0, 64), (R.MVIEW_T_TOL 0, 50000),
      (R.MVIEW_FT_STEP 0, 0x00400000), (R.MVIEW_OPEN_OFFS 0, 0xfffb6c20), (R.MVIEW_CLOSE_OFFS 0, 200000),
      (R.MVIEW_VALVE_SCALE 0, 358871), (R.MVIEW_VALVE_RANGE 0, 0x03ff0000), (R.MVIEW_SPAN 0, 0x808)] : List (Nat × Word)).foldl
        (fun m e => SMap.set resetWord m e.1 e.2) [] }

/-- The two sides of the kernel match: two columns apart, 10,000 ns apart (R210). -/
theorem test_kernel_fuses :
    kernelState.pairMatch { a := some { colMin := 17400, colMax := 17465 }, time := 7200000002313 }
      { b := some { view := 2, colMin := 30404, colMax := 30471 }, time := 7200000012313 } = (2, 10000, true) := by decide

/-- Its flight time, EJECT_TIME with PULSE_US, and valves (R217 to R219). -/
theorem test_kernel_times : kernelState.flight 0 157286400 = (35923000, false) ∧
    kernelState.ejectTime 0 7200000002313 7200001742313 35923000 = (7200035625250, 2241) ∧
    kernelState.span 0 17400 17465 = (372, 373, false) := by decide

/-- BELT_POS of its record (R220). -/
theorem test_belt_position :
    ({ (s0.wr (R.FB_POS 0) 1254300).wr (R.FB_SPEED 0) 157286400 with
        time := { nt := BitVec.ofNat 96 (7200001882313 * 2 ^ 32) } }).beltPos 0 7200000002313 = 1254296 := by decide

/-- Its two actions as the frame of link 11 carries them (R234, R243). -/
theorem test_bellows_frame :
    (downFrame 11 true 0x3a7c 7200033640000
      ((actionsOf 0 372 373 2241 7200035625250 none).map (fun a => { act := a, ord := 0 }))).take 28
    = [0x11, 0x0b, 0x02, 0x00, 0x7c, 0x3a, 0xa0, 0x2d, 0x9f, 0xb4, 0x06, 0x00,
       0x14, 0x00, 0xc1, 0x08, 0xa5, 0x4c, 0x9f, 0xb4, 0x15, 0x00, 0xc1, 0x08, 0xa5, 0x4c, 0x9f, 0xb4] := by decide

/-- The preamble at negative and at positive running disparity, and SYNC, as clause 36 writes them (R242). -/
theorem test_code_groups : codeGroups false [(true, kPre), (true, kPre), (true, kSync)] = [0b0011111010, 0b1100000101, 0b0011111001] := by decide

/-- A heartbeat frame is 20 code groups that begin with K28.5, and its body is read back at either running disparity (R398). -/
theorem test_heartbeat_frame : let b : List (BitVec 8) := leBytes 12 0x45f02b1
    (hbGroups false b).length = 20 ∧ (hbGroups false b).head? = some 0b0011111010 ∧ (hbGroups true b).head? = some 0b1100000101 ∧
    hbFrame (hbGroups false b) = some b ∧ hbFrame (hbGroups true b) = some b ∧ hbFrame ((hbGroups false b).drop 1) = none := by decide +kernel

/-- The phase currents at POS 12,900 (R267). -/
theorem test_phase_currents : (sine 868, sine 612, dacOf 200 (sine 868), dacOf 200 (sine 612)) = (-209, -147, 163, 115) := by decide

/-- The adaptive offset goes 0, −1, −2, and moves the thresholds (R268, R269). -/
theorem test_adaptive_offset :
    let c : ChopX := { dac := 200, tOn := 9000, tOff := 6000 }
    let s := ((s0.wr (R.AX_CHOP 0) 0x800).wr (R.AX_CHOP_DLY 0) 400).setAx 0 { chopA := c }
    let t := (s.adapt 0 false c).adapt 0 false c
    ((s.adapt 0 false c).chopO 0 false, t.chopO 0 false, t.chopHi 0 false, t.chopLo 0 false) = (-1, -2, 3330, 3074) := by decide

/-- A segment half way and at a quarter (R272). -/
theorem test_segment_positions : (segAt 0 0 12800 25600 1000 500).1 = 6397 ∧ (segAt 0 0 12800 25600 1000 250).1 = 1999 := by decide

/-- The feed gate geared to the belt (R281, R282). -/
theorem test_gear_positions : gearTarget 40000 1000800 1000000 0x00080003 = 40300 ∧ gearDelta false 1000800 1001000 = -200 ∧
    gearTarget 40375 1001160 1001000 0x0008fffb = 40275 ∧ gearDelta false 1001200 1000900 = 300 := by decide

/-- Where address 0x01_2345_6000 lives under the pkt0 table (R288, R291, R292, R304). -/
theorem test_memory_place :
    let t := (List.range 60).map (· % 6)
    place t 144470 = (2, 24078) ∧ granuleOf 0x123456000 = 144470 ∧ bankOf (24078 * 4096) = 8 ∧ rowOf (24078 * 4096) = 6019 ∧
      dramTop t 262144 = 1572864 ∧ resBase t 1572864 1024 = 1310700 := by decide +kernel

/-- The last element of the crop (R311). -/
theorem test_dma_last_element :
    let d : DmaDesc := ⟨0x36, 0x186d9bc40, 0x19001fc00, 4, 4, 128, [64, 95744, 382976], [64, 256, -1024]⟩
    d.total = 2048 ∧ d.srcOf 2047 = 0x186d9bc40 + 48925376 ∧ d.dstOf 2047 = 0x1900003c0 ∧ d.bad 1 = false := by decide

/-- The stream of "ABABABA" up to its CRC: 22 bytes in all; with EXP_EN it ends EXPANDED (R321 to R323, R332). -/
theorem test_firn_seven_bytes :
    ((compress {} 5 100 [0x41, 0x42, 0x41, 0x42, 0x41, 0x42, 0x41]).out.take 18
      = [0x46, 0x4e, 0x01, 0x00, 0x41, 0x84, 0x08, 0x24, 0x18, 0x10, 7, 0, 0, 0, 0, 0, 0, 0]) ∧
    (compress {} 5 100 [0x41, 0x42, 0x41, 0x42, 0x41, 0x42, 0x41]).out.length = 22 ∧
    (fun r => (r.status, r.out)) (compress {} 37 100 [0x41, 0x42, 0x41, 0x42, 0x41, 0x42, 0x41]) = (2, []) := by decide +kernel

/-- What the compressor wrote, the decompressor reads back (R323, R326). -/
theorem test_firn_reads_back :
    (fun r => (r.status, r.out)) (decompress {} 4 100 false (compress {} 5 100 [0x41, 0x42, 0x41, 0x42, 0x41, 0x42, 0x41]).out)
      = (0, [0x41, 0x42, 0x41, 0x42, 0x41, 0x42, 0x41]) := by decide +kernel

/-- A frame of zeros with UDP checksum 0x3A5C at 14 and its PTP header at 16. -/
def syncFrame : List (BitVec 8) := List.replicate 14 0 ++ [0x3a, 0x5c] ++ List.replicate 44 0

/-- The one-step Sync: originTimestamp, correctionField and checksum (R345). -/
theorem test_one_step_sync :
    let f := oneStep syncFrame 16 14 false (7200033640180 * 2 ^ 32 + 2 ^ 31) 0
    (f.drop 50).take 10 = [0, 0, 0, 0, 0x1c, 0x20, 0x02, 0x01, 0x4e, 0xf4] ∧ (f.drop 24).take 8 = [0, 0, 0, 0, 0, 0, 0x80, 0] ∧
      (f.drop 14).take 2 = [0x4d, 0x46] := by decide

/-- The frequency correction to 7.9999 ns takes effect (R347). -/
theorem test_frequency_word :
    got (exec (.incrNsWrite 7) (s0.wr R.PTP_INCR_FRAC 0xfff97247)) (fun t => t.time.incr == 0x7fff97247 && t.rd R.PTP_PERR == 0) = true := by decide

/-- The line trigger of the worked example runs; START is 7,200 s in quarters of a ns (R353). -/
theorem test_line_trigger_runs :
    let s := (((s0.wr (R.TPG_START_HI 0) 0x68c).wr (R.TPG_START_LO 0) 0x61714000).wr (R.TPG_PERIOD 0) 10000).wr (R.TPG_WIDTH 0) 1000
    got (exec (.tpArm 0) s) (fun t => t.tpState 0 == 2 && (t.tp 0).s0 == 28800000000000 && (t.tp 0).wid == 4000) = true := by decide

/-- Two sources on one supervisor target: TOP before and after COMPLETE (R387 to R389). -/
def twoSources : State :=
  ((((((s0.wr (R.IRQC_PRIO 675) 5).wr (R.IRQC_PRIO 301) 3).wr (R.IRQC_ENABLE 3 21) 8).wr (R.IRQC_ENABLE 3 9) 0x2000).wr
    (R.IRQC_THRESH 3) 2).fire 301).fire 675

theorem test_irq_top : twoSources.topWord 3 = 0x80002aa3 ∧
    got (exec (.irqComplete (.hart 1 false) 3 675) twoSources) (fun t => t.topWord 3 == 0x8000192d) = true := by decide

/-- A refused FFE write on lane 17 in the error record (R425, R426). -/
theorem test_ffe_error_record :
    got (exec (.laneFfeWrite 17 0x1f0f) s0) (fun t => t.rd (R.ERRLOG_FINFO 11) == 0x80001124 && t.rd R.ERRLOG_BLOCK_STICKY == 0x800
      && t.rd (R.LANE_LANE_FFE 17) == s0.rd (R.LANE_LANE_FFE 17)) = true := by decide

/-- Register addresses of the examples (R58, R386). -/
theorem test_register_addresses : R.LANE_QUAD_CTL 17 = 0x49110000 ∧ R.LANE_LANE_CTL 70 = 0x49111800 ∧ R.IRQC_PRIO 675 = 0x43000a8c ∧
    R.IRQC_ENABLE 3 21 = 0x43010354 ∧ R.IRQC_THRESH 3 = 0x430103c0 := by decide

/-- One tick of CLK_TIME moves network time by 8 ns (R338). -/
theorem test_tick_is_eight_ns : got (step s0) (fun t => t.ns == 8 && t.cyc == 1) = true := by decide

/-- The command at the front runs first (R12). -/
theorem test_front_command_runs : got (step { s0 with pending := [.injSingle 3, .injBurst 4] })
    (fun t => t.rd (R.LANE_LANE_CMD 3) != 0 && t.rd (R.LANE_LANE_CMD 4) == 0 && t.pending == [Instr.injBurst 4]) = true := by decide


/-! For every statement with hypotheses, states and operands that meet them, at the edges of their ranges. -/

theorem test_hyps_IdleStepIsOneTickOfNetworkTime :
    s0.pending = [] ∧ s0.mainReset = false ∧ s0.rd R.PTP_SLEW_LEFT = 0 ∧ { s0 with mainReset := true }.mainReset = true ∧
    (∀ e ∈ (s0.setQuad 31 { ctl := 1 }).quads, (s0.setQuad 31 { ctl := 1 }).on (R.LANE_QUAD_STAT e.1) F.LANE_QUAD_STAT_PLL_LOCK = false) := by
  decide

theorem test_hyps_CommandsNamingAbsentUnitsAreRefused : (Instr.quadApply 32).wf = false ∧ (Instr.prbsCtlWrite 128 3).wf = false := by decide

theorem test_hyps_MainDomainCommandsAreInertInReset :
    (Instr.quadApply 31).mainDomain = true ∧ (Instr.quadApply 31).wf = true ∧ { s0 with mainReset := true }.mainReset = true ∧
    (Instr.laneCtlWrite 0 0x18).mainDomain = true ∧ (Instr.laneCtlWrite 0 0x18).wf = true := by decide

theorem test_hyps_CommandsLeaveQueueAndClockAlone : exec .kick s0 = .next { s0 with wdogAt := some 0 } := by rfl

/-- FUSE_PROG at the front, its supply and temperature at an edge of R474: the step changes the array. -/
theorem test_hyps_BlownFusesStayBlown :
    got (step { s0 with pending := [.fuseProg 1710 85], fuseData := 1, fuses := [(1, 2)] })
      (fun t => t.fuses == [(0, 1), (1, 2)] && fuseBlown t 1 1) = true := by decide

/-- A guardian core stores the last byte of its own memory. -/
theorem test_hyps_GuardianMemoryIsReachedByItsCoreOnly :
    got (step { s0.wr R.GUARD_GSTAT 3 with pending := [.guardInstruction 1 (.privStore 65535 1 7)] }) (fun t => guardByteAt t 131071 != guardByteAt s0 131071)
      = true := by decide

theorem test_hyps_PowerOnResetHoldsTheMainDomain :
    porHoldsMain { s0 with mainReset := true, hold := { por := true } } ∧
    got (step { s0 with mainReset := true, hold := { por := true }, pending := [.idcode] }) (fun t => t.inPor && t.mainReset) = true := by
  constructor
  · intro _; rfl
  · decide

/-- After reset both domains are out of reset: what every completion statement asks of the state; then what single clauses ask. -/
theorem test_hyps_EveryCommandCompletes : s0.mainReset = false ∧ s0.inPor = false := by decide

theorem test_hyps_EveryLaneCommandCompletes : s0.mainReset = false ∧ 127 < 128 ∧ 15 < 16 ∧
    (F.LANE_LANE_CTL_LOOPBACK.get 0 != 3) = true ∧ (F.LANE_PRBS_CTL_GEN_POLY.get 0 != 3 && F.LANE_PRBS_CTL_CHK_POLY.get 0 != 3) = true ∧
    got (exec (.acquireDone 127 15) s0) (fun _ => true) = true := by decide

theorem test_hyps_EveryPortCommandCompletes : s0.mainReset = false ∧ got (exec (.streamOutSend 31 3) s0) (fun _ => true) = true := by decide
theorem test_hyps_EveryFrontEndCommandCompletes : s0.mainReset = false ∧ got (exec (.statOutHoldExpiry 23 31 3) s0) (fun _ => true) = true := by decide
theorem test_hyps_EveryStitchCommandCompletes : s0.mainReset = false ∧ got (exec (.rowDeadline 3 0) s0) (fun _ => true) = true := by decide
theorem test_hyps_EveryHearthCommandCompletes : s0.mainReset = false ∧ got (exec (.clutWrite 63 false 16383 0) s0) (fun _ => true) = true := by decide
theorem test_hyps_EveryHearthInstructionCommandCompletes : s0.mainReset = false ∧ got (exec (.ldrop 63 3) s0) (fun _ => true) = true := by decide
theorem test_hyps_EveryMoraineCommandCompletes : s0.mainReset = false ∧ got (exec (.entryRetire 65535) s0) (fun _ => true) = true := by decide
theorem test_hyps_EveryBellowsCommandCompletes : s0.mainReset = false ∧ got (exec (.linkResync 63) s0) (fun _ => true) = true := by decide
theorem test_hyps_EveryFeedbackCommandCompletes : s0.mainReset = false ∧ got (exec (.hallEdge 23 7 255 1) s0) (fun _ => true) = true := by decide
theorem test_hyps_EveryAxisCommandCompletes : s0.mainReset = false ∧ got (exec (.axisTick 15) s0) (fun _ => true) = true := by decide
theorem test_hyps_EveryMemoryControllerCommandCompletes : s0.mainReset = false ∧
    got (exec (.rowIdleClose 5 15) s0) (fun _ => true) = true := by decide
theorem test_hyps_EveryDmaCommandCompletes : s0.mainReset = false ∧ dmaMust 31 s0 = true ∧
    got (exec (.dmaErrorResponse 31 3 0) s0) (fun _ => true) = true := by decide
theorem test_hyps_EveryFirnCommandCompletes : s0.mainReset = false ∧ got (exec (.firnStart 7) s0) (fun _ => true) = true := by decide
theorem test_hyps_EveryTimeCommandCompletes : s0.mainReset = false ∧
    got (exec (.ethLinkStatus true 2 true) s0) (fun _ => true) = true ∧ got (exec (.tpArm 15) s0) (fun _ => true) = true := by decide
theorem test_hyps_EveryEventFabricCommandCompletes : s0.mainReset = false ∧ got (exec (.evfRouteWrite .block false 255 0) s0) (fun _ => true) = true := by
  decide
theorem test_hyps_EveryControlPlaneCommandCompletes : s0.mainReset = false ∧ s0.inPor = false ∧ (CoreAct.fence false).ofHart = true ∧
    (CoreAct.fence false).ofGuard = true ∧
    hartMust 7 (.fence false) s0 = true ∧ coreMust (.fence false) = true ∧ regMust 0x49001000 0 = true ∧
    got (exec (.hartInstruction 7 (.fence false)) s0) (fun _ => true) = true ∧
    got (exec (.sramAccess .block 0x087ffff8 8 none 2) s0) (fun _ => true) = true := by decide
theorem test_hyps_EveryTwinCommandCompletes : s0.mainReset = false ∧ s0.inPor = false ∧
    got (exec (.heartbeatRx (.link 31 pkt0)) s0) (fun _ => true) = true := by decide
theorem test_hyps_EverySupplyCommandCompletes : s0.mainReset = false ∧ s0.inPor = false ∧
    got (exec (.railLow 2) s0) (fun _ => true) = true ∧ got (exec (.aonFeedOk 1 true true) s0) (fun _ => true) = true := by decide
theorem test_hyps_EveryBringUpCommandCompletes : s0.mainReset = false ∧ s0.inPor = false ∧
    got (exec (.islandRomLoad 1) s0) (fun _ => true) = true := by decide
theorem test_hyps_EveryResetCommandCompletes : s0.mainReset = false ∧ got (exec (.mainResetRelease 3) s0) (fun _ => true) = true := by decide
theorem test_hyps_EveryPeripheralCommandCompletes : s0.mainReset = false ∧ got (exec (.iicDone 2 []) s0) (fun _ => true) = true := by decide
theorem test_hyps_EveryJtagCommandCompletes : coreMust .none = true ∧ got (exec (.dmi 7 .none) s0) (fun _ => true) = true := by decide

/-- Main tap 24, and 23; a lane in listen. -/
theorem test_hyps_FfeWriteTakesOnlyAMainTapOf24OrMore :
    s0.mainReset = false ∧ 127 < 128 ∧ F.LANE_LANE_FFE_C_PRE.get 0x180f + F.LANE_LANE_FFE_C_POST.get 0x180f = 39 ∧
    39 < F.LANE_LANE_FFE_C_PRE.get 0x190f + F.LANE_LANE_FFE_C_POST.get 0x190f ∧
    ((s0.setLane 127 { s0.lane 127 with listen := true }).lane 127).listen = true ∧ (s0.lane 127).up = false ∧ (s0.lane 127).listen = false := by
  decide

theorem test_hyps_UnknownControlBlocksAreDroppedAndCounted :
    (s0.sf (R.LANE_QUAD_STAT 31) F.LANE_QUAD_STAT_ROLE_NOW 2).mainReset = false ∧
    (s0.sf (R.LANE_QUAD_STAT 31) F.LANE_QUAD_STAT_ROLE_NOW 2).role 31 = 2 ∧ (0x1f : BitVec 8) ≠ 0x1e ∧ (0x1f : BitVec 8) ≠ 0xd2 ∧
    (0x1f : BitVec 8) ≠ 0x4b ∧ (0x1f : BitVec 8) ≠ 0x55 ∧ (0x1f : BitVec 8) ≠ 0x66 := by decide

theorem test_hyps_CorrectionTableWritesAndInitialisation :
    s0.mainReset = false ∧ 23 < 24 ∧ (s0.setFe 23 { s0.fe 23 with initDone := true }).mainReset = false ∧
    ((s0.setFe 23 { s0.fe 23 with initDone := true }).fe 23).initDone = true ∧
    ((s0.setFe 23 { s0.fe 23 with initDone := false }).fe 23).initDone = false := by decide

/-- No view reads entry 524,287; then view 0 runs on a table from 0 and reads entry 5. -/
theorem test_hyps_StitchTableWritesStageAndStore :
    (s0.wr R.STITCH_TAB_ADDR 524287).mainReset = false ∧
    (∀ u, u < 4 → (s0.wr R.STITCH_TAB_ADDR 524287).tabLive u 524287 = false) ∧
    ((s0.sf (R.STITCH_VIEW_STAT 0) F.STITCH_VIEW_STAT_VSTATE 2).wr (R.STITCH_TAB_USED 0) 6).tabLive 0 5 = true := by decide

/-- No index event in the cycle; one, while IDX_MODE is 0. -/
theorem test_hyps_RequestCommandsSetTheirBits : s0.mainReset = false ∧ 127 < 128 ∧ 3 < 4 ∧ 23 < 24 ∧ 7 < 8 ∧
    (s0.fbMeet 23 (s0.fbNow 23)).idx = false ∧ s0.on (R.FB_CTL 23) F.FB_CTL_IDX_MODE = false := by decide

theorem test_hyps_LineStoreWritesNeedTheGroupOff : s0.mainReset = false ∧ s0.tileGroup 63 = none ∧ 98303 < 98304 ∧
    (s0.sf (R.HEARTH_TSTAT 63) F.HEARTH_TSTAT_IN_GROUP 1).tileGroup 63 ≠ none := by decide

/-- A context of tile 0 whose word 0 is `w` and whose vector slot has read. -/
def scalAt (w : BitVec 64) : State := hearthAt w { vres := some .none }

/-- Every scalar opcode of the statement. -/
theorem test_hyps_ScalarInstructionsWriteTheirResult :
    ∀ op, 1 ≤ op → op < 16 → scalReady (scalAt (BitVec.ofNat 64 (op * 2 ^ 39))) 0 0 op ∧
      ((scalAt (BitVec.ofNat 64 (op * 2 ^ 39))).ctx 0 0).pc + 1 < ((scalAt (BitVec.ofNat 64 (op * 2 ^ 39))).ctx 0 0).prog.2 := by
  unfold scalReady; decide

/-- Every branch of the statement: a destination in the program, taken (IMM12 = 99) or not. -/
theorem test_hyps_BranchesTestTheirRegistersAtIssue :
    ∀ op ∈ [0x00, 0x14, 0x15, 0x16, 0x17], scalReady (scalAt (BitVec.ofNat 64 (op * 2 ^ 39 + 99 * 2 ^ 52))) 0 0 op ∧
      wImm12 ((scalAt (BitVec.ofNat 64 (op * 2 ^ 39 + 99 * 2 ^ 52))).wordAt 0 0) < 100 := by
  unfold scalReady; decide

/-- Every vector opcode of the statement, at the widest elements. -/
theorem test_hyps_VectorInstructionsFollowTheElementRule :
    ∀ op ∈ [0x09, 0x0a, 0x0b, 0x0c, 0x0d, 0x0e, 0x0f, 0x10, 0x11, 0x1b, 0x1c, 0x1d],
      vecAt (hearthAt (BitVec.ofNat 64 (op + 5 * 64)) {}) 0 0 op ∧
      (hearthAt (BitVec.ofNat 64 (op + 5 * 64)) {}).wordFault 0 0 ((hearthAt (BitVec.ofNat 64 (op + 5 * 64)) {}).wordAt 0 0) = none := by
  unfold vecAt; decide

theorem test_hyps_Vdot4AccumulatesNibbleProducts :
    (∀ w ∈ [3, 5], vecAt (hearthAt (BitVec.ofNat 64 (0x24 + w * 64)) {}) 0 0 0x24 ∧
      (hearthAt (BitVec.ofNat 64 (0x24 + w * 64)) {}).wordFault 0 0 ((hearthAt (BitVec.ofNat 64 (0x24 + w * 64)) {}).wordAt 0 0) = none) ∧
    vecAt (hearthAt (BitVec.ofNat 64 (0x24 + 4 * 64)) {}) 0 0 0x24 ∧ wW ((hearthAt (BitVec.ofNat 64 (0x24 + 4 * 64)) {}).wordAt 0 0) = 4 := by
  unfold vecAt; decide

theorem test_hyps_BellowsArmsDisarmsAndRestartsItsWatchdog :
    let s := s0.sf R.SUP_SSTAT F.SUP_SSTAT_WARN_NOW 1
    (s.sf R.BELLOWS_BCTL F.BELLOWS_BCTL_DISARM_ON_WARN 1).on R.SUP_SSTAT F.SUP_SSTAT_WARN_NOW = true ∧
    (s.sf R.BELLOWS_BCTL F.BELLOWS_BCTL_DISARM_ON_WARN 1).on R.BELLOWS_BCTL F.BELLOWS_BCTL_DISARM_ON_WARN = true ∧
    (s.sf R.BELLOWS_BCTL F.BELLOWS_BCTL_DISARM_ON_WARN 0).on R.BELLOWS_BCTL F.BELLOWS_BCTL_DISARM_ON_WARN = false ∧
    s0.on R.SUP_SSTAT F.SUP_SSTAT_WARN_NOW = false ∧ s.mainReset = false := by decide

/-- Channel 5 ACTIVE, EVACUATED, OFF; another channel evacuating; EN before and after INIT. -/
theorem test_hyps_MemoryControllerRefusesCommandsOutOfState :
    s0.mainReset = false ∧ s0.cst 5 ≠ csActive ∧ s0.cst 5 ≠ csEvacuating ∧ s0.cst 5 ≠ csEvacuated ∧
    ((s0.setCst 5 csActive).setCst 0 csEvacuating).cst 5 = csActive ∧
    ((s0.setCst 5 csActive).setCst 0 csEvacuating).cst 0 = csEvacuating ∧
    (s0.setCst 5 csEvacuated).cst 5 = csEvacuated ∧
    F.MC_CTL_EN.get 0x100 = 1 ∧ s0.on R.MC_STAT F.MC_STAT_INIT_DONE = false ∧ F.MC_CTL_EN.get 0 = 0 ∧
    (s0.sf R.MC_STAT F.MC_STAT_INIT_DONE 1).on R.MC_STAT F.MC_STAT_INIT_DONE = true := by decide

theorem test_hyps_DmaDoorbellsActByChannelState :
    s0.mainReset = false ∧ (∀ st, st < 5 → (s0.setDst 31 st).dst 31 = st) ∧ (s0.dma 31).wait ≠ .again ∧
    ((s0.setDma 31 { s0.dma 31 with wait := .again }).dma 31).wait = .again ∧
    ((s0.setDma 31 { s0.dma 31 with abortAt := some 0 }).dma 31).abortAt = some s0.cyc ∧
    (s0.dma 31).startAt ≠ some s0.cyc ∧ (s0.dma 31).abortAt ≠ some s0.cyc ∧ s0.on (R.DMA_CH_CTL 31) F.DMA_CH_CTL_EN = false := by decide

theorem test_hyps_FirnJobIndexStaysBelowItsEntries :
    (s0.wr (R.FIRN_JOB_ENTRIES 7) 8).mainReset = false ∧ (7 : Word).toNat % 65536 < (s0.wr (R.FIRN_JOB_ENTRIES 7) 8).rdN (R.FIRN_JOB_ENTRIES 7) ∧
    (s0.wr (R.FIRN_JOB_ENTRIES 7) 8).rdN (R.FIRN_JOB_ENTRIES 7) ≤ (8 : Word).toNat % 65536 ∧
    (s0.sf (R.FIRN_ECTL 7) F.FIRN_ECTL_EN 1).on (R.FIRN_ECTL 7) F.FIRN_ECTL_EN = true ∧
    (s0.sf (R.FIRN_ECTL 7) F.FIRN_ECTL_EN 1).fst 7 = fiStopped ∧ (s0.sf (R.FIRN_ECTL 7) F.FIRN_ECTL_EN 0).on (R.FIRN_ECTL 7) F.FIRN_ECTL_EN = false := by
  decide

/-- Time not set and set; ADJ at and above STEP_MAX; INCR_NS at the two edges of its range and outside. -/
theorem test_hyps_TimeBaseStepsSetsAndLatches :
    s0.mainReset = false ∧ s0.on R.PTP_PSTAT F.PTP_PSTAT_TIME_VALID = false ∧
    (s0.sf R.PTP_PSTAT F.PTP_PSTAT_TIME_VALID 1).on R.PTP_PSTAT F.PTP_PSTAT_TIME_VALID = true ∧
    ((s0.wr R.PTP_ADJ_LO 1000).rd R.PTP_ADJ_HI ++ (s0.wr R.PTP_ADJ_LO 1000).rd R.PTP_ADJ_LO).toInt.natAbs
      = (s0.wr R.PTP_ADJ_LO 1000).rdN R.PTP_STEP_MAX ∧
    (s0.wr R.PTP_ADJ_LO 1001).rdN R.PTP_STEP_MAX < ((s0.wr R.PTP_ADJ_LO 1001).rd R.PTP_ADJ_HI ++ (s0.wr R.PTP_ADJ_LO 1001).rd R.PTP_ADJ_LO).toInt.natAbs ∧
    (∀ k, k < 16 → s0.tpState k ≠ 2 ∧ (s0.tp k).edges = [] ∧ (s0.tp k).active = none) ∧
    7992 * 2 ^ 32 ≤ (7 * 2 ^ 32 + 0xfdf3b646) * 1000 ∧ (8 * 2 ^ 32 + 0x020c49ba) * 1000 ≤ 8008 * 2 ^ 32 ∧
    (7 * 2 ^ 32 + 0xfdf3b645) * 1000 < 7992 * 2 ^ 32 ∧ 8008 * 2 ^ 32 < (8 * 2 ^ 32 + 0x020c49bb) * 1000 := by decide

/-- A single pulse at the least width; the least gap of a train; a start too early. -/
theorem test_hyps_PulseGeneratorArmsOnlyWithValidParameters :
    let a := (s0.wr (R.TPG_WIDTH 15) 8).wr (R.TPG_COUNT 15) 1
    let b := ((s0.wr (R.TPG_WIDTH 15) 8).wr (R.TPG_COUNT 15) 0).wr (R.TPG_PERIOD 15) 16
    a.mainReset = false ∧ a.tpState 15 = 0 ∧ a.rdN (R.TPG_WIDTH 15) * 4 + a.gf (R.TPG_FRAC 15) ⟨4, 2⟩ = 32 ∧ a.rdN (R.TPG_COUNT 15) = 1 ∧
    a.on (R.TPG_TCTL 15) F.TPG_TCTL_START_MODE = false ∧
    b.rdN (R.TPG_WIDTH 15) * 4 + 32 = b.rdN (R.TPG_PERIOD 15) * 4 ∧ s0.tpState 15 = 0 ∧ s0.rdN (R.TPG_WIDTH 15) * 4 < 32 ∧
    (s0.setTpState 15 1).tpState 15 ≠ 0 := by decide

theorem test_hyps_LockedRoutesIgnoreWritesAndRecordTheViolation :
    (s0.wr R.EVF_LOCK 1).mainReset = false ∧ (s0.wr R.EVF_LOCK 1).on R.EVF_LOCK (bit 0) = true ∧
    (s0.wr R.EVF_LOCK 1).on R.ERRLOG_GERR (bit 0) = false ∧ ((s0.wr R.EVF_LOCK 1).wr R.ERRLOG_GERR 1).on R.ERRLOG_GERR (bit 0) = true ∧
    s0.on R.EVF_LOCK (bit 0) = false ∧ consOk 95 = true ∧ consOk 127 = false ∧
    F.EVF_CH_CTL_SRC.get 0x000184ff = 1279 ∧ F.EVF_CH_CTL_MIN_GAP.get 0x000184ff = 1 := by decide

/-- A pulse on its way to channel 255: one that is held already, one within MIN_GAP (its last cycle), one after it. -/
theorem test_hyps_EventChannelsDeliverOncePerMinGap :
    let s := { s0 with cyc := 100, chanIn := [(255, 0, false)] }
    s.mainReset = false ∧ s.per = 160 ∧ s.chanIn.find? (fun p => p.1 == 255) = some (255, 0, false) ∧
    ((s.setChan 255 ⟨some 150, 16, true⟩).chan 255).pend = true ∧ (s.setChan 255 ⟨some 144, 16, true⟩).inGap 255 = false ∧
    ((s.setChan 255 ⟨some 145, 16, false⟩).chan 255).pend = false ∧ (s.setChan 255 ⟨some 145, 16, false⟩).inGap 255 = true ∧
    (s.setChan 255 ⟨some 144, 16, false⟩).inGap 255 = false := by decide

theorem test_hyps_MailboxDoorbellsFireTheirSources : s0.inPor = false ∧ s0.mainReset = false ∧ masterPriv (.guardian 1) = true ∧
    masterPriv (.hart 0 false) = false ∧ s0.irqPend 50 = false ∧ (s0.sf (R.IRQC_PEND 1) (bit 18) 1).irqPend 50 = true := by decide

theorem test_hyps_CompleteClearsExactlyItsPendBit : s0.mainReset = false ∧ 17 < 18 ∧ 1279 < 1280 ∧ masterPriv (.hart 3 true) = true ∧
    masterPriv (.hart 3 false) = false ∧ irqTargetP 3 = false ∧ irqTargetP 17 = true ∧ s0.irqPriv 1279 = false ∧
    (s0.sf (R.IRQC_PRIO 1279) F.IRQC_PRIO_PRIV 1).irqPriv 1279 = true := by decide

/-- A whole word and one byte, with and without an error that stands; a coherent master with and without a cached copy; a line whole. -/
theorem test_hyps_SramAccessesFollowSecded : s0.mainReset = false ∧ 0x08000000 ≤ 0x087ffff8 ∧ 0x087ffff8 % 8 + 8 ≤ 8 ∧
    0x087ffff8 + 8 ≤ 0x08800000 ∧ 0x08000007 % 8 + 1 ≤ 8 ∧ ([0xff] : List (BitVec 8)).length = 1 ∧ s0.wordErr (0x08000007 / 8) = 0 ∧
    (s0.setWordErr (0x08000007 / 8) 2).wordErr (0x08000007 / 8) = 2 ∧ masterCoherent .block s0 = false ∧ masterCoherent .mac s0 = true ∧
    s0.line? 0x08000007 = none ∧ (s0.setLine 0x08000007 { data := [] }).line? 0x08000007 = some { data := [] } ∧ s0.cache.length < cacheLines ∧
    (∀ i, i < 8 → s0.wordErr (0x08000007 / 64 * 8 + i) = 0) := by decide

theorem test_hyps_TwinClaimsOnlyUnpairedWithActInInactive :
    s0.mainReset = false ∧ s0.inPor = false ∧ (s0.sf R.TWIN_TSTAT F.TWIN_TSTAT_ROLE 1).twRole = roUnpaired ∧
    (s0.sf R.TWIN_TSTAT F.TWIN_TSTAT_ROLE 1).on R.TWIN_TSTAT F.TWIN_TSTAT_ACT_IN = false ∧
    (s0.sf R.TWIN_TSTAT F.TWIN_TSTAT_ACT_IN 1).on R.TWIN_TSTAT F.TWIN_TSTAT_ACT_IN = true ∧
    s0.twRole ≠ roUnpaired ∧ F.TWIN_TCTL_MUX_SETTLE_US.get 0 = 0 ∧
    100 < F.TWIN_TCTL_MUX_SETTLE_US.get (F.TWIN_TCTL_MUX_SETTLE_US.put 0 101) := by decide

/-- The default WARN level is 705 mV; it clears at 715 mV. -/
theorem test_hyps_SupplyWarningRaisesOnceBelowItsLevel :
    s0.inPor = false ∧ s0.mainReset = false ∧ 704 < 680 + 5 * s0.gf R.SUP_SCTL F.SUP_SCTL_WARN ∧
    705 = 680 + 5 * s0.gf R.SUP_SCTL F.SUP_SCTL_WARN ∧ s0.on R.SUP_SSTAT F.SUP_SSTAT_WARN_NOW = false ∧
    (s0.sf R.SUP_SSTAT F.SUP_SSTAT_WARN_NOW 1).on R.SUP_SSTAT F.SUP_SSTAT_WARN_NOW = true ∧
    690 + 5 * s0.gf R.SUP_SCTL F.SUP_SCTL_WARN ≤ 715 ∧ 714 < 690 + 5 * s0.gf R.SUP_SCTL F.SUP_SCTL_WARN := by decide

theorem test_hyps_ErrorRecordClearsRearmTheCapture : s0.inPor = false := by decide

theorem test_hyps_UartFifosHoldSixteenBytes :
    let e := s0.sf (R.UART_UCTL 1) F.UART_UCTL_EN 1
    let f (n : Nat) := e.setUart 1 { e.uart 1 with tx := List.replicate n 0, rx := List.replicate n 0 }
    e.mainReset = false ∧ e.on (R.UART_UCTL 1) F.UART_UCTL_EN = true ∧
    (s0.sf (R.UART_UCTL 1) F.UART_UCTL_EN 0).on (R.UART_UCTL 1) F.UART_UCTL_EN = false ∧
    ((f 15).uart 1).tx.length < 16 ∧ 16 ≤ ((f 16).uart 1).tx.length ∧ ((f 15).uart 1).rx.length < 16 ∧ 16 ≤ ((f 16).uart 1).rx.length := by
  decide

theorem test_hyps_RootPllLossResetsTheMainDomainAlone : s0.inPor = false ∧ s0.mainReset = false ∧ isIsland 0x44000000 = false ∧
    isIsland 0x57000000 = true := by decide

theorem test_hyps_ResetSourcesRecordTheirCause : s0.inPor = false ∧ s0.jtagDis = false ∧ 664 < 665 ∧
    { s0 with mainReset := true, hold := { sramUv := true } }.mainReset = true ∧
    { s0 with mainReset := true, hold := { sramUv := true } }.hold.sramUv = true ∧
    { s0 with hold := { feeds := true } }.inPor = true := by decide

theorem test_hyps_JtagInstructionsDriveTapAndFuses : s0.jtagDis = false ∧ 1710 ≤ 1890 ∧ (0 : Int) ≤ 85 ∧ 1709 < 1710 ∧
    { s0 with jtagDis := true }.jtagDis = true ∧ 255 < 256 := by decide

end Sys2Proof.Tests
end

section
/-! The shape of every command's meaning: the wrapper of its domain around an effect, behind a check of R12 in seven commands. What
holds of the wrappers holds of `exec`; then the statements of 00_scope.md. -/

namespace Sys2Proof.Machine

/-- The domains of R433 and R434 that a command's meaning can stand in, one for each of the wrappers `onMain`, `onIsland`, `onGuard` and
`onAlways`. -/
inductive Domain where
  | main | island | guardian | always

/-- The wrapper of a domain. -/
def Domain.run : Domain → Bool → State → (State → State) → Out
  | .main => onMain
  | .island => onIsland
  | .guardian => onGuard
  | .always => onAlways

end Sys2Proof.Machine

namespace Sys2Proof

/-- The domain of a command: the main one where `mainDomain` says so; of the others, the two of the guardian cores themselves (R369, R441)
and those that act in every reset state (R423, R434, R473) are named, and the rest are the island's. -/
def Instr.domain (c : Instr) : Machine.Domain :=
  if c.mainDomain then .main
  else match c with
    | .guardInstruction .. | .islandRomLoad .. => .guardian
    | .vddCoreUv .. | .vddSramUv | .aonFeedOk .. | .bothAonFeedsLost | .mainSupplyRelease
    | .porAssert | .porRelease .. | .mainResetRelease .. | .resetNAssert | .resetNRelease | .debugReset
    | .extest .. | .samplePreload .. | .extestPulse .. | .extestTrain .. | .bypass .. | .idcode | .highz | .clamp
    | .dtmcs | .dmi .. | .fuseSel .. | .fuseData .. | .fuseProg .. => .always
    | _ => .island

end Sys2Proof

namespace Sys2Proof.Machine

/-- Every command's meaning is its domain's wrapper, with `Instr.wf` as the range check, around an effect. Seven commands check an
obligation of R12 before; the others check none. -/
theorem exec_eq_onMust_run (c : Instr) :
    ∃ (must : State → Bool) (f : State → State), ∀ s, exec c s = onMust (must s) (c.domain.run c.wf s f) := by
  cases c with
  | laneCtlWrite n v => exact ⟨_, _, fun _ => rfl⟩
  | prbsCtlWrite n v => exact ⟨_, _, fun _ => rfl⟩
  | dmaReadData c => exact ⟨_, _, fun _ => rfl⟩
  | hartInstruction h act => exact ⟨_, _, fun _ => rfl⟩
  | guardInstruction g act => exact ⟨_, _, fun _ => rfl⟩
  | registerWrite m a v => exact ⟨_, _, fun _ => rfl⟩
  | dmi h act => exact ⟨_, _, fun _ => rfl⟩
  | _ => exact ⟨fun _ => true, _, fun _ => rfl⟩

/-! What the wrappers do, whatever the effect. -/

/-- With a unit number out of range every wrapper refuses. -/
theorem Domain.run_false (d : Domain) (s : State) (f : State → State) : d.run false s f = .refused .noSuchUnit := by
  cases d <;> rfl

/-- A check of R12 leaves an outcome as it is or answers the fault. -/
theorem onMust_eq_or_fault (must : Bool) (o : Out) : onMust must o = o ∨ onMust must o = .fault .outsideManual := by
  cases must
  · exact .inr rfl
  · exact .inl rfl

/-- No wrapper lets an effect reach the queue or the clock. -/
theorem Domain.run_keeps_queue {d : Domain} {ok : Bool} {s t : State} {f : State → State} (h : d.run ok s f = .next t) :
    t.pending = s.pending ∧ t.cyc = s.cyc := by
  cases d with
  | main => obtain ⟨-, ⟨-, rfl⟩ | ⟨-, rfl⟩⟩ := onMain_next h <;> exact ⟨rfl, rfl⟩
  | island => obtain ⟨-, ⟨-, rfl⟩ | ⟨-, rfl⟩⟩ := onIsland_next h <;> exact ⟨rfl, rfl⟩
  | guardian => obtain ⟨-, ⟨-, rfl⟩ | ⟨-, rfl⟩⟩ := onGuard_next h <;> exact ⟨rfl, rfl⟩
  | always => obtain ⟨-, rfl⟩ := onAlways_next h; exact ⟨rfl, rfl⟩

/-! The statements. -/

/-- Settles O1: it is the definition of `step` on a queue that is not empty. -/
theorem stepRunsTheFrontCommand : Obligations.StepRunsTheFrontCommand := fun _ _ _ => rfl

/-- Settles O4: the range check of a command's wrapper is `Instr.wf`, and only a check of R12 stands before it. -/
theorem commandsNamingAbsentUnitsAreRefused : Obligations.CommandsNamingAbsentUnitsAreRefused := by
  intro c s hwf
  obtain ⟨must, f, hexec⟩ := exec_eq_onMust_run c
  rw [hexec s, hwf, Domain.run_false]
  exact onMust_eq_or_fault _ _

/-- Settles O6: what a command answers comes from its domain's wrapper, which puts queue and clock back. -/
theorem commandsLeaveQueueAndClockAlone : Obligations.CommandsLeaveQueueAndClockAlone := by
  intro c s t h
  obtain ⟨must, f, hexec⟩ := exec_eq_onMust_run c
  rw [hexec s] at h
  exact Domain.run_keeps_queue (onMust_next h).2

end Sys2Proof.Machine
end

section
/-! What the reset of the main domain does to the registers (R433, R434) and what the error record keeps (R425); then the statements of
01_camera_to_valve.md. -/

namespace Sys2Proof.Machine

variable {s : State}

/-! The registers of the always-on island and those of the main domain (R369, R433). -/

/-- No register that an event source changes lies in the island. -/
theorem not_mem_eventRegs_of_isIsland {a src : Nat} (hs : src < 1280) (ha : isIsland a = true) : a ∉ eventRegs src := by
  simp only [isIsland, Bool.or_eq_true, Bool.and_eq_true, decide_eq_true_eq, beq_iff_eq] at ha
  simp only [eventRegs, R.IRQC_PEND, R.IRQC_MERGED, R.EVF_COINCIDE, List.mem_cons, List.mem_map, List.mem_range]
  rintro (h | h | ⟨n, hn, h⟩) <;> omega

/-- The island's registers are kept through a reset of the main domain. -/
theorem keepReg_of_isIsland {e : Nat × Word} (h : isIsland e.1 = true) : keepReg e = some e := by simp [keepReg, h]

/-- Those of the main domain are not, but for the island's bits of TSTAT. -/
theorem keepReg_of_not_isIsland {e : Nat × Word} (h : isIsland e.1 = false) (ht : e.1 ≠ R.TWIN_TSTAT) : keepReg e = none := by
  simp only [R.TWIN_TSTAT] at ht
  simp [keepReg, h, ht]

/-- A register that is kept keeps its address. -/
theorem keepReg_fst {e e' : Nat × Word} (h : keepReg e = some e') : e'.1 = e.1 := by
  unfold keepReg at h
  split at h
  · cases h; rfl
  · split at h <;> cases h; rfl

theorem get_filterMap_keepReg_of_isIsland {a : Nat} (ha : isIsland a = true) (m : SMap Word) :
    SMap.get resetWord (m.filterMap keepReg) a = m.get resetWord a := by
  induction m with
  | nil => rfl
  | cons e m ih =>
    by_cases he : a = e.1
    · rw [List.filterMap_cons_some (keepReg_of_isIsland (he ▸ ha))]
      simp [SMap.get, he]
    · cases hk : keepReg e with
      | none => simp [hk, SMap.get, he, ih]
      | some e' => simp [hk, SMap.get, he, keepReg_fst hk, ih]

theorem get_filterMap_keepReg_of_not_isIsland {a : Nat} (ha : isIsland a = false) (ht : a ≠ R.TWIN_TSTAT) (m : SMap Word) :
    SMap.get resetWord (m.filterMap keepReg) a = resetWord a := by
  induction m with
  | nil => rfl
  | cons e m ih =>
    cases hk : keepReg e with
    | none => simp [hk, ih]
    | some e' =>
      have he : a ≠ e'.1 := by
        rintro rfl
        rw [keepReg_fst hk] at ha ht
        simp [keepReg_of_not_isIsland ha ht] at hk
      simp [hk, SMap.get, he, ih]

theorem rd_mainCleared_of_isIsland {a : Nat} (ha : isIsland a = true) : s.mainCleared.rd a = s.rd a :=
  get_filterMap_keepReg_of_isIsland ha s.regs

theorem rd_mainCleared_of_not_isIsland {a : Nat} (ha : isIsland a = false) (ht : a ≠ R.TWIN_TSTAT) : s.mainCleared.rd a = resetWord a :=
  get_filterMap_keepReg_of_not_isIsland ha ht s.regs

/-! A reset of the main domain (R433, R434). -/

/-- Where the twin releases its output (R397), no register but TSTAT changes. -/
theorem rd_twinRelease_ne {a : Nat} (ht : a ≠ R.TWIN_TSTAT) : s.twinRelease.rd a = s.rd a := by
  unfold State.twinRelease
  split
  · rfl
  · have hrole := rd_sf_ne (s := (s.setActOut false).hbPath2 roUnpaired true) F.TWIN_TSTAT_ROLE roUnpaired ht
    exact hrole.trans (rd_sf_ne (s := s) F.TWIN_TSTAT_ACT_OUT (b2n false) ht)

@[simp] theorem twinRelease_mainReset : s.twinRelease.mainReset = s.mainReset := by
  unfold State.twinRelease
  split <;> rfl

/-- In reset already, the main domain takes a further cause only. -/
theorem assertMain_of_reset (cause : Nat) (h : s.mainReset = true) : s.assertMain cause = s.resetCause cause :=
  if_pos h

/-- Out of reset, it is cleared. -/
theorem assertMain_of_running (cause : Nat) (h : s.mainReset = false) :
    s.assertMain cause =
      { s.resetCause cause with mainReset := true }.twinRelease.mainCleared.sf R.GUARD_GSTAT F.GUARD_GSTAT_MAIN_IN_RESET 1 :=
  if_neg (by simp [State.resetCause, State.sf, h])

@[simp] theorem assertMain_mainReset (cause : Nat) : (s.assertMain cause).mainReset = true := by
  cases h : s.mainReset with
  | true => rw [assertMain_of_reset cause h]; exact h
  | false => rw [assertMain_of_running cause h]; exact twinRelease_mainReset

/-- A register of the island, GSTAT apart, reads after the reset as it does once the cause is recorded. -/
theorem rd_assertMain_island {a : Nat} (cause : Nat) (ha : isIsland a = true) (hg : a ≠ R.GUARD_GSTAT) :
    (s.assertMain cause).rd a = (s.resetCause cause).rd a := by
  cases h : s.mainReset with
  | true => rw [assertMain_of_reset cause h]
  | false =>
    have ht : a ≠ R.TWIN_TSTAT := by rintro rfl; exact absurd ha (by decide)
    rw [assertMain_of_running cause h, rd_sf_ne _ _ hg, rd_mainCleared_of_isIsland ha, rd_twinRelease_ne ht]
    rfl

/-- A register of the main domain that was out of reset takes its reset value, TSTAT apart. -/
theorem rd_assertMain_main {a : Nat} (cause : Nat) (h : s.mainReset = false) (ha : isIsland a = false) (ht : a ≠ R.TWIN_TSTAT) :
    (s.assertMain cause).rd a = resetWord a := by
  have hg : a ≠ R.GUARD_GSTAT := by rintro rfl; exact absurd ha (by decide)
  rw [assertMain_of_running cause h, rd_sf_ne _ _ hg, rd_mainCleared_of_not_isIsland ha ht]

/-- The cause apart, it reads as before. -/
theorem rd_assertMain_kept {a : Nat} (cause : Nat) (ha : isIsland a = true) (hg : a ≠ R.GUARD_GSTAT) (hc : a ≠ R.SUP_RESET_CAUSE) :
    (s.assertMain cause).rd a = s.rd a := (rd_assertMain_island cause ha hg).trans (rd_sf_ne _ _ hc)

theorem on_assertMain_cause {cause : Nat} (hc : cause < 32) : (s.assertMain cause).on R.SUP_RESET_CAUSE (bit cause) = true := by
  rw [on_congr _ (rd_assertMain_island cause (by decide) (by decide))]
  exact on_sf_one _ _ hc

theorem on_assertMain_mainInReset (cause : Nat) (h : s.mainReset = false) :
    (s.assertMain cause).on R.GUARD_GSTAT F.GUARD_GSTAT_MAIN_IN_RESET = true := by
  rw [assertMain_of_running cause h]
  exact on_sf_one _ 4 (by decide)

/-! The error record (R425). -/

/-- An error leaves the sticky bit of its block set. -/
theorem on_record_sticky (e : Site) (code addr : Nat) (he : e.blk < 32) :
    (s.record e code addr).on R.ERRLOG_BLOCK_STICKY (bit e.blk) = true := by
  have hfire : R.ERRLOG_BLOCK_STICKY ∉ eventRegs 15 := not_mem_eventRegs_of_isIsland (by decide) (by decide)
  have hset : (if s.on R.ERRLOG_BLOCK_STICKY (bit e.blk) then s
      else (s.sf R.ERRLOG_BLOCK_STICKY (bit e.blk) 1).fire 15).on R.ERRLOG_BLOCK_STICKY (bit e.blk) = true := by
    split
    · assumption
    · rw [on_congr _ ((evTouches_fire _ _).2 _ hfire), on_sf_one _ _ he]
  unfold State.record
  generalize (if s.on R.ERRLOG_BLOCK_STICKY (bit e.blk) then s
      else (s.sf R.ERRLOG_BLOCK_STICKY (bit e.blk) 1).fire 15) = u at hset ⊢
  dsimp only
  split
  · exact hset
  · rw [← hset]
    refine on_congr _ ?_
    simp (disch := omega) only [State.wr64, State.wrN, rd_wr_ne, R.ERRLOG_BLOCK_STICKY, R.ERRLOG_FINFO, R.ERRLOG_FADDR_LO, R.ERRLOG_FADDR_HI,
      R.ERRLOG_FTIME_LO, R.ERRLOG_FTIME_HI, R.ERRLOG_FAON_LO, R.ERRLOG_FAON_HI]
    rfl

/-- Recording an error does not reach the reset of the main domain. -/
@[simp] theorem record_mainReset (e : Site) (code addr : Nat) : (s.record e code addr).mainReset = s.mainReset := by
  rw [(evTouches_record s e code addr).1]

/-! Commands that complete. -/

/-- A check of R12 that holds leaves the outcome as it is. -/
theorem onMust_run {must : Bool} (h : must = true) (o : Out) : onMust must o = o := if_pos h

/-- A command of the main domain on unit `n` of `k`, out of reset, answers its effect. -/
theorem onMain_unit {n k : Nat} (f : State → State) (hm : s.mainReset = false) (hn : n < k) :
    onMain (n < k) s f = .next ((f s).keepIsland s) := onMain_run f (decide_eq_true hn) hm

/-! The statements. -/

/-- Settles O58: the loss is recorded in the island, and the reset of the main domain that follows keeps the island's registers. -/
theorem rootPllLossResetsTheMainDomainAlone : Obligations.RootPllLossResetsTheMainDomainAlone := by
  intro s hpor
  have hloss : rootPllLoss s = (s.record ⟨0, 3, 0, 0⟩ 0 0).assertMain 3 := if_neg (by simp [hpor])
  have hmain : (s.record ⟨0, 3, 0, 0⟩ 0 0).mainReset = s.mainReset := record_mainReset _ _ _
  have hsticky := on_record_sticky (s := s) ⟨0, 3, 0, 0⟩ 0 0 (by decide)
  have hrecord := (evTouches_record s ⟨0, 3, 0, 0⟩ 0 0).2
  refine ⟨(rootPllLoss s).keepGuard s, onIsland_run rootPllLoss rfl hpor, ?_⟩
  rw [hloss]
  generalize s.record ⟨0, 3, 0, 0⟩ 0 0 = r at hmain hsticky hrecord ⊢
  refine ⟨assertMain_mainReset 3, hpor, ?sticky, on_assertMain_cause (by decide), fun h a => rd_assertMain_main 3 (hmain.trans h),
    fun h => on_assertMain_mainInReset 3 (hmain.trans h), ?island, rfl, rfl⟩
  case sticky =>
    have hkept : (r.assertMain 3).rd R.ERRLOG_BLOCK_STICKY = r.rd R.ERRLOG_BLOCK_STICKY :=
      rd_assertMain_kept 3 (by decide) (by decide) (by decide)
    exact (on_congr (bit 0) hkept).trans hsticky
  case island =>
    intro a ha hne
    simp only [List.mem_append, List.mem_cons, List.not_mem_nil, or_false, not_or] at hne
    obtain ⟨⟨hcause, hgstat⟩, hrec⟩ := hne
    exact (rd_assertMain_kept 3 ha hgstat hcause).trans (hrecord a hrec)

/-- Settles O11: each command is its effect in the wrapper of its domain, which a quad below 32 and a lane below 128 pass. -/
theorem everyLaneCommandCompletes : Obligations.EveryLaneCommandCompletes := by
  intro s
  refine ⟨fun hm => ?_, onIsland_run rootPllLoss rfl⟩
  have quad {q : Nat} (f : State → State) : q < 32 → onMain (q < 32) s f = .next ((f s).keepIsland s) := onMain_unit f hm
  have lane {n : Nat} (f : State → State) : n < 128 → onMain (n < 128) s f = .next ((f s).keepIsland s) := onMain_unit f hm
  exact ⟨fun q => quad (quadApply q), fun q => quad (quadRetrain q), fun q => quad (quadPllLock q), fun q => quad (quadPllUnlock q),
    fun b => onMain_run (refclkLoss b) rfl hm,
    fun n ctle hn hc => onMain_run (acquireDone n ctle) (by simp [hn, hc]) hm,
    fun n hdr payload => lane (linkBlockRx n hdr payload),
    fun n => lane (hiBerClear n), fun n => lane (blockLockAcquired n), fun n => lane (blockLockLost n), fun n => lane (signalLost n),
    fun n => lane (rxPolarityInvert n), fun n payload => lane (trainBlockRx n payload), fun n => lane (trainLocked n),
    fun n => lane (laneReady n), fun n => lane (listenLaneReady n), fun n => lane (trainTimeout n), fun n => lane (laneRetrain n),
    fun n up => lane (ctleTrackStep n up),
    fun n v hn hv => (onMust_run hv _).trans (lane (laneCtlWrite n v) hn),
    fun n v => lane (laneFfeWrite n v),
    fun n v hn hv => (onMust_run hv _).trans (lane (prbsCtlWrite n v) hn),
    fun n => lane (prbsLockGained n), fun n => lane (prbsLockLost n), fun n => lane (injSingle n), fun n => lane (injBurst n),
    fun n => lane (injectionSent n), fun n => lane (eyeStart n), fun n errs => lane (eyePointDone n errs), fun n => lane (laneCalApply n)⟩

/-- Settles O26: each command is its effect in the wrapper of its domain, behind the check of R12 for the cores' instructions and for a
register write. -/
theorem everyControlPlaneCommandCompletes : Obligations.EveryControlPlaneCommandCompletes := by
  intro s
  constructor
  · intro hm
    exact ⟨fun m v => onMain_run (coreCtlWrite m v) rfl hm,
      fun h => onMain_unit (mtimerPending h) hm,
      fun h act hh hact hmust => (onMust_run hmust _).trans (onMain_run (hartInstruction h act) (by simp [hh, hact]) hm),
      fun m t id => onMain_unit (irqComplete m t id) hm,
      fun m a n data ecc ha hword hend hecc => onMain_run (sramAccess m a n data ecc) (by simp [ha, hword, hend, hecc]) hm,
      onMain_run snapGo rfl hm, onMain_run snapInput rfl hm, onMain_run snapshotTaken rfl hm⟩
  · intro hp
    exact ⟨fun g act hg hact hmust => (onMust_run hmust _).trans (onGuard_run (guardInstruction g act) (by simp [hg, hact]) hp),
      fun upsets => onIsland_run (tvScrub upsets) rfl hp,
      fun m => onIsland_run (toApp m) rfl hp,
      fun m a => onIsland_run (busAccessUnmapped m a) rfl hp,
      fun m a v hmust => (onMust_run hmust _).trans (onIsland_run (registerWrite m a v) rfl hp),
      onIsland_run toG0 rfl hp, onIsland_run toG1 rfl hp⟩

end Sys2Proof.Machine
end

section
/-! What the transmitters of the lanes reach in a cycle of CLK_TIME (R36), what an error leaves of the state around it
(R384), and what registers written leave; then the statements of 02_lanes.md. -/

namespace Sys2Proof

/-- A field replaced by what it reads leaves the word. -/
theorem Fld.put_get (f : Fld) (x : Word) : f.put x (f.get x) = x := by
  refine BitVec.eq_of_getLsbD_eq fun i hi => ?_
  rw [Fld.getLsbD_put f x _ i hi, Fld.testBit_get]
  split
  · rename_i h
    simp [show i - f.lo < f.w by omega, show f.lo + (i - f.lo) = i by omega]
  · rfl

end Sys2Proof

namespace Sys2Proof.Machine

variable {s t : State}

/-! Registers written, and nothing else. -/

/-- The registers that say where a displaced byte of memory stands (R305). -/
def placesBytes (a : Nat) : Prop := a = R.MC_RES_BASE ∨ ∃ n, a = R.MC_MIG_PTR n

theorem regFrame.refl (s : State) (l : List Nat) : regFrame s s l := ⟨rfl, fun _ _ => rfl, fun _ => rfl⟩

theorem regFrame.trans {u : State} {l : List Nat} (h : regFrame s t l) (h' : regFrame t u l) : regFrame s u l := by
  obtain ⟨hstate, hregs, hmem⟩ := h
  obtain ⟨hstate', hregs', hmem'⟩ := h'
  exact ⟨by rw [hstate', hstate], fun a ha => (hregs' a ha).trans (hregs a ha), fun a => (hmem' a).trans (hmem a)⟩

/-- One write more, to a register of the list. -/
theorem regFrame.wr {l : List Nat} (h : regFrame s t l) {a : Nat} (v : Word) (ha : a ∈ l) (hplace : ¬ placesBytes a) :
    regFrame s (t.wr a v) l := by
  have hother {b : Nat} (hb : placesBytes b) : b ∉ [a] := fun hba => hplace (List.mem_singleton.mp hba ▸ hb)
  obtain ⟨hstate, hregs, hmem⟩ : regFrame t (t.wr a v) [a] :=
    (evTouches_wr t a v).regFrame rfl rfl rfl (hother (.inl rfl)) fun m => hother (.inr ⟨m, rfl⟩)
  exact h.trans ⟨hstate, fun b hb => hregs b fun hba => hb (List.mem_singleton.mp hba ▸ ha), hmem⟩

theorem regFrame.sf {l : List Nat} (h : regFrame s t l) {a : Nat} (f : Fld) (n : Nat) (ha : a ∈ l) (hplace : ¬ placesBytes a) :
    regFrame s (t.sf a f n) l := h.wr _ ha hplace

/-- The wrapper of the main domain leaves registers as the effect wrote them. -/
theorem regFrame.keepIsland {l : List Nat} (h : regFrame s t l) : t.keepIsland s = t := by rw [h.1]; rfl

/-! An error (R384, R425). -/

/-- The registers that an event source changes lie in the interrupt controller and the event fabric. -/
theorem mem_eventRegs_bounds {src b : Nat} (hsrc : src < 1280) (hb : b ∈ eventRegs src) : 0x43002000 ≤ b ∧ b < 0x44003c10 := by
  simp only [eventRegs, R.IRQC_PEND, R.IRQC_MERGED, R.EVF_COINCIDE, List.mem_cons, List.mem_map, List.mem_range] at hb
  obtain hb | hb | ⟨n, hn, hb⟩ := hb <;> omega

/-- Those that an error changes, its own register apart, lie between the error record and the event fabric. -/
theorem mem_recordRegs_append_eventRegs_bounds {e : Site} {b : Nat} (hblk : e.blk < 32) (hsrc : e.src < 1280)
    (hb : b ∈ recordRegs e ++ eventRegs e.src) : 0x42200000 ≤ b ∧ b < 0x44003c10 := by
  obtain (hb | hb) | hb := (List.mem_append.mp hb).imp_left List.mem_append.mp
  · simp only [R.ERRLOG_BLOCK_STICKY, R.ERRLOG_FINFO, R.ERRLOG_FADDR_LO, R.ERRLOG_FADDR_HI, R.ERRLOG_FTIME_LO, R.ERRLOG_FTIME_HI,
      R.ERRLOG_FAON_LO, R.ERRLOG_FAON_HI, List.mem_cons, List.not_mem_nil, or_false] at hb
    omega
  · have := mem_eventRegs_bounds (by decide) hb
    omega
  · have := mem_eventRegs_bounds hsrc hb
    omega

/-- Outside that span an error register takes the sticky bit: set anew, or set already. -/
theorem rd_raise_same {a n : Nat} {e : Site} (ha : a ∉ recordRegs e ++ eventRegs e.src) :
    (s.raise a n e).rd a = (bit n).put (s.rd a) 1 := by
  rw [List.mem_append, not_or] at ha
  obtain ⟨hrec, hev⟩ := ha
  unfold State.raise State.raiseAt
  split
  · rename_i hon
    have hget : (bit n).get (s.rd a) = 1 := by simpa [State.on, State.gf] using hon
    rw [← hget, Fld.put_get]
  · rw [(evTouches_fire _ _).2 a hev, (evTouches_record _ _ _ _).2 a hrec]
    exact rd_wr_same _ _ _

/-- An error whose register stands outside that span and tells no byte's place changes what an error does and no more. -/
theorem raisesOnly_raise {a n : Nat} {e : Site} (hblk : e.blk < 32) (hsrc : e.src < 1280) (ha : a < 0x42200000 ∨ 0x44003c10 ≤ a)
    (hplace : ¬ placesBytes a) : raisesOnly s (s.raise a n e) a n e := by
  have outside {b : Nat} (hb : b < 0x42200000 ∨ 0x44003c10 ≤ b) : b ∉ recordRegs e ++ eventRegs e.src := fun h => by
    have := mem_recordRegs_append_eventRegs_bounds hblk hsrc h
    omega
  have kept {b : Nat} (hb : placesBytes b) (hspan : 0x44003c10 ≤ b) : b ∉ errorRegs a e := fun h =>
    (List.mem_cons.mp h).elim (fun hba => hplace (hba ▸ hb)) (outside (.inr hspan))
  exact ⟨rd_raise_same (outside ha), (evTouches_raise s a n e).evFrame (kept (.inl rfl) (by decide))
    fun m => kept (.inr ⟨m, rfl⟩) (by simp only [R.MC_MIG_PTR]; omega)⟩

/-! The transmitters of the lanes (R36, R39, R52, R54, R61). -/

/-- The registers that a lane in near-end loopback counts in (R52). -/
def prbsCounters (a : Nat) : Prop := ∃ n, a = R.LANE_PRBS_ERR n ∨ a = R.LANE_PRBS_MBITS n

/-- Only what the transmitters of the lanes reach differs: the lanes, quads and ports, what has left the block, and of the registers
PRBS_ERR and PRBS_MBITS. -/
def txTouches (s t : State) : Prop :=
  t = { s with regs := t.regs, lanes := t.lanes, quads := t.quads, ports := t.ports, outbox := t.outbox } ∧
    ∀ a, ¬ prbsCounters a → t.rd a = s.rd a

theorem txTouches.refl (s : State) : txTouches s s := ⟨rfl, fun _ _ => rfl⟩

theorem txTouches.trans {u : State} (h : txTouches s t) (h' : txTouches t u) : txTouches s u :=
  ⟨by rw [h'.1, h.1], fun a ha => (h'.2 a ha).trans (h.2 a ha)⟩

theorem txTouches.ite {c : Prop} {_ : Decidable c} {u : State} (h : txTouches s t) (h' : txTouches s u) :
    txTouches s (if c then t else u) := by
  split
  · exact h
  · exact h'

/-! Each update of what they reach. -/

theorem txTouches.setLane (h : txTouches s t) (n : Nat) (x : LaneX) : txTouches s (t.setLane n x) := h.trans ⟨rfl, fun _ _ => rfl⟩

theorem txTouches.setQuad (h : txTouches s t) (q : Nat) (x : QuadX) : txTouches s (t.setQuad q x) := h.trans ⟨rfl, fun _ _ => rfl⟩

theorem txTouches.setPort (h : txTouches s t) (q : Nat) (x : PortX) : txTouches s (t.setPort q x) := h.trans ⟨rfl, fun _ _ => rfl⟩

theorem txTouches.emit (h : txTouches s t) (o : Output) : txTouches s (t.emit o) := h.trans ⟨rfl, fun _ _ => rfl⟩

theorem txTouches.cnt (h : txTouches s t) {a : Nat} (ha : prbsCounters a) : txTouches s (t.cnt a) :=
  h.trans ⟨rfl, fun _ hb => rd_cnt_ne fun hba => hb (hba ▸ ha)⟩

/-! Each part of a transmitter, in the shape of its definition. -/

theorem txTouches.prbsCheck (h : txTouches s t) (n : Nat) (b : Bool) : txTouches s (t.prbsCheck n b) :=
  (h.setLane _ _).ite (when_keeps _ (when_keeps _ (h.setLane _ _) (·.cnt ⟨n, .inl rfl⟩)) (·.cnt ⟨n, .inr rfl⟩))

/-- A lane in TEST: its checker takes the bits, or they are sent again. -/
theorem txTouches.laneTestRx (h : txTouches s t) (n : Nat) (w : BitVec 66) : txTouches s (t.laneTestRx n w) :=
  when_keeps _ (f := (·.emit (.block n w))) ((foldl_keeps (fun _ i hu => hu.prbsCheck n (w.getLsbD i)) _ _ h).ite h) (·.emit _)

theorem txTouches.driveBits (h : txTouches s t) (n : Nat) (w : BitVec 66) : txTouches s (t.driveBits n w) :=
  (h.laneTestRx n w).ite (h.ite (h.emit _))

theorem txTouches.sendBlock (h : txTouches s t) (n : Nat) (hdr : BitVec 2) (p : BitVec 64) : txTouches s (t.sendBlock n hdr p) :=
  (h.setLane _ _).ite ((h.setLane _ _).driveBits _ _)

theorem txTouches.sendTrain (h : txTouches s t) (n : Nat) (going : Bool) : txTouches s (t.sendTrain n going) :=
  (h.setLane _ _).sendBlock _ _ _

theorem txTouches.sendPattern (h : txTouches s t) (n : Nat) : txTouches s (t.sendPattern n) :=
  h.ite ((h.setLane _ _).driveBits _ _)

theorem txTouches.lanePeriod (h : txTouches s t) (n : Nat) : txTouches s (t.lanePeriod n) :=
  (h.sendTrain n false).ite ((h.sendPattern n).ite h)

theorem txTouches.sendAlign (h : txTouches s t) (q : Nat) : txTouches s (t.sendAlign q) :=
  h.ite (((h.setPort _ _).emit _).setPort _ _)

theorem txTouches.portBlock (h : txTouches s t) (q k : Nat) (hdr : BitVec 2) (p : BitVec 64) : txTouches s (t.portBlock q k hdr p) :=
  (h.sendBlock _ _ _).ite h

/-- A column: one that waits, or a unit of the stream on each active lane and IDLE on the others. -/
theorem txTouches.portColumn (h : txTouches s t) (q : Nat) : txTouches s (t.portColumn q) := by
  unfold State.portColumn
  generalize hu : (if t.sendsStream q && decide (4096 ≤ (t.port q).colsSince) && !(t.port q).cols.any (·.2)
      then t.sendAlign q else t) = u
  have halign : txTouches s u := hu ▸ (h.sendAlign q).ite h
  dsimp only
  split
  · exact times_keeps (fun _ _ hv => (hv.portBlock _ _ _ _).ite (hv.portBlock _ _ _ _)) 4 _ (halign.setPort _ _)
  · refine times_keeps (fun _ _ hv => ite ?_ (hv.portBlock _ _ _ _)) 4 _ (halign.setPort _ _)
    split
    · exact (hv.setPort _ _).portBlock _ _ _ _
    · exact hv.portBlock _ _ _ _

theorem txTouches.quadPeriod (h : txTouches s t) (q : Nat) : txTouches s (t.quadPeriod q) :=
  (times_keeps (fun p _ hu => hu.lanePeriod (4 * q + p)) 4 t h).portColumn q

/-- A quad without its clock sends nothing. -/
theorem quadTick_of_unlocked {q : Nat} (h : s.on (R.LANE_QUAD_STAT q) F.LANE_QUAD_STAT_PLL_LOCK = false) : s.quadTick q = s :=
  if_pos (by simp [h])

theorem txTouches.quadTick (h : txTouches s t) (q : Nat) : txTouches s (t.quadTick q) :=
  h.ite (times_keeps (fun _ _ hu => hu.quadPeriod q) _ _ (h.setQuad _ _))

theorem txTouches_linkTick (s : State) : txTouches s s.linkTick :=
  foldl_keeps (fun _ e hu => hu.quadTick e.1) s.quads s (.refl s)

/-- Without a locked quad the transmitters stand. -/
theorem linkTick_of_unlocked (h : ∀ e ∈ s.quads, s.on (R.LANE_QUAD_STAT e.1) F.LANE_QUAD_STAT_PLL_LOCK = false) : s.linkTick = s := by
  have stands (l : SMap QuadX) (hl : ∀ e ∈ l, s.on (R.LANE_QUAD_STAT e.1) F.LANE_QUAD_STAT_PLL_LOCK = false) :
      l.foldl (fun s e => s.quadTick e.1) s = s := by
    induction l with
    | nil => rfl
    | cons e l ih =>
      rw [List.foldl_cons, quadTick_of_unlocked (hl e List.mem_cons_self)]
      exact ih fun e' he => hl e' (List.mem_cons_of_mem e he)
  exact stands s.quads h

/-- The wrapper of the main domain leaves what the transmitters do. -/
theorem txTouches.keepIsland (h : txTouches s t) : t.keepIsland s = t := by rw [h.1]; rfl

/-! A cycle of CLK_TIME (R36, R338, R367, R433). -/

/-- The clock and the time base have gone on by one cycle. -/
def State.timeTick (s : State) : State := { s with cyc := s.cyc + 1, time := s.time.tick (s.rdI R.PTP_SLEW_LEFT) }

/-- In reset of the main domain the clock alone goes on. -/
theorem clockTick_of_reset (h : s.mainReset = true) : s.clockTick = { s with cyc := s.cyc + 1 } := by
  simp only [State.clockTick, h, if_true]

/-- Out of reset the time base goes on, then the transmitters send. -/
theorem clockTick_of_running (h : s.mainReset = false) : s.clockTick = s.timeTick.linkTick := by
  have htick : s.clockTick = s.timeTick.linkTick.keepIsland s.timeTick := by
    simp only [State.clockTick, State.timeTick, h, Bool.false_eq_true, if_false]
  exact htick.trans (txTouches_linkTick _).keepIsland

/-- The time base after a cycle out of reset. -/
theorem clockTick_time (h : s.mainReset = false) : s.clockTick.time = s.time.tick (s.rdI R.PTP_SLEW_LEFT) := by
  rw [clockTick_of_running h, (txTouches_linkTick s.timeTick).1]
  rfl

/-- With no slew left network time takes the increment alone (R338, R347). -/
theorem TimeBase.tick_nt_of_no_slew (b : TimeBase) : (b.tick 0).nt = b.nt + b.incr := by simp [TimeBase.tick]

/-! A write of LANE_FFE (R44). -/

/-- The main tap of an FFE word is at least 24 where the two others take at most 39 of the 63 (R44). -/
theorem mainTap_lt_iff (v : Word) : mainTap v < 24 ↔ 39 < F.LANE_LANE_FFE_C_PRE.get v + F.LANE_LANE_FFE_C_POST.get v := by
  unfold mainTap
  omega

theorem mainTap_toNat (v : Word) :
    (mainTap v).toNat = 63 - F.LANE_LANE_FFE_C_PRE.get v - F.LANE_LANE_FFE_C_POST.get v := by
  unfold mainTap
  omega

/-- A refused word raises FFE_BAD (R44). -/
theorem laneFfeWrite_of_refused {n : Nat} {v : Word} (h : mainTap v < 24) :
    laneFfeWrite n v s = s.raise (R.LANE_LANE_ERR n) 4 (siteLane n) := if_pos h

/-- An accepted word is stored, and on a lane that is up or listens MAIN_TAP follows it (R44). -/
theorem laneFfeWrite_of_accepted {n : Nat} {v : Word} (h : ¬ mainTap v < 24) :
    laneFfeWrite n v s = (s.wr (R.LANE_LANE_FFE n) (v &&& 0x1f0f)).when ((s.lane n).up || (s.lane n).listen)
      (·.sf (R.LANE_LANE_STAT n) F.LANE_LANE_STAT_MAIN_TAP (mainTap v).toNat) := if_neg h

/-- No register of a lane tells a byte's place. -/
theorem not_placesBytes_of_lane {n : Nat} : ∀ a ∈ [R.LANE_LANE_FFE n, R.LANE_LANE_STAT n, R.LANE_LANE_ERR n], ¬ placesBytes a := by
  simp only [placesBytes, R.MC_RES_BASE, R.MC_MIG_PTR, R.LANE_LANE_FFE, R.LANE_LANE_STAT, R.LANE_LANE_ERR, List.mem_cons, List.not_mem_nil,
    or_false]
  rintro a (rfl | rfl | rfl) (h | ⟨m, h⟩) <;> omega

/-! The commands that write a status bit. -/

/-- A command of the main domain that writes registers only answers its effect as it is. -/
theorem onMain_of_evTouches {n k : Nat} {l : List Nat} {f : State → State} (hm : s.mainReset = false) (hn : n < k)
    (h : evTouches s (f s) l) : onMain (n < k) s f = .next (f s) := by
  rw [onMain_unit f hm hn, h.keepIsland]

/-- A command that writes one field. -/
theorem onMain_sf {n k : Nat} (a : Nat) (f : Fld) (v : Nat) (hm : s.mainReset = false) (hn : n < k) :
    onMain (n < k) s (·.sf a f v) = .next (s.sf a f v) := onMain_of_evTouches hm hn (evTouches_sf s a f v)

/-- PROBE_STAT takes both bits of DRIFT_PROBE (R150). -/
theorem evTouches_driftProbe (s : State) (v : Nat) : evTouches s (driftProbe v s) [R.DRIFT_PROBE_STAT v] :=
  (evTouches_sf s _ _ _).trans (evTouches_sf _ _ _ _)

/-- Where no index event that resets the position stands in the cycle, ARM_INDEX arms (R261, R262). -/
theorem armIndex_of_no_reset {n : Nat} (h : (s.fbMeet n (s.fbNow n)).idx = false ∨ s.on (R.FB_CTL n) F.FB_CTL_IDX_MODE = false) :
    armIndex n s = s.sf (R.FB_STAT n) F.FB_STAT_IDX_ARMED 1 := by
  refine if_neg ?_
  obtain h | h := h <;> simp [h]

/-! The statements. -/

/-- Settles O33: an accepted word reaches its register and the lane's MAIN_TAP, a refused one raises FFE_BAD. -/
theorem ffeWriteTakesOnlyAMainTapOf24OrMore : Obligations.FfeWriteTakesOnlyAMainTapOf24OrMore := by
  intro s n v hn hm
  have hplace := not_placesBytes_of_lane (n := n)
  refine ⟨(laneFfeWrite n v s).keepIsland s, onMain_unit (laneFfeWrite n v) hm hn, fun hle => ?accepted, fun hgt => ?refused⟩
  case accepted =>
    have hne : R.LANE_LANE_FFE n ≠ R.LANE_LANE_STAT n := by simp only [R.LANE_LANE_FFE, R.LANE_LANE_STAT]; omega
    have hword : regFrame s (s.wr (R.LANE_LANE_FFE n) (v &&& 0x1f0f)) [R.LANE_LANE_FFE n, R.LANE_LANE_STAT n] :=
      (regFrame.refl s _).wr _ (by simp) (hplace _ (by simp))
    rw [laneFfeWrite_of_accepted ((mainTap_lt_iff v).not.mpr (by omega)), ← mainTap_toNat]
    cases hpow : (s.lane n).up || (s.lane n).listen with
    | true =>
      have hboth := hword.sf (a := R.LANE_LANE_STAT n) F.LANE_LANE_STAT_MAIN_TAP (mainTap v).toNat (by simp) (hplace _ (by simp))
      rw [State.when_true, hboth.keepIsland]
      refine ⟨(rd_sf_ne _ _ hne).trans (rd_wr_same _ _ _), hboth, fun _ => ?_, fun hup hlis => ?_⟩
      · rw [State.sf, rd_wr_same, rd_wr_ne _ _ hne.symm]
      · simp [hup, hlis] at hpow
    | false =>
      rw [State.when_false, hword.keepIsland]
      refine ⟨rd_wr_same _ _ _, hword, fun h => ?_, fun _ _ => rd_wr_ne _ _ hne.symm⟩
      obtain h | h := h <;> simp [h] at hpow
  case refused =>
    rw [laneFfeWrite_of_refused ((mainTap_lt_iff v).mpr hgt), (evTouches_raise s _ _ _).keepIsland]
    refine raisesOnly_raise ?_ ?_ ?_ (hplace _ (by simp))
    all_goals simp only [siteLane, R.LANE_LANE_ERR]; omega

/-- Settles O2: in reset the clock alone goes on; out of reset the time base ticks, and `txTouches` bounds what the transmitters then reach. -/
theorem idleStepIsOneTickOfNetworkTime : Obligations.IdleStepIsOneTickOfNetworkTime := by
  intro s hidle
  refine ⟨s.clockTick, by simp only [step, hidle], ?_⟩
  obtain hm | hm := Bool.eq_false_or_eq_true s.mainReset
  · have running : s.mainReset ≠ false := by simp [hm]
    rw [clockTick_of_reset hm]
    exact ⟨rfl, fun _ _ => rfl, fun _ => rfl, fun h => absurd h running, fun h => absurd h running, fun h => absurd h running⟩
  · have htime := clockTick_time hm
    obtain ⟨hstate, hregs⟩ := txTouches_linkTick s.timeTick
    rw [← clockTick_of_running hm] at hstate hregs
    refine ⟨?frame, ?regs, fun h => absurd (hm.symm.trans h) nofun, fun _ => by rw [htime]; rfl, fun _ hslew => ?nt,
      fun _ hunlocked => ?still⟩
    case frame => rw [htime]; exact hstate
    case regs => exact fun a ha => hregs a fun ⟨n, hn⟩ => hn.elim (ha n).1 (ha n).2
    case nt =>
      have hleft : s.rdI R.PTP_SLEW_LEFT = 0 := by simp [State.rdI, hslew]
      rw [htime, hleft, TimeBase.tick_nt_of_no_slew]
    case still =>
      rw [clockTick_of_running hm, linkTick_of_unlocked (s := s.timeTick) hunlocked]
      rfl

/-- Settles O37: each command is its effect in the wrapper of the main domain, which a write of a register passes unchanged. -/
theorem requestCommandsSetTheirBits : Obligations.RequestCommandsSetTheirBits := by
  intro s hm
  exact ⟨fun n hn => onMain_sf _ _ _ hm hn, fun n hn => onMain_sf _ _ _ hm hn, fun v hv => onMain_sf _ _ _ hm hv,
    fun v hv => onMain_sf _ _ _ hm hv, fun v hv => onMain_unit (driftSeed v) hm hv,
    fun v hv => onMain_of_evTouches hm hv (evTouches_driftProbe s v),
    onMain_run swapRules rfl hm, onMain_run swapFt rfl hm,
    fun n hn hidx => (onMain_unit (armIndex n) hm hn).trans (by rw [armIndex_of_no_reset hidx]; rfl),
    fun n hn => onMain_sf _ _ _ hm hn, onMain_run invalidate rfl hm, fun e he => onMain_sf _ _ _ hm he⟩

end Sys2Proof.Machine
end

section
/-! What a control block that the port drops leaves (R64, R96); then the statements of 03_aelore.md. -/

namespace Sys2Proof.Machine

variable {s : State}

/-! Registers away from an error. -/

/-- A register outside the span of the error record and the event fabric is changed by an error in its own register only. -/
theorem not_mem_errorRegs {a b : Nat} {e : Site} (hblk : e.blk < 32) (hsrc : e.src < 1280) (hne : b ≠ a)
    (hb : b < 0x42200000 ∨ 0x44003c10 ≤ b) : b ∉ errorRegs a e := by
  rw [errorRegs, List.mem_cons, not_or]
  refine ⟨hne, fun h => ?_⟩
  have := mem_recordRegs_append_eventRegs_bounds hblk hsrc h
  omega

/-- The registers that tell a byte's place lie outside that span. -/
theorem outside_errorSpan_of_placesBytes {b : Nat} (h : placesBytes b) : b < 0x42200000 ∨ 0x44003c10 ≤ b := by
  simp only [placesBytes, R.MC_RES_BASE, R.MC_MIG_PTR] at h
  obtain h | ⟨m, h⟩ := h <;> omega

/-! A dropped control block (R64). -/

/-- The error record can name a port. -/
theorem sitePort_bounds {q : Nat} (hq : q < 32) : (sitePort q).blk < 32 ∧ (sitePort q).src < 1280 := by
  simp only [sitePort]
  omega

/-- Neither DROP_PKT nor PORT_ERR tells a byte's place. -/
theorem ne_dropPkt_portErr_of_placesBytes {b : Nat} (q : Nat) (h : placesBytes b) : b ≠ R.ACT_DROP_PKT q ∧ b ≠ R.ACT_PORT_ERR q := by
  simp only [placesBytes, R.MC_RES_BASE, R.MC_MIG_PTR] at h
  simp only [R.ACT_DROP_PKT, R.ACT_PORT_ERR]
  obtain h | ⟨m, h⟩ := h <;> omega

theorem dropPkt_ne_portErr (q : Nat) : R.ACT_DROP_PKT q ≠ R.ACT_PORT_ERR q := by
  simp only [R.ACT_DROP_PKT, R.ACT_PORT_ERR]
  omega

theorem evTouches_badCtrl (s : State) (q : Nat) :
    evTouches s (s.badCtrl q) (R.ACT_DROP_PKT q :: errorRegs (R.ACT_PORT_ERR q) (sitePort q)) :=
  ((evTouches_refl s _).cnt List.mem_cons_self).trans ((evTouches_raise _ _ _ _).mono (List.subset_cons_self _ _))

/-- The count of dropped packets is not reached by the error that follows it. -/
theorem rdN_badCtrl_dropPkt {q : Nat} (hq : q < 32) :
    (s.badCtrl q).rdN (R.ACT_DROP_PKT q) = min 0xffffffff (s.rdN (R.ACT_DROP_PKT q) + 1) := by
  obtain ⟨hblk, hsrc⟩ := sitePort_bounds hq
  have hkept : (s.badCtrl q).rd (R.ACT_DROP_PKT q) = (s.cnt (R.ACT_DROP_PKT q)).rd (R.ACT_DROP_PKT q) :=
    (evTouches_raise _ _ _ _).2 _
      (not_mem_errorRegs hblk hsrc (dropPkt_ne_portErr q) (.inr (by simp only [R.ACT_DROP_PKT]; omega)))
  rw [State.rdN, hkept]
  exact rdN_cnt_same _

/-- PORT_ERR takes BAD_CTRL beside the bits it holds. -/
theorem rd_badCtrl_portErr {q : Nat} (hq : q < 32) :
    (s.badCtrl q).rd (R.ACT_PORT_ERR q) = (bit 17).put (s.rd (R.ACT_PORT_ERR q)) 1 := by
  obtain ⟨hblk, hsrc⟩ := sitePort_bounds hq
  have hown : R.ACT_PORT_ERR q ∉ recordRegs (sitePort q) ++ eventRegs (sitePort q).src := fun h => by
    have := mem_recordRegs_append_eventRegs_bounds hblk hsrc h
    simp only [R.ACT_PORT_ERR] at this
    omega
  rw [State.badCtrl, State.portErr, rd_raise_same hown, rd_cnt_ne (dropPkt_ne_portErr q).symm]

theorem evFrame_badCtrl {q : Nat} (hq : q < 32) :
    evFrame s (s.badCtrl q) (R.ACT_DROP_PKT q :: errorRegs (R.ACT_PORT_ERR q) (sitePort q)) := by
  obtain ⟨hblk, hsrc⟩ := sitePort_bounds hq
  have hplace {b : Nat} (hb : placesBytes b) : b ∉ R.ACT_DROP_PKT q :: errorRegs (R.ACT_PORT_ERR q) (sitePort q) := by
    obtain ⟨hdrop, herr⟩ := ne_dropPkt_portErr_of_placesBytes q hb
    rw [List.mem_cons, not_or]
    exact ⟨hdrop, not_mem_errorRegs hblk hsrc herr (outside_errorSpan_of_placesBytes hb)⟩
  exact (evTouches_badCtrl s q).evFrame (hplace (.inl rfl)) fun m => hplace (.inr ⟨m, rfl⟩)

/-- A port at either end drops a control block whose type no layer owns (R64). -/
theorem unknownCtrlBlockRx_of_unowned {q : Nat} {y : BitVec 8} (hrole : s.role q = 1 ∨ s.role q = 2)
    (hy : y ≠ 0xd2 ∧ y ≠ 0x1e ∧ y ≠ 0x4b ∧ y ≠ 0x55 ∧ y ≠ 0x66) : unknownCtrlBlockRx q y s = s.badCtrl q := by
  refine if_pos ?_
  simpa only [Bool.and_eq_true, Bool.or_eq_true, Bool.not_eq_true', Bool.or_eq_false_iff, beq_iff_eq, beq_eq_false_iff_ne, and_assoc]
    using And.intro hrole hy

/-! The statements. -/

/-- Settles O34: the block counts in DROP_PKT, then raises BAD_CTRL, and the two do not reach each other's register. -/
theorem unknownControlBlocksAreDroppedAndCounted : Obligations.UnknownControlBlocksAreDroppedAndCounted := by
  intro s q y hq hm hrole hTrain hIdle hAlign hTrigger hStripe
  have heffect := unknownCtrlBlockRx_of_unowned hrole ⟨hTrain, hIdle, hAlign, hTrigger, hStripe⟩
  have htouch : evTouches s (unknownCtrlBlockRx q y s) _ := heffect ▸ evTouches_badCtrl s q
  refine ⟨_, onMain_of_evTouches hm hq htouch, ?_⟩
  rw [heffect]
  exact ⟨rdN_badCtrl_dropPkt hq, rd_badCtrl_portErr hq, evFrame_badCtrl hq⟩

/-- Settles O12: each command is its effect in the wrapper of the main domain, which a quad below 32 and a stream below 4 pass. -/
theorem everyPortCommandCompletes : Obligations.EveryPortCommandCompletes := by
  intro s hm
  have port {q : Nat} (f : State → State) : q < 32 → onMain (q < 32) s f = .next ((f s).keepIsland s) := onMain_unit f hm
  exact ⟨fun q => port (linkWaitExpiry q), fun q mask skewNs => port (stripeAckRx q mask skewNs),
    fun q mask seq atFrame skewNs => port (stripeReqRx q mask seq atFrame skewNs),
    fun q mask seq logs skewNs => port (alignRx q mask seq logs skewNs),
    fun q => port (alignSend q), fun q => port (restripeTimeout q), fun q offset => port (triggerSend q offset),
    fun q => port (triggerRx q), fun q part => port (idleUnitRx q part), fun q type => port (unknownCtrlBlockRx q type),
    fun q p => port (frameStartRx q p), fun q p => port (frameEndRx q p), fun q p => port (lineStartRx q p),
    fun q p => port (lineEndRx q p), fun q p => port (pixelPacketRx q p), fun q p => port (ringPacketRx q p),
    fun q p => port (ctrlRespRx q p), fun q p => port (setAckRx q p), fun q p => port (nullPacketRx q p),
    fun q p => port (badPacketRx q p), fun q p => port (hostRequestRx q p), fun q p => port (ctrlWriteRx q p),
    fun q p => port (ctrlReadRx q p), fun q p => port (setTaggedRx q p), fun q desc => port (ctrlTimeout q desc),
    fun q => port (portStart q), fun q => port (portStop q), fun q => port (portResetLink q), fun q => port (portRediscover q),
    fun q => port (portLaneLost q), fun q => port (portLaneReturn q), fun q => port (allLanesLost q), fun q => port (bcGo q),
    fun q => port (tsGo q), fun q v hq hv => onMain_run (streamOutSend q v) (by simp [hq, hv]) hm⟩

end Sys2Proof.Machine
end

section
/-! What a command that reaches one front end leaves (R109), and its correction table; then the statements of 04_line_front_ends.md. -/

namespace Sys2Proof.Machine

variable {s t u : State} {n : Nat} {l : List Nat}

/-! A front end's own state. -/

@[simp] theorem fe_setFe_same (s : State) (n : Nat) (x : FeX) : (s.setFe n x).fe n = x := by simp [State.fe, State.setFe]

theorem fe_setFe_ne {m : Nat} (x : FeX) (h : m ≠ n) : (s.setFe n x).fe m = s.fe m := SMap.get_set_ne _ _ _ h

@[simp] theorem rd_setFe (s : State) (n : Nat) (x : FeX) (a : Nat) : (s.setFe n x).rd a = s.rd a := rfl

@[simp] theorem fe_wr (s : State) (a : Nat) (v : Word) (n : Nat) : (s.wr a v).fe n = s.fe n := rfl

@[simp] theorem fe_sf (s : State) (a : Nat) (f : Fld) (v n : Nat) : (s.sf a f v).fe n = s.fe n := rfl

/-- A mark on the frame's statistics leaves the table. -/
@[simp] theorem tab_feStatMod (s : State) (n fo : Nat) (f : FeStat → FeStat) : ((s.feStatMod n fo f).fe n).tab = (s.fe n).tab := by
  simp [State.feStatMod]

/-- Only front end `n` and the listed registers differ. -/
def feTouches (s t : State) (n : Nat) (l : List Nat) : Prop :=
  (∀ m, m ≠ n → t.fe m = s.fe m) ∧ t = { s with regs := t.regs, fes := t.fes } ∧ readsKept s t l

theorem feTouches.refl (s : State) (n : Nat) (l : List Nat) : feTouches s s n l := ⟨fun _ _ => rfl, rfl, fun _ _ => rfl, fun _ => rfl⟩

theorem feTouches.trans (h : feTouches s t n l) (h' : feTouches t u n l) : feTouches s u n l := by
  obtain ⟨hfe, hstate, hregs, hmem⟩ := h
  obtain ⟨hfe', hstate', hregs', hmem'⟩ := h'
  exact ⟨fun m hm => (hfe' m hm).trans (hfe m hm), by rw [hstate', hstate], fun a ha => (hregs' a ha).trans (hregs a ha),
    fun a => (hmem' a).trans (hmem a)⟩

theorem feTouches.setFe (h : feTouches s t n l) (x : FeX) : feTouches s (t.setFe n x) n l :=
  h.trans ⟨fun _ hm => fe_setFe_ne x hm, rfl, fun _ _ => rfl, fun _ => rfl⟩

theorem feTouches.feStatMod (h : feTouches s t n l) (fo : Nat) (f : FeStat → FeStat) : feTouches s (t.feStatMod n fo f) n l := h.setFe _

theorem feTouches.wr (h : feTouches s t n l) {a : Nat} (v : Word) (ha : a ∈ l) (hplace : ¬ placesBytes a) :
    feTouches s (t.wr a v) n l :=
  h.trans ⟨fun _ _ => rfl, rfl, ((regFrame.refl t l).wr v ha hplace).2⟩

theorem feTouches.sf (h : feTouches s t n l) {a : Nat} (f : Fld) (v : Nat) (ha : a ∈ l) (hplace : ¬ placesBytes a) :
    feTouches s (t.sf a f v) n l := h.wr _ ha hplace

/-- A command of the main domain that reaches one front end only answers its effect as it is. -/
theorem onMain_of_feTouches {k : Nat} {f : State → State} (hm : s.mainReset = false) (hn : n < k) (h : feTouches s (f s) n l) :
    onMain (n < k) s f = .next (f s) := by
  obtain ⟨-, hstate, -⟩ := h
  rw [onMain_unit f hm hn, hstate]
  rfl

/-- No register of the table or of a front end's commands and errors tells a byte's place. -/
theorem not_placesBytes_of_fe (n : Nat) : ∀ a ∈ [R.FE_TAB_ADDR n, R.FE_FE_CMD n, R.FE_FE_STAT n, R.FE_FE_ERR n], ¬ placesBytes a := by
  simp only [placesBytes, R.MC_RES_BASE, R.MC_MIG_PTR, R.FE_TAB_ADDR, R.FE_FE_CMD, R.FE_FE_STAT, R.FE_FE_ERR, List.mem_cons,
    List.not_mem_nil, or_false]
  rintro a (rfl | rfl | rfl | rfl) (h | ⟨m, h⟩) <;> omega

theorem evTouches_feErr (s : State) (n b : Nat) : evTouches s (s.feErr n b) (errorRegs (R.FE_FE_ERR n) (siteFe n)) :=
  evTouches_raise s _ _ _

/-- An error of a front end changes what an error does and no more. -/
theorem raisesOnly_feErr (s : State) (hn : n < 24) (b : Nat) : raisesOnly s (s.feErr n b) (R.FE_FE_ERR n) b (siteFe n) :=
  raisesOnly_raise (by simp only [siteFe]; omega) (by simp only [siteFe]; omega) (.inr (by simp only [R.FE_FE_ERR]; omega))
    (not_placesBytes_of_fe n _ (by simp))

/-! A write of TAB_DATA (R109, R110). -/

/-- During a fill it raises CFG_ERR. -/
theorem tabDataWrite_of_filling (v : Word) (h : (s.fe n).initDone = false) :
    tabDataWrite n v s = s.feErr n 0 := if_pos (by simp [h])

/-- The table holds `v` where TAB_ADDR pointed, and TAB_ADDR has stepped. -/
def tabStored (s t : State) (n : Nat) (v : Word) : Prop :=
  (∀ a, SMap.get (fun _ => 0x4000) (t.fe n).tab a
    = if a = s.gf (R.FE_TAB_ADDR n) ⟨0, 16⟩ then v else SMap.get (fun _ => 0x4000) (s.fe n).tab a) ∧
  t.rdN (R.FE_TAB_ADDR n) = (s.gf (R.FE_TAB_ADDR n) ⟨0, 16⟩ + 1) % 65536 ∧ feTouches s t n [R.FE_TAB_ADDR n]

/-- A mark on the frame's statistics keeps that. -/
theorem tabStored.feStatMod {v : Word} (h : tabStored s t n v) (fo : Nat) (f : FeStat → FeStat) :
    tabStored s (t.feStatMod n fo f) n v := by
  obtain ⟨htab, haddr, htouch⟩ := h
  exact ⟨fun a => by rw [tab_feStatMod, htab], haddr, htouch.feStatMod fo f⟩

/-- With no fill running the entry is stored; TAB_WRITTEN on the frame at hand follows. -/
theorem tabStored_tabDataWrite (v : Word) (h : (s.fe n).initDone = true) : tabStored s (tabDataWrite n v s) n v := by
  rw [tabDataWrite, if_neg (by simp [h])]
  refine when_keeps (P := fun t => tabStored s t n v) _ ⟨fun a => ?entry, ?addr, ?touches⟩ fun hstored => hstored.feStatMod _ _
  case entry => simp [State.wrN, SMap.get_set]
  case addr =>
    simp only [State.rdN, State.wrN, rd_wr_same, BitVec.toNat_ofNat]
    omega
  case touches => exact ((feTouches.refl s n _).setFe _).wr _ (by simp) (not_placesBytes_of_fe n _ (by simp))

/-! A fill of the table (R109). -/

theorem feCmd_ne_feStat (n : Nat) : R.FE_FE_CMD n ≠ R.FE_FE_STAT n := by
  simp only [R.FE_FE_CMD, R.FE_FE_STAT]
  omega

/-- What the start and the end of a fill both write: the front end's state, the command bit and TAB_READY. -/
def State.tabFill (s : State) (n : Nat) (x : FeX) (cmd ready : Nat) : State :=
  ((s.setFe n x).sf (R.FE_FE_CMD n) F.FE_FE_CMD_TAB_INIT cmd).sf (R.FE_FE_STAT n) F.FE_FE_STAT_TAB_READY ready

theorem tabInit_eq_tabFill (n : Nat) (s : State) : tabInit n s = s.tabFill n { s.fe n with initDone := false } 1 0 := rfl

/-- The end of a fill that runs leaves no entry stored: each holds the filled value. -/
theorem tabInitDone_of_filling (h : (s.fe n).initDone = false) :
    tabInitDone n s = s.tabFill n { s.fe n with initDone := true, tab := [] } 0 1 := if_neg (by simp [h])

section
variable (x : FeX) (cmd ready : Nat)

@[simp] theorem fe_tabFill : (s.tabFill n x cmd ready).fe n = x := by simp [State.tabFill]

theorem rd_tabFill_cmd : (s.tabFill n x cmd ready).rd (R.FE_FE_CMD n) = F.FE_FE_CMD_TAB_INIT.put (s.rd (R.FE_FE_CMD n)) cmd := by
  rw [State.tabFill, rd_sf_ne _ _ (feCmd_ne_feStat n), State.sf, rd_wr_same, rd_setFe]

theorem rd_tabFill_stat : (s.tabFill n x cmd ready).rd (R.FE_FE_STAT n) = F.FE_FE_STAT_TAB_READY.put (s.rd (R.FE_FE_STAT n)) ready := by
  rw [State.tabFill, State.sf, rd_wr_same, rd_sf_ne _ _ (feCmd_ne_feStat n).symm, rd_setFe]

theorem feTouches_tabFill : feTouches s (s.tabFill n x cmd ready) n [R.FE_FE_CMD n, R.FE_FE_STAT n] :=
  (((feTouches.refl s n _).setFe x).sf _ _ (by simp) (not_placesBytes_of_fe n _ (by simp))).sf _ _ (by simp)
    (not_placesBytes_of_fe n _ (by simp))

end

/-! The statements. -/

/-- Settles O35: a write stores the entry or raises CFG_ERR, and both ends of a fill are a `tabFill`, the last with an empty table. -/
theorem correctionTableWritesAndInitialisation : Obligations.CorrectionTableWritesAndInitialisation := by
  intro s n hn hm
  refine ⟨fun v hdone => ?stored, fun v hfill => ?ignored, ?started, fun hfill => ?filled⟩
  case stored =>
    obtain ⟨htab, haddr, htouch⟩ := tabStored_tabDataWrite v hdone
    exact ⟨tabDataWrite n v s, onMain_of_feTouches hm hn htouch, fun a _ => htab a, haddr, htouch⟩
  case ignored =>
    have heffect := tabDataWrite_of_filling v hfill
    exact ⟨tabDataWrite n v s, onMain_of_evTouches hm hn (heffect ▸ evTouches_feErr s n 0), heffect ▸ raisesOnly_feErr s hn 0⟩
  case started =>
    have htouch : feTouches s (tabInit n s) n _ := feTouches_tabFill _ 1 0
    refine ⟨tabInit n s, onMain_of_feTouches hm hn htouch, ?_, rd_tabFill_cmd _ 1 0, rd_tabFill_stat _ 1 0, htouch⟩
    rw [tabInit_eq_tabFill, fe_tabFill]
  case filled =>
    have heffect := tabInitDone_of_filling hfill
    have htouch : feTouches s (tabInitDone n s) n _ := heffect ▸ feTouches_tabFill _ 0 1
    refine ⟨tabInitDone n s, onMain_of_feTouches hm hn htouch, ?_⟩
    rw [heffect] at htouch ⊢
    exact ⟨fun a => by rw [fe_tabFill]; rfl, rd_tabFill_cmd _ 0 1, rd_tabFill_stat _ 0 1, htouch⟩

/-- Settles O13: each command is its effect in the wrapper of the main domain, which a front end below 24, a quad below 32 and a view
below 4 pass. -/
theorem everyFrontEndCommandCompletes : Obligations.EveryFrontEndCommandCompletes := by
  intro s hm
  have fe {n : Nat} (f : State → State) : n < 24 → onMain (n < 24) s f = .next ((f s).keepIsland s) := onMain_unit f hm
  exact ⟨fun n => fe (feApply n), fun n => fe (feSwitchNext n), fun n => fe (tabInit n), fun n => fe (tabInitDone n),
    fun n v => fe (tabDataWrite n v), fun n v => fe (feCtlWrite n v), fun n => fe (feFrameStart n), fun n => fe (feLineStart n),
    fun n count => fe (fePixelPacket n count), fun n => fe (feLineEnd n), fun n => fe (feFrameEnd n), fun n => fe (lineTimeout n),
    fun n => fe (windowWaitTimeout n), fun n => fe (feLineOut n), fun n => fe (statRecordWrite n),
    fun n q v hn hq hv => onMain_run (statOutHoldExpiry n q v) (by simp [hn, hq, hv]) hm⟩

end Sys2Proof.Machine
end

section
/-! What a write of the stitch table leaves (R140): the entry, TAB_ADDR and the marks on the views that read the entry; then the
statements of 05_stitch_and_drift.md. -/

namespace Sys2Proof.Machine

variable {s t : State} {u w a : Nat}

/-- An invariant that speaks of the index holds at the end of `times` when each of its steps takes it to the next index. -/
theorem times_induction {P : Nat → State → Prop} {f : Nat → State → State} {n : Nat} (h0 : P 0 s)
    (hstep : ∀ i t, i < n → P i t → P (i + 1) (f i t)) : P n (times n f s) := by
  induction n with
  | zero => exact h0
  | succ n ih =>
    rw [times_succ]
    exact hstep n _ (Nat.lt_succ_self n) (ih fun i t hi => hstep i t (Nat.lt_succ_of_lt hi))

/-! The table that a view reads. -/

/-- Which entries a view reads is told by its state, its base in force and TAB_USED. -/
theorem tabLive_congr (hstat : t.rd (R.STITCH_VIEW_STAT w) = s.rd (R.STITCH_VIEW_STAT w))
    (hused : t.rd (R.STITCH_TAB_USED w) = s.rd (R.STITCH_TAB_USED w)) (hbase : (t.view w).tabBase = (s.view w).tabBase) :
    t.tabLive w a = s.tabLive w a := by
  have husedN : t.rdN (R.STITCH_TAB_USED w) = s.rdN (R.STITCH_TAB_USED w) := congrArg BitVec.toNat hused
  rw [State.tabLive, State.tabLive, State.vState, State.vState, gf_congr _ hstat, husedN, hbase]

/-- The registers of the stitch unit that its table commands read lie away from the error record and the event fabric, and none of
them is a view's error register. -/
theorem tabReg_away (u w : Nat) {b : Nat} (hb : b ∈ [R.STITCH_TAB_ADDR, R.STITCH_VIEW_STAT w, R.STITCH_TAB_USED w]) :
    b ≠ R.STITCH_VIEW_ERR u ∧ 0x44003c10 ≤ b := by
  simp only [R.STITCH_TAB_ADDR, R.STITCH_VIEW_STAT, R.STITCH_TAB_USED, R.STITCH_VIEW_ERR, List.mem_cons, List.not_mem_nil, or_false]
    at hb ⊢
  omega

theorem not_placesBytes_tabAddr : ¬ placesBytes R.STITCH_TAB_ADDR := by
  simp only [placesBytes, R.MC_RES_BASE, R.MC_MIG_PTR, R.STITCH_TAB_ADDR]
  rintro (h | ⟨m, h⟩) <;> omega

/-! The mark on a view that reads the entry: TORN for its next row, and LIVE_WRITE. -/

/-- What a write of an entry that view `u` reads does to it. -/
def State.markTorn (s : State) (u : Nat) : State := (s.setView u { s.view u with torn := true }).viewErr u 8

theorem siteView_bounds (hu : u < 4) : (siteView u).blk < 32 ∧ (siteView u).src < 1280 := by
  simp only [siteView]
  omega

theorem markTorn_frame (s : State) (u : Nat) :
    s.markTorn u = { s with regs := (s.markTorn u).regs, views := (s.markTorn u).views, chanIn := (s.markTorn u).chanIn,
                            fixedIn := (s.markTorn u).fixedIn, errAt := (s.markTorn u).errAt } := by
  obtain ⟨hstate, -⟩ := evTouches_raise (s.setView u { s.view u with torn := true }) (R.STITCH_VIEW_ERR u) 8 (siteView u)
  unfold State.markTorn State.viewErr
  rw [hstate]
  rfl

/-- Of the registers away from the error record and the event fabric only the view's error register takes the mark. -/
theorem rd_markTorn_ne (hu : u < 4) {b : Nat} (hne : b ≠ R.STITCH_VIEW_ERR u) (hb : 0x44003c10 ≤ b) : (s.markTorn u).rd b = s.rd b := by
  obtain ⟨hblk, hsrc⟩ := siteView_bounds hu
  exact (evTouches_raise _ _ _ _).2 b (not_mem_errorRegs hblk hsrc hne (.inr hb))

theorem on_markTorn_same (hu : u < 4) : (s.markTorn u).on (R.STITCH_VIEW_ERR u) (bit 8) = true := by
  obtain ⟨hblk, hsrc⟩ := siteView_bounds hu
  have hown : R.STITCH_VIEW_ERR u ∉ recordRegs (siteView u) ++ eventRegs (siteView u).src := fun h => by
    have := mem_recordRegs_append_eventRegs_bounds hblk hsrc h
    simp only [R.STITCH_VIEW_ERR] at this
    omega
  rw [List.mem_append, not_or] at hown
  obtain ⟨hrecord, hevent⟩ := hown
  exact on_raise _ _ 8 _ (by decide) hrecord hevent

/-- The base in force of a view stays. -/
theorem tabBase_view_markTorn (s : State) (u w : Nat) : ((s.markTorn u).view w).tabBase = (s.view w).tabBase := by
  have hviews : (s.markTorn u).views = (s.setView u { s.view u with torn := true }).views := by
    rw [State.markTorn, State.viewErr, (evTouches_raise _ _ _ _).1]
  rw [State.view, hviews, State.setView, SMap.get_set]
  split
  · rename_i hw
    rw [hw]
  · rfl

/-- So every view reads the entries that it read. -/
theorem tabLive_markTorn (hu : u < 4) : (s.markTorn u).tabLive w a = s.tabLive w a := by
  have kept {b : Nat} (hb : b ∈ [R.STITCH_TAB_ADDR, R.STITCH_VIEW_STAT w, R.STITCH_TAB_USED w]) : (s.markTorn u).rd b = s.rd b :=
    rd_markTorn_ne hu (tabReg_away u w hb).1 (tabReg_away u w hb).2
  exact tabLive_congr (kept (by simp)) (kept (by simp)) (tabBase_view_markTorn s u w)

/-! The marks of one write, view by view. -/

/-- State `t` is `s` with the views below `n` that read entry `a` marked. -/
structure TornBelow (s : State) (a n : Nat) (t : State) : Prop where
  frame : t = { s with regs := t.regs, views := t.views, chanIn := t.chanIn, fixedIn := t.fixedIn, errAt := t.errAt }
  tabLive : ∀ w, t.tabLive w a = s.tabLive w a
  tabAddr : t.rd R.STITCH_TAB_ADDR = s.rd R.STITCH_TAB_ADDR
  marked : ∀ u, u < n → s.tabLive u a = true → t.on (R.STITCH_VIEW_ERR u) (bit 8) = true
  stands : (∀ u, u < n → s.tabLive u a = false) → t = s

theorem tornBelow_zero (s : State) (a : Nat) : TornBelow s a 0 s :=
  ⟨rfl, fun _ => rfl, rfl, fun _ hu => absurd hu (Nat.not_lt_zero _), fun _ => rfl⟩

theorem TornBelow.succ {n : Nat} (h : TornBelow s a n t) (hn : n < 4) : TornBelow s a (n + 1) (t.when (t.tabLive n a) (·.markTorn n)) := by
  obtain ⟨hframe, hlive, haddr, hmarked, hstands⟩ := h
  rw [hlive n]
  cases hrun : s.tabLive n a with
  | false =>
    rw [State.when_false]
    refine ⟨hframe, hlive, haddr, fun u hu hview => ?_, fun hnone => hstands fun u hu => hnone u (Nat.lt_succ_of_lt hu)⟩
    obtain hu | rfl := Nat.lt_succ_iff_lt_or_eq.mp hu
    · exact hmarked u hu hview
    · exact absurd (hrun.symm.trans hview) nofun
  | true =>
    rw [State.when_true]
    have htab := tabReg_away n 0 (b := R.STITCH_TAB_ADDR) (by simp)
    refine ⟨by rw [markTorn_frame, hframe], fun w => (tabLive_markTorn hn).trans (hlive w),
      (rd_markTorn_ne hn htab.1 htab.2).trans haddr, fun u hu hview => ?_,
      fun hnone => absurd (hrun.symm.trans (hnone n (Nat.lt_succ_self n))) nofun⟩
    obtain hu | rfl := Nat.lt_succ_iff_lt_or_eq.mp hu
    · have hkept : (t.markTorn n).rd (R.STITCH_VIEW_ERR u) = t.rd (R.STITCH_VIEW_ERR u) :=
        rd_markTorn_ne hn (by simp only [R.STITCH_VIEW_ERR]; omega) (by simp only [R.STITCH_VIEW_ERR]; omega)
      exact (on_congr _ hkept).trans (hmarked u hu hview)
    · exact on_markTorn_same hn

/-! A write of TAB_HI. -/

/-- The entry stored at TAB_ADDR, and TAB_ADDR stepped. -/
def State.tabStore (s : State) (v : Word) : State :=
  { s with stTab := s.stTab.set (fun _ => 0) (s.rdN R.STITCH_TAB_ADDR % 524288) (v.setWidth 8 ++ s.stStage) }.wrN R.STITCH_TAB_ADDR
    ((s.rdN R.STITCH_TAB_ADDR % 524288 + 1) % 524288)

theorem get_stTab_tabStore (s : State) (v : Word) (a : Nat) :
    SMap.get (fun _ => 0) (s.tabStore v).stTab a
      = if a = s.rdN R.STITCH_TAB_ADDR % 524288 then v.extractLsb' 0 8 ++ s.stStage else SMap.get (fun _ => 0) s.stTab a := by
  rw [← BitVec.setWidth_eq_extractLsb' (by decide)]
  exact SMap.get_set _ _ _ _ _

theorem rdN_tabStore_tabAddr (s : State) (v : Word) :
    (s.tabStore v).rdN R.STITCH_TAB_ADDR = (s.rdN R.STITCH_TAB_ADDR % 524288 + 1) % 524288 := by
  simp only [State.tabStore, State.rdN, State.wrN, rd_wr_same, BitVec.toNat_ofNat]
  omega

theorem readsKept_tabStore (s : State) (v : Word) : readsKept s (s.tabStore v) [R.STITCH_TAB_ADDR] :=
  ((regFrame.refl { s with stTab := (s.tabStore v).stTab } _).wr _ List.mem_cons_self not_placesBytes_tabAddr).2

/-- No view reads another table for it. -/
theorem tabLive_tabStore (s : State) (v : Word) (w a : Nat) : (s.tabStore v).tabLive w a = s.tabLive w a := by
  obtain ⟨hregs, -⟩ := readsKept_tabStore s v
  refine tabLive_congr (hregs _ ?_) (hregs _ ?_) rfl
  all_goals
    simp only [R.STITCH_TAB_ADDR, R.STITCH_VIEW_STAT, R.STITCH_TAB_USED, List.mem_singleton]
    omega

/-- The write stores the entry, then marks the views that read it. -/
theorem tornBelow_stitchTabHiWrite (s : State) (v : Word) :
    TornBelow (s.tabStore v) (s.rdN R.STITCH_TAB_ADDR % 524288) 4 (stitchTabHiWrite v s) :=
  times_induction (P := TornBelow (s.tabStore v) _) (tornBelow_zero _ _) fun _ _ hn h => h.succ hn

/-- The wrapper of the main domain leaves what the write did. -/
theorem keepIsland_stitchTabHiWrite (s : State) (v : Word) : (stitchTabHiWrite v s).keepIsland s = stitchTabHiWrite v s := by
  rw [(tornBelow_stitchTabHiWrite s v).frame]
  rfl

/-! The statements. -/

/-- Settles O36: a write of TAB_HI is `tabStore` and then the marks, which reach neither the pool nor TAB_ADDR nor what a view reads. -/
theorem stitchTableWritesStageAndStore : Obligations.StitchTableWritesStageAndStore := by
  intro s hm
  refine ⟨fun v => onMain_run (stitchTabLoWrite v) rfl hm, fun v => ⟨stitchTabHiWrite v s, ?_⟩⟩
  have hexec : exec (.stitchTabHiWrite v) s = .next ((stitchTabHiWrite v s).keepIsland s) := onMain_run (stitchTabHiWrite v) rfl hm
  rw [keepIsland_stitchTabHiWrite] at hexec
  obtain ⟨hframe, -, haddr, hmarked, hstands⟩ := tornBelow_stitchTabHiWrite s v
  simp only [tabLive_tabStore] at hmarked hstands
  have htab : (stitchTabHiWrite v s).stTab = (s.tabStore v).stTab := by rw [hframe]
  refine ⟨hexec, fun a => ?entry, ?addr, hmarked, fun hnone => ?unread⟩
  case entry => rw [htab, get_stTab_tabStore]
  case addr => rw [State.rdN, haddr, ← State.rdN, rdN_tabStore_tabAddr]
  case unread =>
    rw [hstands hnone]
    exact ⟨rfl, readsKept_tabStore s v⟩

/-- Settles O14: each command is its effect in the wrapper of the main domain, which a front end below 24 and a view below 4 pass. -/
theorem everyStitchCommandCompletes : Obligations.EveryStitchCommandCompletes := by
  intro s hm
  have view {v : Nat} (f : State → State) : v < 4 → onMain (v < 4) s f = .next ((f s).keepIsland s) := onMain_unit f hm
  exact ⟨fun v => view (viewApply v), fun v => view (viewSwap v), fun v => view (viewCancelSwap v),
    fun v => onMain_run (stitchTabLoWrite v) rfl hm, fun v => onMain_run (stitchTabHiWrite v) rfl hm,
    fun n stalls => onMain_unit (stitchLineIn n stalls) hm, fun v stalls => view (rowDeadline v stalls),
    fun v => view (driftRowIn v), fun v => view (driftSeed v), fun v => view (driftProbe v), fun v => view (driftFreezeEvent v),
    fun v x => view (driftCtlWrite v x)⟩

end Sys2Proof.Machine
end

section
/-! A block of bytes written into a byte map (R172, R187), and a tile's line store; then the statements of 06_hearth_array.md. -/

namespace Sys2Proof

variable {β : Type}

/-! Reads of maps that are put together from others. -/

/-- A read turns only on what the key itself reads as where it is not listed. -/
theorem SMap.get_congr {d d' : Nat → β} {k : Nat} (h : d k = d' k) (m : SMap β) : m.get d k = m.get d' k := by
  induction m with
  | nil => exact h
  | cons e m ih => simp only [SMap.get, ih]

/-- What the first map does not list is read from the second. -/
theorem SMap.get_append (d : Nat → β) (m m' : SMap β) (k : Nat) : SMap.get d (m ++ m') k = m.get (m'.get d) k := by
  induction m with
  | nil => rfl
  | cons e m ih => simp [SMap.get, ih]

/-- A map kept only on some of its keys reads as its default on the others. -/
theorem SMap.get_filter_keys (d : Nat → β) (p : Nat → Bool) (m : SMap β) (k : Nat) :
    SMap.get d (m.filter fun e => p e.1) k = if p k then m.get d k else d k := by
  induction m with
  | nil => simp
  | cons e m ih =>
    obtain ⟨j, v⟩ := e
    by_cases hk : k = j
    · subst hk
      cases hp : p k <;> simp [SMap.get, hp, ih]
    · cases hp : p j <;> simp [SMap.get, hp, hk, ih]

namespace Machine

variable {s : State} {t : Nat}

/-! Little-endian bytes. -/

@[simp] theorem length_leBytes (n v : Nat) : (leBytes n v).length = n := by
  induction n generalizing v with
  | zero => rfl
  | succ n ih => simp [leBytes, ih]

theorem getD_leBytes {n i : Nat} (v : Nat) (h : i < n) : (leBytes n v).getD i 0 = BitVec.ofNat 8 (v / 256 ^ i) := by
  induction n generalizing v i with
  | zero => omega
  | succ n ih =>
    cases i with
    | zero => simp [leBytes]
    | succ i =>
      rw [leBytes, List.getD_cons_succ, ih _ (by omega), Nat.div_div_eq_div_mul, Nat.pow_succ']

/-! A block of bytes in a byte map. -/

/-- The entries that `putBlock` lists for a block of bytes from address `a` on. -/
def blockEntries (a : Nat) (bs : List (BitVec 8)) : SMap (BitVec 8) :=
  ((bs.zipIdx a).filter fun e => e.1 != 0).map fun e => (e.2, e.1)

/-- A byte that is 0 is not listed. -/
theorem get_blockEntries_cons (d : Nat → BitVec 8) (a : Nat) (b : BitVec 8) (bs : List (BitVec 8)) (k : Nat) :
    (blockEntries a (b :: bs)).get d k = if k = a ∧ b ≠ 0 then b else (blockEntries (a + 1) bs).get d k := by
  rw [blockEntries, List.zipIdx_cons]
  by_cases hb : b = 0
  · rw [List.filter_cons_of_neg (by simp [hb]), if_neg (by simp [hb]), blockEntries]
  · rw [List.filter_cons_of_pos (by simpa using hb), List.map_cons, SMap.get, blockEntries]
    simp only [ne_eq, hb, not_false_eq_true, and_true]

/-- A block's entries read as its bytes where the unlisted ones, those that are 0, read as 0. -/
theorem get_blockEntries (d : Nat → BitVec 8) (bs : List (BitVec 8)) {a k : Nat} (hd : a ≤ k → k < a + bs.length → d k = 0) :
    (blockEntries a bs).get d k = if a ≤ k ∧ k < a + bs.length then bs.getD (k - a) 0 else d k := by
  induction bs generalizing a with
  | nil =>
    rw [List.length_nil, if_neg (by omega)]
    rfl
  | cons b bs ih =>
    rw [List.length_cons] at hd ⊢
    rw [get_blockEntries_cons, ih fun hle hlt => hd (by omega) (by omega)]
    obtain hlt | rfl | hgt := Nat.lt_trichotomy k a
    · rw [if_neg (by omega), if_neg (by omega), if_neg (by omega)]
    · have hzero : d k = 0 := hd (by omega) (by omega)
      rw [if_neg (c := k + 1 ≤ k ∧ _) (by omega), if_pos (c := k ≤ k ∧ _) (by omega), hzero, Nat.sub_self, List.getD_cons_zero]
      obtain rfl | hb := eq_or_ne b 0
      · rw [if_neg (by simp)]
      · rw [if_pos ⟨rfl, hb⟩]
    · have hnext : k - a = k - (a + 1) + 1 := by omega
      rw [if_neg (by omega), hnext, List.getD_cons_succ]
      exact if_congr (by omega) rfl rfl

/-- A read goes through the bytes below the block, those of the block and those from its end on. -/
theorem lsByte_putBlock_layers (m : SMap (BitVec 8)) (a : Nat) (bs : List (BitVec 8)) (k : Nat) :
    lsByte (putBlock m a bs) k
      = SMap.get ((blockEntries a bs).get (lsByte (m.filter fun e => decide (a + bs.length ≤ e.1))))
          (m.filter fun e => decide (e.1 < a)) k := by
  rw [lsByte, putBlock, SMap.get_append, SMap.get_append]
  rfl

theorem lsByte_filter_from (m : SMap (BitVec 8)) (n k : Nat) :
    lsByte (m.filter fun e => decide (n ≤ e.1)) k = if n ≤ k then lsByte m k else 0 := by
  simpa only [lsByte, decide_eq_true_eq] using SMap.get_filter_keys (fun _ => (0 : BitVec 8)) (fun j => decide (n ≤ j)) m k

/-- A block reads as its bytes, and every other byte as before. -/
theorem lsByte_putBlock (m : SMap (BitVec 8)) (a : Nat) (bs : List (BitVec 8)) (k : Nat) :
    lsByte (putBlock m a bs) k = if a ≤ k ∧ k < a + bs.length then bs.getD (k - a) 0 else lsByte m k := by
  have hblock := get_blockEntries (lsByte (m.filter fun e => decide (a + bs.length ≤ e.1))) bs (a := a) (k := k)
    fun _ hlt => by rw [lsByte_filter_from, if_neg (by omega)]
  rw [lsByte_filter_from] at hblock
  rw [lsByte_putBlock_layers, SMap.get_filter_keys _ (fun j => decide (j < a))]
  by_cases hk : k < a
  · rw [if_neg (by omega), if_neg (by omega)] at hblock
    rw [if_pos (decide_eq_true hk), if_neg (by omega)]
    exact SMap.get_congr hblock m
  · rw [if_neg (by simpa using hk), hblock]
    exact if_ctx_congr Iff.rfl (fun _ => rfl) fun h => if_pos (by omega)

/-! A tile's own state. -/

@[simp] theorem tile_setTile_same (s : State) (t : Nat) (x : TileX) : (s.setTile t x).tile t = x := SMap.get_set_same _ _ _ _

theorem tile_setTile_ne {t' : Nat} (x : TileX) (h : t' ≠ t) : (s.setTile t x).tile t' = s.tile t' := SMap.get_set_ne _ _ _ h

theorem keepIsland_setTile (s : State) (t : Nat) (x : TileX) : (s.setTile t x).keepIsland s = s.setTile t x := rfl

/-! Bytes written into the line store of a tile (R172). -/

theorem linePut_of_off (off : Nat) (bs : List (BitVec 8)) (h : s.tileGroup t = none) :
    linePut t off bs s = s.setTile t { s.tile t with ls := putBlock (s.tile t).ls off bs } := by
  rw [linePut, h]

theorem linePut_of_in_group (off : Nat) (bs : List (BitVec 8)) (h : s.tileGroup t ≠ none) : linePut t off bs s = s := by
  obtain ⟨g, hg⟩ := Option.ne_none_iff_exists'.mp h
  rw [linePut, hg]

/-- The four bytes of a word written at a line store offset, least significant first. -/
theorem lsByte_putBlock_word (m : SMap (BitVec 8)) (off : Nat) (w : Word) (a : Nat) :
    lsByte (putBlock m off (leBytes 4 w.toNat)) a
      = if off ≤ a ∧ a < off + 4 then BitVec.ofNat 8 (w.toNat / 256 ^ (a - off)) else lsByte m a := by
  rw [lsByte_putBlock, length_leBytes]
  exact ite_congr rfl (fun h => getD_leBytes _ (by omega)) fun _ => rfl

/-! The statements. -/

/-- Settles O38: a word written is a block of four bytes, and a tile in a group takes none. -/
theorem lineStoreWritesNeedTheGroupOff : Obligations.LineStoreWritesNeedTheGroupOff := by
  intro s t i w ht hi hm
  have hexec : exec (.lineStoreWrite t i w) s = .next ((lineStoreWrite t i w s).keepIsland s) :=
    onMain_run (lineStoreWrite t i w) (by simp [ht, hi]) hm
  rw [hexec, lineStoreWrite]
  refine ⟨fun hoff => ?stored, fun hin => ?ignored⟩
  case stored =>
    rw [linePut_of_off _ _ hoff, keepIsland_setTile]
    refine ⟨_, rfl, fun a => ?_, fun t' h => tile_setTile_ne _ h, rfl⟩
    rw [tile_setTile_same]
    exact lsByte_putBlock_word _ _ _ _
  case ignored =>
    rw [linePut_of_in_group _ _ hin]
    rfl

/-- Settles O15: each command is its effect in the wrapper of the main domain, which a tile below 64, a context below 4, a group below 16,
a view below 4 and an offset within the memory written pass. -/
theorem everyHearthCommandCompletes : Obligations.EveryHearthCommandCompletes := by
  intro s hm
  have ctx {t c : Nat} (f : State → State) (ht : t < 64) (hc : c < 4) : onMain (t < 64 && c < 4) s f = .next ((f s).keepIsland s) :=
    onMain_run f (by simp [ht, hc]) hm
  have group {g : Nat} (f : State → State) : g < 16 → onMain (g < 16) s f = .next ((f s).keepIsland s) := onMain_unit f hm
  exact ⟨fun t c => ctx (hearthRowDeliver t c), fun t c => ctx (spillReplayRow t c), fun t c => ctx (ctxFrameEntry t c),
    fun t c => ctx (ctxRowEntry t c), fun t c => ctx (wdogExpiry t c), fun t c => ctx (ctxResume t c), fun t c => ctx (ctxContinue t c),
    fun t c => ctx (ctxHalt t c),
    fun g => group (groupApply g), fun g => group (swapProg g), fun g => group (swapClut g), fun g => group (groupCancelSwap g),
    fun t => onMain_unit (fragmentQueueDrain t) hm, fun v => onMain_unit (classRowRelease v) hm,
    fun t bc i w ht hi => onMain_run (imemWrite t bc i w) (by simp [ht, hi]) hm,
    fun t bc i w ht hi => onMain_run (clutWrite t bc i w) (by simp [ht, hi]) hm,
    fun t i w ht hi => onMain_run (lineStoreWrite t i w) (by simp [ht, hi]) hm⟩

end Machine

end Sys2Proof
end

section
/-! The elements of a Hearth register (R179, R180, R184), what a word in issue does when nothing keeps it from completing (R182), and the
values of its two slots (R190, R192); then the statements of 07_hearth_instructions.md. -/

namespace Sys2Proof.Machine

variable {s : State} {t c : Nat}

/-! Elements of a register (R179, R180). -/

theorem gang_pos (w : Nat) : 0 < gang w := by
  unfold gang
  split <;> omega

theorem ebits_pos (w : Nat) : 0 < ebits w := Nat.mul_pos (by decide) (gang_pos w)

/-- Every element lies in the register. -/
theorem ebits_mul_add_ebits_le {w i : Nat} (hi : i < ecount w) : ebits w * i + ebits w ≤ 3072 := by
  have hgang : (i + 1) * gang w ≤ 768 := (Nat.mul_le_mul_right _ hi).trans (Nat.div_mul_le_self 768 _)
  calc ebits w * i + ebits w = 4 * ((i + 1) * gang w) := by rw [ebits]; ring
    _ ≤ 3072 := by omega

/-- Packed elements lie `b` bits apart. -/
theorem packElems_div_mod (b : Nat) (l : List Nat) (i : Nat) : packElems b l / 2 ^ (b * i) % 2 ^ b = l.getD i 0 % 2 ^ b := by
  induction l generalizing i with
  | nil => simp [packElems]
  | cons x l ih =>
    have hcons : packElems b (x :: l) = x % 2 ^ b + 2 ^ b * packElems b l := rfl
    have hlt : x % 2 ^ b < 2 ^ b := Nat.mod_lt _ (Nat.two_pow_pos b)
    cases i with
    | zero => simp [hcons]
    | succ i =>
      have hrest : packElems b (x :: l) / 2 ^ b = packElems b l := by
        rw [hcons, Nat.add_mul_div_left _ _ (Nat.two_pow_pos b), Nat.div_eq_of_lt hlt, Nat.zero_add]
      rw [Nat.mul_succ, Nat.add_comm, Nat.pow_add, ← Nat.div_div_eq_div_mul, hrest, ih, List.getD_cons_succ]

theorem toNat_extractLsb'_ofNat {lo len width : Nat} (n : Nat) (h : lo + len ≤ width) :
    ((BitVec.ofNat width n).extractLsb' lo len).toNat = n / 2 ^ lo % 2 ^ len := by
  refine Nat.eq_of_testBit_eq fun j => ?_
  rw [BitVec.extractLsb'_toNat, BitVec.toNat_ofNat, Nat.testBit_mod_two_pow, Nat.testBit_shiftRight, Nat.testBit_mod_two_pow,
    Nat.testBit_mod_two_pow, Nat.testBit_div_two_pow, Nat.add_comm j]
  by_cases hj : j < len
  · simp [hj, show lo + j < width by omega]
  · simp [hj]

theorem elem_lt (w : Nat) (x : BitVec 3072) (i : Nat) : elem w x i < 2 ^ ebits w := BitVec.isLt _

/-- A register built from its elements has them, at their width. -/
theorem elem_ofElems_map {w i : Nat} (f : Nat → Nat) (hi : i < ecount w) :
    elem w (ofElems w ((List.range (ecount w)).map f)) i = f i % 2 ^ ebits w := by
  rw [ofElems, elem, toNat_extractLsb'_ofNat _ (ebits_mul_add_ebits_le hi), packElems_div_mod]
  simp [List.getD_eq_getElem?_getD, hi]

/-- A guarded element takes its new value, where that fits the width, and every other element stays (R184). -/
theorem elem_guarded (x : HCtx) (w : BitVec 64) {f : Nat → Nat} {i : Nat} (hi : i < ecount (wW w)) (hf : f i < 2 ^ ebits (wW w)) :
    elem (wW w) (x.guarded w f) i = if x.guard w i then f i else elem (wW w) (x.rv (wVD w)) i := by
  rw [HCtx.guarded, elem_ofElems_map _ hi]
  split
  · exact Nat.mod_eq_of_lt hf
  · exact Nat.mod_eq_of_lt (elem_lt _ _ _)

theorem opB_lt (x : HCtx) (w : BitVec 64) (i : Nat) : x.opB w i < 2 ^ ebits (wW w) := by
  unfold HCtx.opB
  split
  · exact Nat.mod_lt _ (Nat.two_pow_pos _)
  · exact elem_lt _ _ _

/-! Values as elements (R184). -/

theorem sat_eq_max_min {lo hi : Int} (h : lo ≤ hi) (r : Int) : sat r lo hi = max lo (min hi r) := by
  unfold sat
  split <;> [skip; split] <;> omega

/-- An element's range is not empty, signed or not. -/
theorem element_range_nonempty (b : Nat) (sg : Bool) :
    (if sg then -2 ^ (b - 1) else 0 : Int) ≤ if sg then 2 ^ (b - 1) - 1 else 2 ^ b - 1 := by
  have hpos : (0 : Int) < 2 ^ b := by positivity
  have hpos' : (0 : Int) < 2 ^ (b - 1) := by positivity
  cases sg
  · show (0 : Int) ≤ 2 ^ b - 1
    omega
  · show -2 ^ (b - 1) ≤ (2 ^ (b - 1) - 1 : Int)
    omega

theorem narrowElem_eq_asElement (w : Nat) (sg st : Bool) (r : Int) : narrowElem w sg st r = asElement (ebits w) sg st r := by
  unfold narrowElem asElement
  rw [BitVec.toNat_ofInt, sat_eq_max_min (element_range_nonempty _ _)]
  norm_cast

theorem narrowElem_lt (w : Nat) (sg st : Bool) (r : Int) : narrowElem w sg st r < 2 ^ ebits w := BitVec.isLt _

theorem signed_eq_toInt {b : Nat} (hb : 0 < b) (n : Nat) : signed b n = (BitVec.ofNat b n).toInt := by
  have htwo : 2 ^ b = 2 * 2 ^ (b - 1) := by rw [← Nat.pow_succ', Nat.succ_eq_add_one, Nat.sub_add_cancel hb]
  unfold signed
  rw [BitVec.toInt_eq_toNat_cond, BitVec.toNat_ofNat]
  exact if_congr (by omega) rfl rfl

theorem signed_toNat {b : Nat} (hb : 0 < b) (x : BitVec b) : signed b x.toNat = x.toInt := by
  rw [signed_eq_toInt hb, BitVec.ofNat_toNat, BitVec.setWidth_eq]

/-- A signed element narrowed under saturation reads as the clamped value. -/
theorem signed_narrowElem_saturated (w : Nat) (r : Int) :
    signed (ebits w) (narrowElem w true true r) = max (-2 ^ (ebits w - 1)) (min (2 ^ (ebits w - 1) - 1) r) := by
  have hrange := element_range_nonempty (ebits w) true
  simp only [if_true] at hrange
  unfold narrowElem
  simp only [if_true]
  rw [signed_toNat (ebits_pos w), sat_eq_max_min hrange]
  exact BitVec.toInt_ofInt_eq_self (ebits_pos w) (by omega) (by omega)

/-! Nibble products (R190). -/

theorem nibble_mul_signed_bounds (a b j : Nat) :
    -120 ≤ (nibble a j : Int) * signed 4 (nibble b j) ∧ (nibble a j : Int) * signed 4 (nibble b j) ≤ 105 := by
  have ha : nibble a j < 16 := Nat.mod_lt _ (by decide)
  have hlo : -8 ≤ signed 4 (nibble b j) := by unfold signed; omega
  have hhi : signed 4 (nibble b j) ≤ 7 := by unfold signed; omega
  constructor <;> nlinarith

theorem sum_nibble_products_bounds (a b k : Nat) :
    let acc := ((List.range k).map fun j => (nibble a j : Int) * signed 4 (nibble b j)).sum
    0 ≤ 120 * (k : Int) + acc ∧ acc ≤ 105 * (k : Int) := by
  have hlo := List.card_nsmul_le_sum ((List.range k).map fun j => (nibble a j : Int) * signed 4 (nibble b j)) (-120)
    (List.forall_mem_map.mpr fun j _ => (nibble_mul_signed_bounds a b j).1)
  have hhi := List.sum_le_card_nsmul ((List.range k).map fun j => (nibble a j : Int) * signed 4 (nibble b j)) 105
    (List.forall_mem_map.mpr fun j _ => (nibble_mul_signed_bounds a b j).2)
  simp only [List.length_map, List.length_range, nsmul_eq_mul] at hlo hhi
  constructor <;> linarith

/-! A context of a tile. -/

@[simp] theorem ctx_setCtx_same (s : State) (t c : Nat) (x : HCtx) : (s.setCtx t c x).ctx t c = x := by
  simp [State.ctx, State.setCtx]

theorem ctx_setCtx_ne {t' c' : Nat} (x : HCtx) (h : t' ≠ t ∨ c' ≠ c) : (s.setCtx t c x).ctx t' c' = s.ctx t' c' := by
  by_cases ht : t' = t
  · subst ht
    rw [State.ctx, State.setCtx, tile_setTile_same]
    exact SMap.get_set_ne _ _ _ (h.resolve_left fun hne => hne rfl)
  · rw [State.ctx, State.setCtx, tile_setTile_ne _ ht]
    rfl

@[simp] theorem ls_setCtx (s : State) (t c : Nat) (x : HCtx) : ((s.setCtx t c x).tile t).ls = (s.tile t).ls := by
  rw [State.setCtx, tile_setTile_same]

@[simp] theorem tile_wrN (s : State) (a n t : Nat) : (s.wrN a n).tile t = s.tile t := rfl

@[simp] theorem ctx_wrN (s : State) (a n t c : Nat) : (s.wrN a n).ctx t c = s.ctx t c := rfl

/-- The wrapper of the main domain takes a context that exists. -/
theorem onMain_ctx (f : State → State) (hm : s.mainReset = false) (ht : t < 64) (hc : c < 4) :
    onMain (t < 64 && c < 4) s f = .next ((f s).keepIsland s) := onMain_run f (by simp [ht, hc]) hm

/-- The wrapper of the main domain leaves registers and tiles as the effect wrote them. -/
theorem keepIsland_of_regs_tiles_only {u : State} (h : u = { s with regs := u.regs, tiles := u.tiles }) : u.keepIsland s = u := by
  rw [h]
  rfl

/-! The vector slot in issue (R182, R199). -/

theorem vecIssue_of_fault {op k : Nat} {f : HCtx → BitVec 64 → State → State × VRes} (h : vecAt s t c op)
    (hfault : s.wordFault t c (s.wordAt t c) = some k) : s.vecIssue t c op f = s.ctxHaltWith t c k := by
  obtain ⟨-, -, -, hissue, hvres, hop⟩ := h
  simp [State.vecIssue, hissue, hvres, hop, hfault]

theorem vecIssue_of_no_fault {op : Nat} {f : HCtx → BitVec 64 → VRes} (h : vecAt s t c op)
    (hfault : s.wordFault t c (s.wordAt t c) = none) :
    s.vecIssue t c op (fun x w s => (s, f x w))
      = s.setCtx t c { s.ctx t c with vres := some (f (s.ctx t c) (s.wordAt t c)) } := by
  obtain ⟨-, -, -, hissue, hvres, hop⟩ := h
  simp [State.vecIssue, hissue, hvres, hop, hfault]

/-- A vector instruction whose word has no fault leaves its result with the context, and nothing else. -/
theorem onMain_vecIssue {op : Nat} (f : HCtx → BitVec 64 → VRes) (h : vecAt s t c op)
    (hfault : s.wordFault t c (s.wordAt t c) = none) :
    onMain (t < 64 && c < 4) s (fun s => s.vecIssue t c op (fun x w s => (s, f x w)))
      = .next (s.setCtx t c { s.ctx t c with vres := some (f (s.ctx t c) (s.wordAt t c)) }) := by
  obtain ⟨ht, hc, hm, -⟩ := id h
  rw [onMain_ctx _ hm ht hc, vecIssue_of_no_fault h hfault, State.setCtx, keepIsland_setTile]

theorem wordFault_of_vecBad {w : BitVec 64} (h : (s.ctx t c).vecBad w = true) : s.wordFault t c w = some 1 := by
  simp [State.wordFault, HCtx.code1, h]

/-- VDOT4 has no meaning at a width other than 16 and 32 (R190). -/
theorem vecBad_of_vdot4_width {x : HCtx} {w : BitVec 64} (hop : vop w = 0x24) (h3 : wW w ≠ 3) (h5 : wW w ≠ 5) : x.vecBad w = true := by
  simp [HCtx.vecBad, hop, h3, h5]

/-! The word's completion (R182). -/

/-- The registers of a context with what a vector slot writes. -/
def HCtx.vecWrite (x : HCtx) : VRes → HCtx
  | .vec d v => x.wv d v
  | .pred d v => x.wp d v
  | .scal d v => x.ws d v
  | .none | .mem .. => x

/-- The registers of a context with what a scalar slot writes. -/
def HCtx.scalWrite (x : HCtx) : Option (Nat × Word) → HCtx
  | some (d, v) => x.ws d v
  | none => x

section
variable {x : HCtx} {v : VRes}

/-- A vector result is no matter of the program counter, the program, a halt that waits or the labels. -/
theorem vecWrite_keeps_control (x : HCtx) (v : VRes) :
    (x.vecWrite v).pc = x.pc ∧ (x.vecWrite v).prog = x.prog ∧ (x.vecWrite v).haltReq = x.haltReq ∧
      (x.vecWrite v).dogReq = x.dogReq ∧ (x.vecWrite v).labels = x.labels := by
  cases v with
  | pred d v =>
    simp only [HCtx.vecWrite, HCtx.wp]
    split <;> exact ⟨rfl, rfl, rfl, rfl, rfl⟩
  | _ => exact ⟨rfl, rfl, rfl, rfl, rfl⟩

theorem rs_ws (x : HCtx) (n d : Nat) (v : Word) : (x.ws n v).rs d = if d = n then v else x.rs d := SMap.get_set _ _ _ _ _

theorem rs_vecWrite_of_kept {d : Nat} (h : ∀ n, v ≠ .scal d n) : (x.vecWrite v).rs d = x.rs d := by
  cases v with
  | scal e n => exact (rs_ws _ _ _ _).trans (if_neg fun he => h n (by rw [he]))
  | pred e n =>
    simp only [HCtx.vecWrite, HCtx.wp]
    split <;> rfl
  | _ => rfl

theorem rv_vecWrite_of_kept {d : Nat} (h : ∀ n, v ≠ .vec d n) : (x.vecWrite v).rv d = x.rv d := by
  cases v with
  | vec e n => exact SMap.get_set_ne _ _ _ fun he => h n (by rw [he])
  | pred e n =>
    simp only [HCtx.vecWrite, HCtx.wp]
    split <;> rfl
  | _ => rfl

theorem rp'_vecWrite_of_kept {d : Nat} (h : ∀ n, v ≠ .pred d n) : (x.vecWrite v).rp' d = x.rp' d := by
  cases v with
  | pred e n =>
    simp only [HCtx.vecWrite, HCtx.wp]
    split
    · rfl
    · exact if_congr Iff.rfl rfl (SMap.get_set_ne _ _ _ fun he => h n (by rw [he]))
  | _ => rfl

end

theorem ctx_scratchWrite (s : State) (t c a : Nat) (bs : List (BitVec 8)) (t' c' : Nat) :
    (s.scratchWrite t c a bs).ctx t' c' = s.ctx t' c' := by
  rw [State.ctx, State.ctx, State.scratchWrite]
  by_cases ht : t' = t
  · rw [ht, tile_setTile_same]
  · rw [tile_setTile_ne _ ht]

/-- What a vector slot wrote goes to its own context's registers. -/
theorem ctx_vecEffect (s : State) (t c : Nat) (v : VRes) : (s.vecEffect t c v).ctx t c = (s.ctx t c).vecWrite v := by
  cases v with
  | none => rfl
  | mem a v m => exact ctx_scratchWrite _ _ _ _ _ _ _
  | _ => exact ctx_setCtx_same _ _ _ _

theorem ctx_vecEffect_ne {t' c' : Nat} (v : VRes) (h : t' ≠ t ∨ c' ≠ c) : (s.vecEffect t c v).ctx t' c' = s.ctx t' c' := by
  cases v with
  | none => rfl
  | mem a v m => exact ctx_scratchWrite _ _ _ _ _ _ _
  | _ => exact ctx_setCtx_ne _ h

/-- Only a store reaches the line store. -/
theorem ls_vecEffect_of_no_store {v : VRes} (h : ∀ a n m, v ≠ .mem a n m) : ((s.vecEffect t c v).tile t).ls = (s.tile t).ls := by
  cases v with
  | none => rfl
  | mem a v m => exact absurd rfl (h a v m)
  | _ => exact ls_setCtx _ _ _ _

theorem vecEffect_tiles_only (s : State) (t c : Nat) (v : VRes) : ∃ tiles, s.vecEffect t c v = { s with tiles := tiles } := by
  cases v <;> exact ⟨_, rfl⟩

/-- A context with other cycles from which its registers are ready. -/
def HCtx.withReady (x : HCtx) (rdy : SMap Nat) : HCtx := { x with rdy := rdy }

theorem foldl_setReady_ready_only (l : List (Nat × Nat)) (n : Nat) (x : HCtx) :
    ∃ rdy, l.foldl (fun x e => x.setReady e.1 (n + e.2)) x = x.withReady rdy := by
  induction l generalizing x with
  | nil => exact ⟨x.rdy, rfl⟩
  | cons e l ih =>
    obtain ⟨rdy, hrdy⟩ := ih (x.setReady e.1 (n + e.2))
    exact ⟨rdy, hrdy⟩

/-- The state after a word without a store in its scalar slot: both slots' registers written, the program at `pc`. -/
def State.afterWord (s : State) (t c : Nat) (v : VRes) (reg : Option (Nat × Word)) (pc cyc : Nat) (rdy : SMap Nat) : State :=
  ((s.vecEffect t c v).setCtx t c
    { ((s.ctx t c).vecWrite v).scalWrite reg with
      cyc := cyc, rdy := rdy, pc := pc, vres := none, after := none, haltReq := false, dogReq := false }).wrN (R.HEARTH_CTX_PC t c) pc

/-- A word that only writes a scalar or goes on elsewhere in the program completes, where no halt waits for it (R182). -/
theorem wordDone_eq_afterWord {v : VRes} (hv : (s.ctx t c).vres = some v) (hhalt : (s.ctx t c).haltReq = false)
    (hdog : (s.ctx t c).dogReq = false) (reg : Option (Nat × Word)) (target : Option Nat)
    (hpc : target.getD ((s.ctx t c).pc + 1) < (s.ctx t c).prog.2) :
    ∃ cyc rdy, s.wordDone t c { reg := reg, target := target }
      = s.afterWord t c v reg (target.getD ((s.ctx t c).pc + 1)) cyc rdy := by
  choose rdy hrdy using foldl_setReady_ready_only
  obtain ⟨hpc', hprog', hhalt', hdog', -⟩ := vecWrite_keeps_control (s.ctx t c) v
  rw [← hprog', ← hpc'] at hpc
  rw [← hhalt'] at hhalt
  rw [← hdog'] at hdog
  unfold State.wordDone State.afterWord
  rw [← hpc']
  simp only [hv, Option.getD_some, ctx_vecEffect, if_true, Bool.false_eq_true, if_false, hrdy]
  generalize (s.ctx t c).vecWrite v = x at *
  have hnohalt : ¬ (x.haltReq || false || x.dogReq) = true := by simp [hhalt, hdog]
  have hinside : ¬ decide (x.prog.2 ≤ target.getD (x.pc + 1)) = true := by simpa using hpc
  cases reg <;> exact ⟨_, _, (if_neg hnohalt).trans (if_neg hinside)⟩

section
variable {v : VRes} {reg : Option (Nat × Word)} {pc cyc : Nat} {rdy : SMap Nat}

theorem ctx_afterWord : (s.afterWord t c v reg pc cyc rdy).ctx t c
    = { ((s.ctx t c).vecWrite v).scalWrite reg with
        cyc := cyc, rdy := rdy, pc := pc, vres := none, after := none, haltReq := false, dogReq := false } := by
  rw [State.afterWord, ctx_wrN, ctx_setCtx_same]

theorem ctx_afterWord_ne {t' c' : Nat} (h : t' ≠ t ∨ c' ≠ c) : (s.afterWord t c v reg pc cyc rdy).ctx t' c' = s.ctx t' c' := by
  rw [State.afterWord, ctx_wrN, ctx_setCtx_ne _ h, ctx_vecEffect_ne _ h]

theorem ls_afterWord : ((s.afterWord t c v reg pc cyc rdy).tile t).ls = ((s.vecEffect t c v).tile t).ls := by
  rw [State.afterWord, tile_wrN, ls_setCtx]

theorem rd_afterWord_ctxPc : (s.afterWord t c v reg pc cyc rdy).rd (R.HEARTH_CTX_PC t c) = BitVec.ofNat 32 pc := by
  rw [State.afterWord, State.wrN, rd_wr_same]

theorem pc_afterWord : ((s.afterWord t c v reg pc cyc rdy).ctx t c).pc = pc := by rw [ctx_afterWord]

theorem rs_afterWord_of_not_written {d : Nat} (hd : reg.map Prod.fst ≠ some d) :
    ((s.afterWord t c v reg pc cyc rdy).ctx t c).rs d = ((s.ctx t c).vecWrite v).rs d := by
  rw [ctx_afterWord]
  cases reg with
  | none => rfl
  | some e => exact (rs_ws _ _ _ _).trans (if_neg fun he => hd (by rw [he]; rfl))

theorem rs_afterWord_written (d : Nat) (n : Word) : ((s.afterWord t c v (some (d, n)) pc cyc rdy).ctx t c).rs d = n := by
  rw [ctx_afterWord]
  exact (rs_ws _ _ _ _).trans (if_pos rfl)

theorem rv_afterWord (d : Nat) : ((s.afterWord t c v reg pc cyc rdy).ctx t c).rv d = ((s.ctx t c).vecWrite v).rv d := by
  rw [ctx_afterWord]
  cases reg <;> rfl

theorem rp'_afterWord (d : Nat) : ((s.afterWord t c v reg pc cyc rdy).ctx t c).rp' d = ((s.ctx t c).vecWrite v).rp' d := by
  rw [ctx_afterWord]
  cases reg <;> rfl

theorem labels_afterWord : ((s.afterWord t c v reg pc cyc rdy).ctx t c).labels = (s.ctx t c).labels := by
  obtain ⟨-, -, -, -, hlabels⟩ := vecWrite_keeps_control (s.ctx t c) v
  rw [ctx_afterWord, ← hlabels]
  cases reg <;> rfl

/-- Of the whole state only the tiles and CTX_PC differ. -/
theorem afterWord_eq_wrN (s : State) (t c : Nat) (v : VRes) (reg : Option (Nat × Word)) (pc cyc : Nat) (rdy : SMap Nat) :
    ∃ tiles, s.afterWord t c v reg pc cyc rdy = { s with tiles := tiles }.wrN (R.HEARTH_CTX_PC t c) pc := by
  obtain ⟨tiles, htiles⟩ := vecEffect_tiles_only s t c v
  rw [State.afterWord, htiles]
  exact ⟨_, rfl⟩

theorem afterWord_regs_tiles_only : s.afterWord t c v reg pc cyc rdy
    = { s with regs := (s.afterWord t c v reg pc cyc rdy).regs, tiles := (s.afterWord t c v reg pc cyc rdy).tiles } := by
  obtain ⟨tiles, hafter⟩ := afterWord_eq_wrN s t c v reg pc cyc rdy
  rw [hafter]
  rfl

theorem readsKept_afterWord : readsKept s (s.afterWord t c v reg pc cyc rdy) [R.HEARTH_CTX_PC t c] := by
  have hplace : ¬ placesBytes (R.HEARTH_CTX_PC t c) := by
    rintro (h | ⟨n, h⟩)
    · simp only [R.HEARTH_CTX_PC, R.MC_RES_BASE] at h
      omega
    · simp only [R.HEARTH_CTX_PC, R.MC_MIG_PTR] at h
      omega
  obtain ⟨tiles, hafter⟩ := afterWord_eq_wrN s t c v reg pc cyc rdy
  obtain ⟨-, hregs, hmem⟩ :=
    (regFrame.refl { s with tiles := tiles } _).wr (BitVec.ofNat 32 pc) (List.mem_singleton_self (R.HEARTH_CTX_PC t c)) hplace
  rw [hafter]
  exact ⟨hregs, hmem⟩

/-- What the scalar slot leaves alone is as it was, the vector slot's result apart. -/
theorem scalFrame_afterWord (hv : (s.ctx t c).vres = some v) :
    scalFrame s (s.afterWord t c v reg pc cyc rdy) t c (reg.map Prod.fst) := by
  have hne {r : VRes} (h : (s.ctx t c).vres ≠ some r) : v ≠ r := fun he => h (he ▸ hv)
  exact ⟨fun d hd hvec => (rs_afterWord_of_not_written hd).trans (rs_vecWrite_of_kept fun n => hne (hvec n)),
    fun d hvec => (rv_afterWord d).trans (rv_vecWrite_of_kept fun n => hne (hvec n)),
    fun d hvec => (rp'_afterWord d).trans (rp'_vecWrite_of_kept fun n => hne (hvec n)),
    labels_afterWord,
    fun hvec => ls_afterWord.trans (ls_vecEffect_of_no_store fun a n m => hne (hvec a n m)),
    fun t' c' => ctx_afterWord_ne, afterWord_regs_tiles_only, readsKept_afterWord⟩

end

/-! The scalar slot in issue (R182, R192). -/

/-- A scalar slot that only writes its destination or branches completes its word, where the word it goes to lies in the program. -/
theorem onMain_scalIssue {op : Nat} (h : scalReady s t c op) (reg : HCtx → BitVec 64 → Option (Nat × Word))
    (target : HCtx → BitVec 64 → Option Nat)
    (hpc : (target (s.ctx t c) (s.wordAt t c)).getD ((s.ctx t c).pc + 1) < (s.ctx t c).prog.2) :
    ∃ v cyc rdy, (s.ctx t c).vres = some v ∧
      onMain (t < 64 && c < 4) s (fun s => s.scalIssue t c op fun x w s => (s, { reg := reg x w, target := target x w }))
        = .next (s.afterWord t c v (reg (s.ctx t c) (s.wordAt t c))
            ((target (s.ctx t c) (s.wordAt t c)).getD ((s.ctx t c).pc + 1)) cyc rdy) := by
  obtain ⟨ht, hc, hm, hissue, hsome, hop, hhalt, hdog, hstall⟩ := h
  obtain ⟨v, hv⟩ := Option.isSome_iff_exists.mp hsome
  obtain ⟨cyc, rdy, hdone⟩ := wordDone_eq_afterWord hv hhalt hdog (reg (s.ctx t c) (s.wordAt t c)) _ hpc
  refine ⟨v, cyc, rdy, hv, ?_⟩
  have heffect : s.scalIssue t c op (fun x w s => (s, { reg := reg x w, target := target x w }))
      = s.wordDone t c { reg := reg (s.ctx t c) (s.wordAt t c), target := target (s.ctx t c) (s.wordAt t c) } := by
    simp [State.scalIssue, State.wordEnd, hissue, hv, hop, hstall]
  rw [onMain_ctx _ hm ht hc, heffect, hdone, keepIsland_of_regs_tiles_only afterWord_regs_tiles_only]

/-- A scalar instruction whose result `res` its meaning `val` computes writes that result (R192). -/
theorem scalar_writes_result {i : Nat → Nat → Instr} {op : Nat} {val res : HCtx → BitVec 64 → Word}
    (hval : ∀ x w, val x w = res x w)
    (hexec : ∀ t c s, exec (i t c) s = onMain (t < 64 && c < 4) s fun s => s.scalIssue t c op fun x w s => s.sres w (val x w))
    (s : State) (t c : Nat) (h : scalReady s t c op) (hpc : (s.ctx t c).pc + 1 < (s.ctx t c).prog.2) :
    ∃ u, exec (i t c) s = .next u ∧ (u.ctx t c).rs (wSD (s.wordAt t c)) = res (s.ctx t c) (s.wordAt t c) ∧
      (u.ctx t c).pc = (s.ctx t c).pc + 1 ∧ u.rd (R.HEARTH_CTX_PC t c) = BitVec.ofNat 32 ((s.ctx t c).pc + 1) ∧
      scalFrame s u t c (some (wSD (s.wordAt t c))) := by
  obtain ⟨v, cyc, rdy, hv, hrun⟩ := onMain_scalIssue h (fun x w => some (wSD w, val x w)) (fun _ _ => none) hpc
  exact ⟨_, (hexec t c s).trans hrun, (rs_afterWord_written _ _).trans (hval _ _), pc_afterWord, rd_afterWord_ctxPc,
    scalFrame_afterWord hv⟩

/-- A branch whose condition `holds` its meaning `cond` computes goes where that says, and writes no register (R182, R192). -/
theorem branch_goes {i : Nat → Nat → Instr} {op : Nat} {cond holds : Word → Word → Bool} (hcond : ∀ a d, cond a d = holds a d)
    (hexec : ∀ t c s, exec (i t c) s = onMain (t < 64 && c < 4) s fun s => s.branch t c op cond)
    (s : State) (t c : Nat) (h : scalReady s t c op) :
    let x := s.ctx t c
    let w := s.wordAt t c
    let dest := if holds (x.rs (wSA w)) (x.rs (wSD w)) then wImm12 w else x.pc + 1
    dest < x.prog.2 →
    ∃ u, exec (i t c) s = .next u ∧ (u.ctx t c).pc = dest ∧ u.rd (R.HEARTH_CTX_PC t c) = BitVec.ofNat 32 dest ∧
      scalFrame s u t c none := by
  intro x w dest hdest
  have hgoal : (if cond (x.rs (wSA w)) (x.rs (wSD w)) then some (wImm12 w) else none).getD (x.pc + 1) = dest := by
    rw [hcond, apply_ite (Option.getD · (x.pc + 1))]
    rfl
  obtain ⟨v, cyc, rdy, hv, hrun⟩ := onMain_scalIssue h (fun _ _ => none)
    (fun x w => if cond (x.rs (wSA w)) (x.rs (wSD w)) then some (wImm12 w) else none) (hgoal ▸ hdest)
  rw [hgoal] at hrun
  exact ⟨_, (hexec t c s).trans hrun, pc_afterWord, rd_afterWord_ctxPc, scalFrame_afterWord hv⟩

/-! The results of the scalar instructions (R192). -/

theorem ofNat_wImm16 (w : BitVec 64) : BitVec.ofNat 32 (wImm16 w) = (w.extractLsb' 48 16).setWidth 32 := BitVec.ofNat_toNat _ _

theorem ofNat_wImm16_low (w : BitVec 64) (a : Word) :
    BitVec.ofNat 32 (wImm16 w * 0x10000 + a.toNat % 0x10000) = w.extractLsb' 48 16 ++ a.extractLsb' 0 16 := by
  refine BitVec.eq_of_toNat_eq ?_
  have hlow : (a.extractLsb' 0 16).toNat = a.toNat % 0x10000 := by simp
  have hlt : a.toNat % 0x10000 < 2 ^ 16 := Nat.mod_lt _ (by decide)
  have himm : wImm16 w < 2 ^ 16 := BitVec.isLt _
  rw [BitVec.toNat_ofNat, BitVec.toNat_append, hlow, ← Nat.shiftLeft_add_eq_or_of_lt hlt, Nat.shiftLeft_eq]
  exact Nat.mod_eq_of_lt (by omega)

theorem ofInt_signed_wImm12 (w : BitVec 64) : BitVec.ofInt 32 (signed 12 (wImm12 w)) = (w.extractLsb' 52 12).signExtend 32 :=
  congrArg _ (signed_toNat (by decide) _)

/-- The shift amount is the low five bits of IMM12. -/
theorem wImm12_mod_32 (w : BitVec 64) : wImm12 w % 32 = (w.extractLsb' 52 5).toNat := by
  rw [wImm12, wf, BitVec.extractLsb'_toNat, BitVec.extractLsb'_toNat]
  exact Nat.mod_mod_of_dvd _ (by decide)

theorem mul_eq_ofInt (a b : Word) : a * b = BitVec.ofInt 32 (a.toInt * b.toInt) := by
  rw [BitVec.ofInt_mul, BitVec.ofInt_toInt, BitVec.ofInt_toInt]

theorem smaller_eq_ofInt_min (a b : Word) : (if b.slt a then b else a) = BitVec.ofInt 32 (min a.toInt b.toInt) := by
  rw [BitVec.slt]
  by_cases h : b.toInt < a.toInt
  · simp [h, min_eq_right h.le]
  · simp [h, min_eq_left (not_lt.mp h)]

theorem larger_eq_ofInt_max (a b : Word) : (if a.slt b then b else a) = BitVec.ofInt 32 (max a.toInt b.toInt) := by
  rw [BitVec.slt]
  by_cases h : a.toInt < b.toInt
  · simp [h, max_eq_right h.le]
  · simp [h, max_eq_left (not_lt.mp h)]

theorem ite_slt (a b : Word) : (if a.slt b then 1 else 0 : Word) = if a.toInt < b.toInt then 1 else 0 := by
  simp [BitVec.slt]

theorem beq_zero_eq_decide_toNat (a : Word) : (a == 0) = decide (a.toNat = 0) := by
  rw [beq_eq_decide]
  exact decide_eq_decide.mpr BitVec.toNat_inj.symm

/-! The rule of the vector instructions (R184). -/

/-- The standard rule, saturating under ST where the instruction heeds it. -/
theorem vector_follows_element_rule {i : Nat → Nat → Instr} {op : Nat} {st : BitVec 64 → Bool} {heeds : Bool} {f : Int → Int → Int}
    (hst : ∀ w, st w = (wST w && heeds))
    (hexec : ∀ t c s, exec (i t c) s = onMain (t < 64 && c < 4) s fun s => s.vecIssue t c op fun x w s => (s, x.std w (st w) f))
    (s : State) (t c : Nat) (h : vecAt s t c op) (hfault : s.wordFault t c (s.wordAt t c) = none) :
    ∃ v, exec (i t c) s = .next (s.setCtx t c { s.ctx t c with vres := some (.vec (wVD (s.wordAt t c)) v) }) ∧
      ∀ i, i < ecount (wW (s.wordAt t c)) → elem (wW (s.wordAt t c)) v i =
        if (s.ctx t c).guard (s.wordAt t c) i then
          asElement (ebits (wW (s.wordAt t c))) (wSG (s.wordAt t c)) (wST (s.wordAt t c) && heeds)
            (f (opValue (s.wordAt t c) (elem (wW (s.wordAt t c)) ((s.ctx t c).rv (wVA (s.wordAt t c))) i))
              (opValue (s.wordAt t c) ((s.ctx t c).opB (s.wordAt t c) i)))
        else elem (wW (s.wordAt t c)) ((s.ctx t c).rv (wVD (s.wordAt t c))) i := by
  refine ⟨_, (hexec t c s).trans (onMain_vecIssue _ h hfault), fun i hi => ?_⟩
  rw [elem_guarded _ _ hi (narrowElem_lt _ _ _ _), narrowElem_eq_asElement, hst]

/-- The standard rule with an operation on bits. -/
theorem vector_follows_bitwise_rule {i : Nat → Nat → Instr} {op : Nat} {f : Nat → Nat → Nat}
    (hlt : ∀ {a b n : Nat}, a < 2 ^ n → b < 2 ^ n → f a b < 2 ^ n)
    (hexec : ∀ t c s, exec (i t c) s = onMain (t < 64 && c < 4) s fun s => s.vecIssue t c op fun x w s => (s, x.stdBits w f))
    (s : State) (t c : Nat) (h : vecAt s t c op) (hfault : s.wordFault t c (s.wordAt t c) = none) :
    ∃ v, exec (i t c) s = .next (s.setCtx t c { s.ctx t c with vres := some (.vec (wVD (s.wordAt t c)) v) }) ∧
      ∀ i, i < ecount (wW (s.wordAt t c)) → elem (wW (s.wordAt t c)) v i =
        if (s.ctx t c).guard (s.wordAt t c) i then
          f (elem (wW (s.wordAt t c)) ((s.ctx t c).rv (wVA (s.wordAt t c))) i) ((s.ctx t c).opB (s.wordAt t c) i)
        else elem (wW (s.wordAt t c)) ((s.ctx t c).rv (wVD (s.wordAt t c))) i :=
  ⟨_, (hexec t c s).trans (onMain_vecIssue _ h hfault), fun _ hi => elem_guarded _ _ hi (hlt (elem_lt _ _ _) (opB_lt _ _ _))⟩

theorem execVabsd_eq_std_abs (t c : Nat) (s : State) :
    exec (.vabsd t c) s = onMain (t < 64 && c < 4) s fun s => s.vecIssue t c 0x0e fun x w s => (s, x.std w false fun a b => |a - b|) := by
  simp only [Int.abs_eq_natAbs]
  rfl

/-! The statements. -/

/-- Settles O39: each instruction is a scalar slot that writes SD, and its result is the one of R192. -/
theorem scalarInstructionsWriteTheirResult : Obligations.ScalarInstructionsWriteTheirResult := by
  exact List.forall_iff_forall_mem.mp
    ⟨scalar_writes_result (fun _ w => ofNat_wImm16 w) fun _ _ _ => rfl,
    scalar_writes_result (fun x w => ofNat_wImm16_low w (x.rs (wSD w))) fun _ _ _ => rfl,
    scalar_writes_result (fun x w => congrArg (x.rs (wSA w) + ·) (ofInt_signed_wImm12 w)) fun _ _ _ => rfl,
    scalar_writes_result (fun _ _ => rfl) fun _ _ _ => rfl, scalar_writes_result (fun _ _ => rfl) fun _ _ _ => rfl,
    scalar_writes_result (fun _ _ => rfl) fun _ _ _ => rfl, scalar_writes_result (fun _ _ => rfl) fun _ _ _ => rfl,
    scalar_writes_result (fun _ _ => rfl) fun _ _ _ => rfl,
    scalar_writes_result (fun x w => congrArg (x.rs (wSA w) <<< ·) (wImm12_mod_32 w)) fun _ _ _ => rfl,
    scalar_writes_result (fun x w => congrArg (x.rs (wSA w) >>> ·) (wImm12_mod_32 w)) fun _ _ _ => rfl,
    scalar_writes_result (fun x w => congrArg (x.rs (wSA w)).sshiftRight (wImm12_mod_32 w)) fun _ _ _ => rfl,
    scalar_writes_result (fun _ _ => mul_eq_ofInt _ _) fun _ _ _ => rfl,
    scalar_writes_result (fun _ _ => smaller_eq_ofInt_min _ _) fun _ _ _ => rfl,
    scalar_writes_result (fun _ _ => larger_eq_ofInt_max _ _) fun _ _ _ => rfl,
    scalar_writes_result (fun _ _ => ite_slt _ _) fun _ _ _ => rfl⟩

/-- Settles O40: SNOP is a branch that is never taken, and each condition is the one of R192. -/
theorem branchesTestTheirRegistersAtIssue : Obligations.BranchesTestTheirRegistersAtIssue := by
  exact List.forall_iff_forall_mem.mp
    ⟨branch_goes (fun _ _ => rfl) fun _ _ _ => rfl, branch_goes (fun _ _ => rfl) fun _ _ _ => rfl,
    branch_goes (fun a _ => beq_zero_eq_decide_toNat a) fun _ _ _ => rfl,
    branch_goes (fun a _ => (congrArg not (beq_zero_eq_decide_toNat a)).trans (decide_not ..).symm) fun _ _ _ => rfl,
    branch_goes (fun _ _ => rfl) fun _ _ _ => rfl⟩

/-- Settles O41: each instruction is the rule of R184 with its operation, and the predicate instructions take all bits. -/
theorem vectorInstructionsFollowTheElementRule : Obligations.VectorInstructionsFollowTheElementRule := by
  have heeded (w : BitVec 64) : wST w = (wST w && true) := (Bool.and_true _).symm
  have ignored (w : BitVec 64) : false = (wST w && false) := (Bool.and_false _).symm
  refine ⟨List.forall_iff_forall_mem.mp ⟨?add, ?sub, ?mul, ?min, ?max, ?absDiff⟩, List.forall_iff_forall_mem.mp ⟨?and, ?or, ?xor⟩,
    List.forall_iff_forall_mem.mp ⟨?pand, ?por, ?pxor⟩⟩
  case absDiff => exact vector_follows_element_rule ignored execVabsd_eq_std_abs
  case and => exact vector_follows_bitwise_rule (fun _ hb => Nat.and_lt_two_pow _ hb) fun _ _ _ => rfl
  case or => exact vector_follows_bitwise_rule Nat.or_lt_two_pow fun _ _ _ => rfl
  case xor => exact vector_follows_bitwise_rule Nat.xor_lt_two_pow fun _ _ _ => rfl
  case pand | por | pxor => exact fun _ _ _ h hfault => onMain_vecIssue _ h hfault
  all_goals exact vector_follows_element_rule heeded fun _ _ _ => rfl

/-- Settles O42: a width other than 16 and 32 is a code-1 cause; at those the sum of nibble products goes through the saturating
signed rule. -/
theorem vdot4AccumulatesNibbleProducts : Obligations.Vdot4AccumulatesNibbleProducts := by
  intro s t c h
  obtain ⟨ht, hc, hm, -, -, hop⟩ := id h
  have hillegal (h3 : wW (s.wordAt t c) ≠ 3) (h5 : wW (s.wordAt t c) ≠ 5) : s.wordFault t c (s.wordAt t c) = some 1 :=
    wordFault_of_vecBad (vecBad_of_vdot4_width hop h3 h5)
  refine ⟨fun h3 h5 => ⟨hillegal h3 h5, ?halt⟩, fun hfault => ⟨?width, _, onMain_vecIssue _ h hfault, fun i hi => ?element⟩⟩
  case halt => exact (onMain_ctx (vdot4 t c) hm ht hc).trans (by rw [vdot4, vecIssue_of_fault h (hillegal h3 h5)])
  case width =>
    by_contra hwidth
    obtain ⟨h3, h5⟩ := not_or.mp hwidth
    rw [hillegal h3 h5] at hfault
    contradiction
  case element =>
    intro bits a b d acc
    obtain ⟨hlo, hhi⟩ := sum_nibble_products_bounds a b (gang (wW (s.wordAt t c)))
    rw [elem_guarded _ _ hi (narrowElem_lt _ _ _ _)]
    refine ⟨hlo, hhi, fun hg => if_neg (by simp [hg]), fun hg => ?_⟩
    rw [if_pos hg, signed_narrowElem_saturated, ← List.sum_eq_foldl]

/-- Settles O16: each command is its effect in the wrapper of the main domain, which a tile below 64 and a context below 4 pass. -/
theorem everyHearthInstructionCommandCompletes : Obligations.EveryHearthInstructionCommandCompletes := by
  intro s hm
  have ctx {t c : Nat} (f : State → State) (ht : t < 64) (hc : c < 4) : onMain (t < 64 && c < 4) s f = .next ((f s).keepIsland s) :=
    onMain_ctx f hm ht hc
  exact ⟨fun t c => ctx (illegalInstruction t c), fun t c => ctx (vnop t c), fun t c => ctx (vldp t c), fun t c => ctx (vldr t c),
    fun t c => ctx (vldf t c), fun t c => ctx (vlds t c), fun t c => ctx (vsts t c), fun t c => ctx (vcls t c),
    fun t c => ctx (vmovi t c), fun t c => ctx (vadd t c), fun t c => ctx (vsub t c), fun t c => ctx (vmul t c),
    fun t c => ctx (vmin t c), fun t c => ctx (vmax t c), fun t c => ctx (vabsd t c), fun t c => ctx (vand t c),
    fun t c => ctx (vor t c), fun t c => ctx (vxor t c), fun t c => ctx (vshl t c), fun t c => ctx (vshr t c),
    fun t c => ctx (vsel t c), fun t c => ctx (vcmpeq t c), fun t c => ctx (vcmplt t c), fun t c => ctx (vcmple t c),
    fun t c => ctx (pand t c), fun t c => ctx (por t c), fun t c => ctx (pxor t c), fun t c => ctx (vqnt t c),
    fun t c => ctx (vins t c), fun t c => ctx (vext t c), fun t c => ctx (vlut t c), fun t c => ctx (vdot4 t c),
    fun t c => ctx (vnar t c), fun t c => ctx (vwid t c), fun t c => ctx (vrsum t c), fun t c => ctx (vrun t c),
    fun t c => ctx (snop t c), fun t c => ctx (sli t c), fun t c => ctx (slih t c), fun t c => ctx (saddi t c),
    fun t c => ctx (sadd t c), fun t c => ctx (ssub t c), fun t c => ctx (sand t c), fun t c => ctx (sor t c),
    fun t c => ctx (sxor t c), fun t c => ctx (sshli t c), fun t c => ctx (sshri t c), fun t c => ctx (ssrai t c),
    fun t c => ctx (smul t c), fun t c => ctx (smin t c), fun t c => ctx (smax t c), fun t c => ctx (sslt t c),
    fun t c => ctx (sget t c), fun t c => ctx (slds t c), fun t c => ctx (ssts t c), fun t c => ctx (spcnt t c),
    fun t c => ctx (bOp t c), fun t c => ctx (bz t c), fun t c => ctx (bnz t c), fun t c => ctx (blt t c), fun t c => ctx (endOp t c),
    fun t c => ctx (brk t c), fun t c => ctx (lrow t c), fun t c => ctx (lclosed t c), fun t c => ctx (lget t c),
    fun t c => ctx (lset t c), fun t c => ctx (femit t c), fun t c => ctx (ldrop t c)⟩

end Sys2Proof.Machine
end

section
/-! The statements of 08_moraine.md. -/

namespace Sys2Proof.Machine

/-- Settles O17: each command is its effect in the wrapper of the main domain, which a view below 4 and an entry of the object table
below 65,536 pass. -/
theorem everyMoraineCommandCompletes : Obligations.EveryMoraineCommandCompletes := by
  intro s hm
  have entry {e : Nat} (f : State → State) : e < 65536 → onMain (e < 65536) s f = .next ((f s).keepIsland s) := onMain_unit f hm
  have whole (f : State → State) : onMain true s f = .next ((f s).keepIsland s) := onMain_run f rfl hm
  exact ⟨fun v => onMain_unit (horizonTimeout v) hm, fun e => entry (fusionWindowExpiry e), fun e => entry (entryRetire e),
    whole fragmentIn, whole rowMarkIn, whole objectDecide, whole defectPktFlush, whole moraineApply, whole swapRules, whole swapFt,
    whole moraineClear⟩

end Sys2Proof.Machine
end

section
/-! What an event source leaves besides its registers and the pulses it sends (R358, R387), and what arming and disarming Bellows does
(R249); then the statements of 09_bellows.md. -/

namespace Sys2Proof.Machine

variable {s t u : State}

/-! Registers and pulses on their way to the event fabric. -/

/-- Nothing but the listed registers and the pulses on their way to the event fabric differs. -/
def pulseFrame (s t : State) (l : List Nat) : Prop :=
  t = { s with regs := t.regs, chanIn := t.chanIn, fixedIn := t.fixedIn } ∧ readsKept s t l

theorem pulseFrame.refl (s : State) (l : List Nat) : pulseFrame s s l := ⟨rfl, fun _ _ => rfl, fun _ => rfl⟩

theorem pulseFrame.trans {l : List Nat} (h : pulseFrame s t l) (h' : pulseFrame t u l) : pulseFrame s u l := by
  obtain ⟨hstate, hregs, hmem⟩ := h
  obtain ⟨hstate', hregs', hmem'⟩ := h'
  exact ⟨by rw [hstate', hstate], fun a ha => (hregs' a ha).trans (hregs a ha), fun a => (hmem' a).trans (hmem a)⟩

theorem regFrame.pulseFrame {l : List Nat} (h : regFrame s t l) : pulseFrame s t l := by
  obtain ⟨hstate, hreads⟩ := h
  exact ⟨by rw [hstate], hreads⟩

theorem pulseFrame.wr {l : List Nat} (h : pulseFrame s t l) {a : Nat} (v : Word) (ha : a ∈ l) (hplace : ¬ placesBytes a) :
    pulseFrame s (t.wr a v) l := h.trans ((regFrame.refl t l).wr v ha hplace).pulseFrame

theorem errAt_pulse (s : State) (n : Nat) (soft : Bool) : (s.pulse n soft).errAt = s.errAt := by
  unfold State.pulse
  split <;> rfl

theorem errAt_fixed (s : State) (i : Nat) : (s.fixed i).errAt = s.errAt := by
  unfold State.fixed
  split <;> rfl

/-- An event source captures no error. -/
theorem errAt_fire (s : State) (src : Nat) : (s.fire src).errAt = s.errAt := by
  have fixedWhen (c : Bool) (i : Nat) {u : State} (h : u.errAt = s.errAt) : (u.when c (·.fixed i)).errAt = s.errAt :=
    when_keeps (P := fun u => u.errAt = s.errAt) c h fun h => (errAt_fixed u i).trans h
  unfold State.fire
  split
  · rfl
  · refine fixedWhen _ 2 (fixedWhen _ 1 (fixedWhen _ 0 ?_))
    refine foldl_keeps (P := fun u => u.errAt = s.errAt) (fun u n h => (errAt_pulse u n false).trans h) _ _ ?_
    split <;> rfl

theorem pulseFrame_fire {src : Nat} (hsrc : src < 1280) : pulseFrame s (s.fire src) (eventRegs src) := by
  have hplace {b : Nat} (hb : placesBytes b) : b ∉ eventRegs src := fun h => by
    have := mem_eventRegs_bounds hsrc h
    simp only [placesBytes, R.MC_RES_BASE, R.MC_MIG_PTR] at hb
    obtain hb | ⟨m, hb⟩ := hb <;> omega
  obtain ⟨hstate, hregs, hmem⟩ := (evTouches_fire s src).evFrame (hplace (.inl rfl)) fun m => hplace (.inr ⟨m, rfl⟩)
  exact ⟨by rw [errAt_fire] at hstate; exact hstate, hregs, hmem⟩

/-- An event that fires under a condition. -/
theorem pulseFrame.fireWhen {l : List Nat} (h : pulseFrame s t l) (c : Bool) {src : Nat} (hsrc : src < 1280) (hl : eventRegs src ⊆ l) :
    pulseFrame s (t.when c (·.fire src)) l := by
  obtain ⟨hstate, hregs, hmem⟩ := pulseFrame_fire (s := t) hsrc
  exact when_keeps (P := fun u => pulseFrame s u l) c h fun h => h.trans ⟨hstate, fun a ha => hregs a fun hev => ha (hl hev), hmem⟩

/-- It reaches no register beyond the event fabric. -/
theorem rd_fireWhen {a src : Nat} (c : Bool) (hsrc : src < 1280) (ha : 0x44003c10 ≤ a) : (s.when c (·.fire src)).rd a = s.rd a :=
  when_keeps (P := fun u => u.rd a = s.rd a) c rfl fun _ => (evTouches_fire s src).2 a fun h => by
    have := mem_eventRegs_bounds hsrc h
    omega

/-- A command of the main domain that reaches registers, pulses, and Bellows' queue, runs and watchdog only answers its effect as it
is. -/
theorem onMain_of_pulseFrame {l : List Nat} {q : List QAct} {m : SMap (Option (Int × Int))} {w : Option Nat} {f : State → State}
    (hm : s.mainReset = false) (h : pulseFrame { s with belQ := q, runs := m, wdogAt := w } (f s) l) :
    onMain true s f = .next (f s) := by
  obtain ⟨hstate, -⟩ := h
  rw [onMain_run f rfl hm, hstate]
  rfl

theorem rdN_cntN_same (s : State) (a n : Nat) : (s.cntN a n).rdN a = min 0xffffffff (s.rdN a + n) := by
  simp only [State.cntN, State.wrN, State.rdN, rd_wr_same, BitVec.toNat_ofNat]
  omega

/-! Arming and disarming (R249). -/

/-- No register of Bellows that a disarm writes tells a byte's place. -/
theorem not_placesBytes_of_bellows :
    ∀ a ∈ [R.BELLOWS_BSTAT, R.BELLOWS_ACT_DISARM, R.BELLOWS_Q_USED, R.BELLOWS_BERR], ¬ placesBytes a := by
  simp only [placesBytes, R.MC_RES_BASE, R.MC_MIG_PTR, R.BELLOWS_BSTAT, R.BELLOWS_ACT_DISARM, R.BELLOWS_Q_USED, R.BELLOWS_BERR,
    List.mem_cons, List.not_mem_nil, or_false]
  rintro a (rfl | rfl | rfl | rfl) (h | ⟨m, h⟩) <;> omega

/-- Under the supply warning ARM raises ARM_REFUSED (R249). -/
theorem arm_of_warned (hw : s.on R.SUP_SSTAT F.SUP_SSTAT_WARN_NOW = true)
    (hd : s.on R.BELLOWS_BCTL F.BELLOWS_BCTL_DISARM_ON_WARN = true) : s.arm = s.belErr 7 := if_pos (by simp [State.warnNow, hw, hd])

section
variable (h : s.on R.SUP_SSTAT F.SUP_SSTAT_WARN_NOW = false ∨ s.on R.BELLOWS_BCTL F.BELLOWS_BCTL_DISARM_ON_WARN = false)
include h

/-- Otherwise ARMED is set, the watchdog counts from now, and ARM fires where Bellows was disarmed (R249, R251). -/
theorem arm_of_allowed :
    s.arm = ({ s with wdogAt := some s.cyc }.sf R.BELLOWS_BSTAT F.BELLOWS_BSTAT_ARMED 1).when (!s.armed) (·.fire 736) := by
  refine if_neg ?_
  obtain h | h := h <;> simp [State.warnNow, h]

/-- An accepted ARM reaches BSTAT, the watchdog and what its event reaches. -/
theorem pulseFrame_arm :
    pulseFrame { s with wdogAt := some s.cyc } s.arm (R.BELLOWS_BSTAT :: eventRegs 736) := by
  rw [arm_of_allowed h]
  exact ((pulseFrame.refl _ _).wr _ (by simp) (not_placesBytes_of_bellows _ (by simp))).fireWhen _ (by decide)
    (List.subset_cons_self _ _)

theorem rd_arm_bstat : s.arm.rd R.BELLOWS_BSTAT = F.BELLOWS_BSTAT_ARMED.put (s.rd R.BELLOWS_BSTAT) 1 := by
  rw [arm_of_allowed h, rd_fireWhen _ (by decide) (by decide)]
  exact rd_wr_same _ _ _

end

/-- A queue emptied counts its actions and leaves Q_USED and Q_FULL 0; Q_PEAK cannot rise (R238, R253). -/
theorem dropQueue_eq (s : State) :
    s.dropQueue = (({ s with belQ := [], runs := [] }.cntN R.BELLOWS_ACT_DISARM s.belQ.length).wrN R.BELLOWS_Q_USED 0).sf
      R.BELLOWS_BSTAT F.BELLOWS_BSTAT_Q_FULL 0 := rfl

theorem rd_dropQueue_bstat : s.dropQueue.rd R.BELLOWS_BSTAT = F.BELLOWS_BSTAT_Q_FULL.put (s.rd R.BELLOWS_BSTAT) 0 := by
  rw [dropQueue_eq, State.sf, rd_wr_same, State.wrN, rd_wr_ne _ _ (by decide), State.cntN, State.wrN, rd_wr_ne _ _ (by decide)]
  rfl

theorem rdN_dropQueue_actDisarm :
    s.dropQueue.rdN R.BELLOWS_ACT_DISARM = min 0xffffffff (s.rdN R.BELLOWS_ACT_DISARM + s.belQ.length) := by
  rw [State.rdN, dropQueue_eq, rd_sf_ne _ _ (by decide), State.wrN, rd_wr_ne _ _ (by decide)]
  exact rdN_cntN_same _ _ _

/-- A disarm clears ARMED and empties the queue; DROP and ARM fire after that. -/
theorem disarm_eq (s : State) :
    s.disarm = ((s.sf R.BELLOWS_BSTAT F.BELLOWS_BSTAT_ARMED 0).dropQueue.when (decide (0 < s.belQ.length)) (·.fire 737)).when s.armed
      (·.fire 736) := rfl

/-- Its events reach no register of Bellows. -/
theorem rd_disarm {a : Nat} (ha : 0x44003c10 ≤ a) :
    s.disarm.rd a = (s.sf R.BELLOWS_BSTAT F.BELLOWS_BSTAT_ARMED 0).dropQueue.rd a := by
  rw [disarm_eq, rd_fireWhen _ (by decide) ha, rd_fireWhen _ (by decide) ha]

theorem rd_disarm_bstat :
    s.disarm.rd R.BELLOWS_BSTAT = F.BELLOWS_BSTAT_Q_FULL.put (F.BELLOWS_BSTAT_ARMED.put (s.rd R.BELLOWS_BSTAT) 0) 0 := by
  rw [rd_disarm (by decide), rd_dropQueue_bstat, State.sf, rd_wr_same]

theorem rd_disarm_qUsed : s.disarm.rd R.BELLOWS_Q_USED = 0 := by
  rw [rd_disarm (by decide), dropQueue_eq, rd_sf_ne _ _ (by decide)]
  exact rd_wr_same _ _ _

theorem rdN_disarm_actDisarm :
    s.disarm.rdN R.BELLOWS_ACT_DISARM = min 0xffffffff (s.rdN R.BELLOWS_ACT_DISARM + s.belQ.length) := by
  rw [State.rdN, rd_disarm (by decide), ← State.rdN, rdN_dropQueue_actDisarm, State.rdN, rd_sf_ne _ _ (by decide)]
  rfl

/-- A disarm reaches three registers of Bellows, its queue and runs, and what its events reach. -/
theorem pulseFrame_disarm (s : State) :
    pulseFrame { s with belQ := [], runs := [] } s.disarm
      ([R.BELLOWS_BSTAT, R.BELLOWS_ACT_DISARM, R.BELLOWS_Q_USED] ++ eventRegs 737 ++ eventRegs 736) := by
  generalize hl : [R.BELLOWS_BSTAT, R.BELLOWS_ACT_DISARM, R.BELLOWS_Q_USED] ++ eventRegs 737 ++ eventRegs 736 = l
  have write {t : State} {a : Nat} (v : Word) (ha : a ∈ [R.BELLOWS_BSTAT, R.BELLOWS_ACT_DISARM, R.BELLOWS_Q_USED])
      (h : pulseFrame { s with belQ := [], runs := [] } t l) : pulseFrame { s with belQ := [], runs := [] } (t.wr a v) l :=
    h.wr v (hl ▸ List.mem_append_left _ (List.mem_append_left _ ha))
      (not_placesBytes_of_bellows a (List.mem_append_left [R.BELLOWS_BERR] ha))
  rw [disarm_eq, dropQueue_eq]
  refine (pulseFrame.fireWhen ?registers _ (by decide) ?drop).fireWhen _ (by decide) ?arm
  case registers => exact write _ (by simp) (write _ (by simp) (write _ (by simp) (write _ (by simp) (pulseFrame.refl _ _))))
  case drop => exact hl ▸ fun _ h => List.mem_append_left _ (List.mem_append_right _ h)
  case arm => exact hl ▸ List.subset_append_right _ _

/-! The statements. -/

/-- Settles O43: ARM and DISARM write registers of Bellows that their events do not reach, and a refused ARM is an error of Bellows. -/
theorem bellowsArmsDisarmsAndRestartsItsWatchdog : Obligations.BellowsArmsDisarmsAndRestartsItsWatchdog := by
  intro s hm
  refine ⟨fun hw hd => ?refused, fun h => ?armed, ?disarmed, onMain_run kick rfl hm⟩
  case refused =>
    have heffect : armCmd s = s.belErr 7 := arm_of_warned hw hd
    have hexec : exec .arm s = .next ((armCmd s).keepIsland s) := onMain_run armCmd rfl hm
    rw [heffect, State.belErr, (evTouches_raise _ _ _ _).keepIsland] at hexec
    exact ⟨_, hexec, raisesOnly_raise (by decide) (by decide) (.inr (by decide)) (not_placesBytes_of_bellows _ (by simp))⟩
  case armed =>
    have hframe : pulseFrame _ (armCmd s) _ := pulseFrame_arm h
    have ⟨hstate, hreads⟩ := hframe
    have hwdog : (armCmd s).wdogAt = some s.cyc := by rw [hstate]
    refine ⟨armCmd s, onMain_of_pulseFrame hm hframe, rd_arm_bstat h, hwdog, ?_, hreads⟩
    rw [hwdog]
    exact hstate
  case disarmed =>
    have hframe : pulseFrame _ (disarmCmd s) _ := pulseFrame_disarm s
    have ⟨hstate, hreads⟩ := hframe
    have hqueue : (disarmCmd s).belQ = [] := by rw [hstate]
    have hruns : (disarmCmd s).runs = [] := by rw [hstate]
    refine ⟨disarmCmd s, onMain_of_pulseFrame hm hframe, rd_disarm_bstat, rd_disarm_qUsed, hqueue, hruns, rdN_disarm_actDisarm, ?_,
      hreads⟩
    rw [hqueue, hruns]
    exact hstate

/-- Settles O18: each command is its effect in the wrapper of the main domain, which a link below 64 passes. -/
theorem everyBellowsCommandCompletes : Obligations.EveryBellowsCommandCompletes := by
  intro s hm
  have link {l : Nat} (f : State → State) : l < 64 → onMain (l < 64) s f = .next ((f s).keepIsland s) := onMain_unit f hm
  have whole (f : State → State) : onMain true s f = .next ((f s).keepIsland s) := onMain_run f rfl hm
  exact ⟨fun l sof groups => link (upstreamFrameRx l sof groups), fun l => link (upstreamWindowClose l), fun v => whole (bctlWrite v),
    fun l v => link (lctlWrite l v), fun l => link (linkResync l), whole actionAccept, whole slotAssemble, whole downstreamFrameSend,
    whole actionRetire, whole armCmd, whole disarmCmd, whole kick, whole testAct, whole testActionCheck, whole bellowsClear,
    whole bellowsWdogExpiry, whole bellowsDisarmInput⟩

end Sys2Proof.Machine
end

section
/-! The statements of 10_belt_feedback_and_axes.md. -/

namespace Sys2Proof.Machine

/-- Settles O19: each command is its effect in the wrapper of the main domain, which a feedback channel below 24 and a Hall state
below 8 pass. -/
theorem everyFeedbackCommandCompletes : Obligations.EveryFeedbackCommandCompletes := by
  intro s hm
  have channel {n : Nat} (f : State → State) : n < 24 → onMain (n < 24) s f = .next ((f s).keepIsland s) := onMain_unit f hm
  exact ⟨fun n h run sub hn hh => onMain_run (hallEdge n h run sub) (by simp [hn, hh]) hm,
    fun n => channel (fbSpeedRefresh n), fun n => channel (speedTimeout n), fun n => channel (fbSetPos n),
    fun n => channel (armIndex n), fun n => channel (disarmIndex n), fun n v => channel (fbCtlWrite n v)⟩

/-- Settles O20: each command is its effect in the wrapper of the main domain, which a feedback channel below 24 and an axis below 16
pass. -/
theorem everyAxisCommandCompletes : Obligations.EveryAxisCommandCompletes := by
  intro s hm
  have axis {a : Nat} (f : State → State) : a < 16 → onMain (a < 16) s f = .next ((f s).keepIsland s) := onMain_unit f hm
  exact ⟨fun n level run sub => onMain_unit (indexEventCmd n level run sub) hm,
    fun a => axis (axisTick a),
    fun a b cs => axis (chopUpperReached a b cs), fun a b cs => axis (chopLowerReached a b cs),
    fun a b => axis (chopDriveStart a b), fun a b => axis (chopBlankEnd a b), fun a => axis (holdDelayExpiry a),
    fun a hi level run => axis (limitAssert a hi level run), fun a hi level run => axis (limitDeassert a hi level run),
    fun a => axis (push a), fun a => axis (axStopCmd a), fun a => axis (estop a), fun a => axis (home a), fun a => axis (clrLim a),
    fun a => axis (axSetPos a), fun a => axis (gearOn a), fun a => axis (gearArm a), fun a => axis (gearCancel a),
    fun a => axis (stallRearm a), fun a => axis (axGo a), fun a => axis (axStop a), fun a v => axis (axCtlWrite a v)⟩

end Sys2Proof.Machine
end

section
/-! What each command leaves of the island's fuses, of the guardian cores' memories and of the hold of a power-on reset (R433, R434, R436,
R369); then the statements about every step and every command. -/

namespace Sys2Proof.Machine

variable {s t : State}

/-! Effects that leave the sources of a power-on reset alone. -/

/-- The fuses (R436), the guardian cores' memories (R369) and the sources of the power-on reset (R434) are those of `s`, and a main domain in
reset stays there. -/
structure IslandKept (s t : State) : Prop where
  fuses : t.fuses = s.fuses
  guardMem : t.guardMem = s.guardMem
  inPor : t.inPor = s.inPor
  mainReset : s.mainReset = true → t.mainReset = true

theorem IslandKept.refl (s : State) : IslandKept s s := ⟨rfl, rfl, rfl, id⟩

theorem IslandKept.trans {u : State} (h : IslandKept s t) (h' : IslandKept t u) : IslandKept s u :=
  ⟨h'.fuses.trans h.fuses, h'.guardMem.trans h.guardMem, h'.inPor.trans h.inPor, fun hm => h'.mainReset (h.mainReset hm)⟩

theorem IslandKept.ite {c : Prop} {_ : Decidable c} {u : State} (h : IslandKept s t) (h' : IslandKept s u) :
    IslandKept s (if c then t else u) := by
  split
  · exact h
  · exact h'

theorem evTouches.islandKept {l : List Nat} (h : evTouches s t l) : IslandKept s t := by
  rw [h.1]
  exact ⟨rfl, rfl, rfl, id⟩

theorem IslandKept.touch {u : State} {l : List Nat} (h : IslandKept s t) (h' : evTouches t u l) : IslandKept s u := h.trans h'.islandKept

theorem txTouches.islandKept (h : txTouches s t) : IslandKept s t := by
  rw [h.1]
  exact ⟨rfl, rfl, rfl, id⟩

theorem islandKept_supErr (s : State) (b : Nat) : IslandKept s (s.supErr b) :=
  (IslandKept.refl s).ite (((IslandKept.refl s).touch (evTouches_sf s _ _ _)).touch (evTouches_record _ _ _ _))

theorem islandKept_twinRelease (s : State) : IslandKept s s.twinRelease := (IslandKept.refl s).ite ⟨rfl, rfl, rfl, id⟩

/-- A reset of the main domain (R433). -/
theorem islandKept_assertMain (s : State) (cause : Nat) : IslandKept s (s.assertMain cause) := by
  cases h : s.mainReset with
  | true =>
    rw [assertMain_of_reset cause h]
    exact (evTouches_sf s _ _ _).islandKept
  | false =>
    rw [assertMain_of_running cause h]
    have hcause : IslandKept s { s.resetCause cause with mainReset := true } := ⟨rfl, rfl, rfl, fun _ => rfl⟩
    have hcleared : IslandKept s { s.resetCause cause with mainReset := true }.twinRelease.mainCleared :=
      (hcause.trans (islandKept_twinRelease _)).trans ⟨rfl, rfl, rfl, id⟩
    exact hcleared.touch (evTouches_sf _ _ _ _)

/-- A core supply below its level (R423): the error, the count and the reset of the main domain. -/
theorem islandKept_supplyReset (s : State) (cause : Nat) :
    IslandKept s (((s.supErr 1).when (!s.mainReset) (·.cnt R.SUP_CORE_RESETS)).assertMain cause) := by
  have hcount : IslandKept s ((s.supErr 1).when (!s.mainReset) (·.cnt R.SUP_CORE_RESETS)) :=
    when_keeps _ (islandKept_supErr s 1) fun h => h.touch (evTouches_cnt _ _)
  exact hcount.trans (islandKept_assertMain _ _)

/-- A supply that holds the main domain in reset (R423) is no source of a power-on reset. -/
theorem islandKept_coreUv (s : State) : IslandKept s { s with hold := { s.hold with coreUv := true } } := ⟨rfl, rfl, rfl, id⟩

theorem islandKept_vddCoreUv (s : State) (mv : Nat) : IslandKept s (vddCoreUv mv s) := by
  have hlevel : IslandKept s (s.vcore mv) := (evTouches_sf s _ _ _).islandKept
  unfold vddCoreUv
  exact hlevel.ite ((hlevel.trans (islandKept_coreUv _)).trans (islandKept_supplyReset _ 0))

theorem islandKept_vddSramUv (s : State) : IslandKept s (vddSramUv s) := by
  have hheld : IslandKept s { s with hold := { s.hold with sramUv := true } } := ⟨rfl, rfl, rfl, id⟩
  exact (IslandKept.refl s).ite (hheld.trans (islandKept_supplyReset _ 1))

theorem islandKept_resetNAssert (s : State) : IslandKept s (resetNAssert s) := by
  have hheld : IslandKept s { s with hold := { s.hold with pin := true } } := ⟨rfl, rfl, rfl, id⟩
  exact hheld.ite (hheld.trans (islandKept_assertMain _ 4))

theorem islandKept_debugReset (s : State) : IslandKept s (debugReset s) := (IslandKept.refl s).ite (islandKept_assertMain s 5)

theorem islandKept_feedOk (s : State) (ok : Nat) : IslandKept s (s.feedOk ok) :=
  (IslandKept.refl s).ite (((IslandKept.refl s).touch (evTouches_sf s _ _ _)).touch (evTouches_fire _ _))

/-! The JTAG port (R473). -/

/-- An instruction is bypassed under JTAG_DIS, and else does its own part. -/
theorem islandKept_privateIr {f : State → State} (code : Nat) (h : ∀ u, IslandKept u (f u)) : IslandKept s (s.privateIr code f) := by
  have hir : IslandKept s (s.ir code) := ⟨rfl, rfl, rfl, id⟩
  have hbypass : IslandKept s (s.tapBypass code) := ⟨rfl, rfl, rfl, id⟩
  exact hbypass.ite (hir.trans (h _))

/-- What the debug module does is a command of the main domain, which acts out of reset only. -/
theorem islandKept_dmi (s : State) (h : Nat) (act : CoreAct) : IslandKept s (dmi h act s) := by
  refine islandKept_privateIr 0x11 fun u => ?_
  cases hm : u.mainReset with
  | true => simpa only [hm, if_true] using IslandKept.refl u
  | false =>
    have hmain (v : State) (o : Output) : IslandKept u ((v.keepIsland u).emit o) := ⟨rfl, rfl, rfl, fun h => absurd (hm.symm.trans h) nofun⟩
    simp only [Bool.false_eq_true, if_false]
    cases act with
    | debug halt => exact ((IslandKept.refl u).touch (evTouches_sf u _ _ _)).ite (IslandKept.refl u)
    | load a n => exact hmain _ _
    | store a n v => exact hmain _ _
    | _ => exact IslandKept.refl u

/-! The sources of the power-on reset (R434). -/

/-- The end of a source leaves the main domain in reset: it writes the island's own state only. -/
theorem islandKept_islandRelease (s : State) (twinId : Bool) : IslandKept s (s.islandRelease twinId) := by
  have hfused : IslandKept s { s with porCyc := s.cyc, jtagDis := (SMap.get (fun _ => (0 : Word)) s.fuses 0).getLsbD 5 } :=
    ⟨rfl, rfl, rfl, id⟩
  exact (IslandKept.refl s).ite ((hfused.touch (evTouches_sf _ _ _ _)).touch (evTouches_wr _ _ _))

/-- What holds the main domain in reset (R434). -/
def State.mainHeld (s : State) : Bool := s.inPor || s.hold.pin || s.hold.coreUv || s.hold.sramUv

/-- Out of reset, or held in it, the main domain does not answer a release. -/
theorem mainResetRelease_of_held {bootMode : Nat} (h : s.mainReset = false ∨ s.mainHeld = true) : mainResetRelease bootMode s = s := by
  refine if_pos ?_
  simp only [State.mainHeld, State.inPor] at h
  obtain h | h := h
  · simp [h]
  · simp only [Bool.or_assoc] at h ⊢
    rw [h, Bool.or_true]

/-- The main domain at its reset values and out of reset (R417, R434). -/
def State.mainReleased (s : State) : State := { s.mainCleared with mainReset := false, hbStop := false, calWant := calAll }

/-- Released, it leaves reset, and registers take the straps. -/
theorem evTouches_mainResetRelease (bootMode : Nat) (hm : s.mainReset = true) (hheld : s.mainHeld = false) :
    evTouches s.mainReleased (mainResetRelease bootMode s) [R.GUARD_GSTAT, R.QSPI_BOOT_STAT, R.SYS_CORE_STAT] := by
  simp only [State.mainHeld, State.inPor] at hheld
  have hopen : (!s.mainReset || s.hold.por || s.hold.feeds || s.hold.pin || s.hold.coreUv || s.hold.sramUv) = false := by
    simpa only [hm, Bool.or_assoc, Bool.not_true, Bool.false_or] using hheld
  have hstat := ((evTouches_refl s.mainReleased [R.GUARD_GSTAT, R.QSPI_BOOT_STAT, R.SYS_CORE_STAT]).sf (a := R.GUARD_GSTAT)
    F.GUARD_GSTAT_MAIN_IN_RESET 0 (by simp)).wrN (a := R.QSPI_BOOT_STAT)
      ((s.mainReleased.sf R.GUARD_GSTAT F.GUARD_GSTAT_MAIN_IN_RESET 0).bootStat bootMode) (by simp)
  unfold mainResetRelease
  simp only [hopen, Bool.false_eq_true, if_false]
  split
  · exact hstat.sf _ _ (by simp)
  · exact hstat

/-- A release takes place outside a power-on reset, and does not begin one. -/
theorem porHoldsMain_mainResetRelease (bootMode : Nat) (h : porHoldsMain s) : porHoldsMain (mainResetRelease bootMode s) := by
  by_cases hc : s.mainReset = false ∨ s.mainHeld = true
  · rwa [mainResetRelease_of_held hc]
  · obtain ⟨hm, hheld⟩ := not_or.mp hc
    have htouch := (evTouches_mainResetRelease bootMode (Bool.eq_true_of_not_eq_false hm) (Bool.eq_false_of_not_eq_true hheld)).islandKept
    have hpor : s.inPor = false := by
      simp only [State.mainHeld, Bool.or_eq_true, not_or, Bool.not_eq_true] at hheld
      exact hheld.1.1.1
    exact fun habs => absurd ((htouch.inPor.symm.trans habs).symm.trans hpor) nofun

theorem guardMem_fuses_mainResetRelease (bootMode : Nat) :
    (mainResetRelease bootMode s).guardMem = s.guardMem ∧ (mainResetRelease bootMode s).fuses = s.fuses := by
  by_cases hc : s.mainReset = false ∨ s.mainHeld = true
  · rw [mainResetRelease_of_held hc]
    exact ⟨rfl, rfl⟩
  · obtain ⟨hm, hheld⟩ := not_or.mp hc
    have htouch := (evTouches_mainResetRelease bootMode (Bool.eq_true_of_not_eq_false hm) (Bool.eq_false_of_not_eq_true hheld)).islandKept
    exact ⟨htouch.guardMem, htouch.fuses⟩

/-! Every command. -/

/-- What command `c` leaves: the fuses but for FUSE_PROG (R436), the guardian cores' memories but for those cores' own commands and the
power-on resets (R369, R434), and the hold of a power-on reset on the main domain (R433). -/
structure StepKept (c : Instr) (s t : State) : Prop where
  fuses : t.fuses = s.fuses ∨ ∃ mv temp, c = .fuseProg mv temp
  guardMem : t.guardMem = s.guardMem ∨ c.domain = .guardian ∨ c = .porAssert ∨ c = .bothAonFeedsLost
  porHoldsMain : porHoldsMain s → porHoldsMain t

theorem IslandKept.porHoldsMain (h : IslandKept s t) (hs : porHoldsMain s) : porHoldsMain t :=
  fun hpor => h.mainReset (hs (h.inPor ▸ hpor))

theorem IslandKept.stepKept (h : IslandKept s t) (c : Instr) : StepKept c s t := ⟨.inl h.fuses, .inl h.guardMem, h.porHoldsMain⟩

/-- Out of power-on reset, and with the reset sources kept, there is no hold to keep. -/
theorem porHoldsMain_of_hold (hpor : s.inPor = false) (h : t.hold = s.hold) : porHoldsMain t := by
  have htpor : t.inPor = false := by rw [State.inPor, h]; exact hpor
  exact fun habs => absurd (htpor.symm.trans habs) nofun

/-- The wrappers of the domains keep it, whatever the effect. -/
theorem stepKept_of_domain {c : Instr} (hd : c.domain ≠ .always) (h : exec c s = .next t) : StepKept c s t := by
  obtain ⟨must, f, hexec⟩ := exec_eq_onMust_run c
  rw [hexec s] at h
  obtain ⟨-, h⟩ := onMust_next h
  cases hdom : c.domain with
  | main =>
    rw [hdom] at h
    obtain ⟨-, ⟨-, rfl⟩ | ⟨hm, rfl⟩⟩ := onMain_next h
    · exact (IslandKept.refl _).stepKept c
    · exact ⟨.inl rfl, .inl rfl, fun hs hpor => absurd (hm.symm.trans (hs hpor)) nofun⟩
  | island =>
    rw [hdom] at h
    obtain ⟨-, ⟨-, rfl⟩ | ⟨hp, rfl⟩⟩ := onIsland_next h
    · exact (IslandKept.refl _).stepKept c
    · exact ⟨.inl rfl, .inl rfl, fun _ => porHoldsMain_of_hold hp rfl⟩
  | guardian =>
    rw [hdom] at h
    obtain ⟨-, ⟨-, rfl⟩ | ⟨hp, rfl⟩⟩ := onGuard_next h
    · exact (IslandKept.refl _).stepKept c
    · exact ⟨.inl rfl, .inr (.inl hdom), fun _ => porHoldsMain_of_hold hp rfl⟩
  | always => exact absurd hdom hd

/-- An effect that acts in every reset state keeps what it keeps without the queue and the clock too. -/
theorem StepKept.onAlways {c : Instr} {ok : Bool} {f : State → State} (hf : StepKept c s (f s)) (h : onAlways ok s f = .next t) :
    StepKept c s t := by
  obtain ⟨-, rfl⟩ := onAlways_next h
  exact ⟨hf.fuses, hf.guardMem, hf.porHoldsMain⟩

/-- What follows on a kept step keeps too. -/
theorem StepKept.trans {c : Instr} {u : State} (h : StepKept c s t) (h' : IslandKept t u) : StepKept c s u :=
  ⟨h.fuses.imp_left h'.fuses.trans, h.guardMem.imp_left h'.guardMem.trans, fun hs => h'.porHoldsMain (h.porHoldsMain hs)⟩

/-- The end of a source of the power-on reset: the main domain, which it held in reset, stays there. -/
theorem stepKept_sourceEnd (c : Instr) (x : ResetHold) (twinId : Bool) (hpor : s.inPor = true) :
    StepKept c s ({ s with hold := x }.islandRelease twinId) := by
  have h := islandKept_islandRelease { s with hold := x } twinId
  exact ⟨.inl h.fuses, .inl h.guardMem, fun hs _ => h.mainReset (hs hpor)⟩

theorem stepKept_porRelease (c : Instr) (twinId : Bool) : StepKept c s (porRelease twinId s) := by
  unfold porRelease
  split
  · rename_i hpor
    exact stepKept_sourceEnd c _ twinId (by simp [State.inPor, hpor])
  · exact (IslandKept.refl s).stepKept c

theorem stepKept_aonFeedOk (c : Instr) (x : Nat) (oneMs twinId : Bool) : StepKept c s (aonFeedOk x oneMs twinId s) := by
  have hend : StepKept c s (if s.hold.feeds && oneMs then { s with hold := { s.hold with feeds := false } }.islandRelease twinId else s) := by
    split
    · rename_i hfeeds
      rw [Bool.and_eq_true] at hfeeds
      exact stepKept_sourceEnd c _ twinId (by simp [State.inPor, hfeeds.1])
    · exact (IslandKept.refl s).stepKept c
  unfold aonFeedOk
  exact hend.trans ((IslandKept.refl _).ite (islandKept_feedOk _ _))

/-- A power-on reset takes the main domain with it (R433); the fuses stay (R436). -/
theorem stepKept_assertPor {c : Instr} (x : ResetHold) (hc : c = .porAssert ∨ c = .bothAonFeedsLost) :
    StepKept c s { s with hold := x }.assertPor := ⟨.inl rfl, .inr (.inr hc), fun _ _ => rfl⟩

/-- FUSE_PROG is a bypass, or blows the bits of FUSE_DATA in the word of FUSE_SEL, under the conditions of R474. -/
theorem fuseProg_cases (mv : Nat) (temp : Int) (s : State) :
    fuseProg mv temp s = s.tapBypass 0x22 ∨
      (s.jtagDis = false ∧ 1710 ≤ mv ∧ mv ≤ 1890 ∧ 0 ≤ temp ∧ temp ≤ 85) ∧
        fuseProg mv temp s =
          { s.tapBypass 0x22 with fuses := SMap.set (fun _ => 0) s.fuses s.fuseSel (s.fuseWord s.fuseSel ||| s.fuseData) } := by
  unfold fuseProg State.privateIr
  cases hdis : s.jtagDis with
  | true => exact .inl rfl
  | false =>
    simp only [Bool.false_eq_true, if_false]
    split
    · rename_i hcond
      simp only [Bool.and_eq_true, decide_eq_true_eq, and_assoc] at hcond
      exact .inr ⟨⟨trivial, hcond⟩, rfl⟩
    · exact .inl rfl

theorem stepKept_fuseProg (mv : Nat) (temp : Int) (s : State) : StepKept (.fuseProg mv temp) s (fuseProg mv temp s) := by
  have hbypass : IslandKept s (s.tapBypass 0x22) := ⟨rfl, rfl, rfl, id⟩
  obtain h | ⟨-, h⟩ := fuseProg_cases mv temp s
  · rw [h]
    exact hbypass.stepKept _
  · rw [h]
    exact ⟨.inr ⟨mv, temp, rfl⟩, .inl rfl, hbypass.porHoldsMain⟩

/-- The resets, the supplies and the JTAG port, command by command. -/
theorem stepKept_of_always {c : Instr} (hd : c.domain = .always) (h : exec c s = .next t) : StepKept c s t := by
  have kept (f : State → State) (hexec : exec c s = onAlways c.wf s f) (hf : IslandKept s (f s)) : StepKept c s t :=
    (hf.stepKept c).onAlways (hexec.symm.trans h)
  cases c with
  | vddCoreUv mv => exact kept (vddCoreUv mv) rfl (islandKept_vddCoreUv s mv)
  | vddSramUv => exact kept vddSramUv rfl (islandKept_vddSramUv s)
  | resetNAssert => exact kept resetNAssert rfl (islandKept_resetNAssert s)
  | debugReset => exact kept debugReset rfl (islandKept_debugReset s)
  | dmi hart act => exact ((islandKept_dmi s hart act).stepKept _).onAlways (onMust_next h).2
  | resetNRelease => exact kept resetNRelease rfl ⟨rfl, rfl, rfl, id⟩
  | mainSupplyRelease => exact kept mainSupplyRelease rfl ⟨rfl, rfl, rfl, id⟩
  | extest cells shift => exact kept (extest cells shift) rfl ⟨rfl, rfl, rfl, id⟩
  | samplePreload cells shift => exact kept (samplePreload cells shift) rfl ⟨rfl, rfl, rfl, id⟩
  | extestPulse cells shift => exact kept (extestPulse cells shift) rfl ⟨rfl, rfl, rfl, id⟩
  | extestTrain cells shift => exact kept (extestTrain cells shift) rfl ⟨rfl, rfl, rfl, id⟩
  | bypass code => exact kept (bypass code) rfl ⟨rfl, rfl, rfl, id⟩
  | idcode => exact kept idcode rfl ⟨rfl, rfl, rfl, id⟩
  | highz => exact kept highz rfl ⟨rfl, rfl, rfl, id⟩
  | clamp => exact kept clamp rfl ⟨rfl, rfl, rfl, id⟩
  | dtmcs => exact kept dtmcs rfl (islandKept_privateIr 0x10 fun _ => ⟨rfl, rfl, rfl, id⟩)
  | fuseSel addr => exact kept (fuseSelect addr) rfl (islandKept_privateIr 0x20 fun _ => ⟨rfl, rfl, rfl, id⟩)
  | fuseData v => exact kept (fuseDataIr v) rfl (islandKept_privateIr 0x21 fun _ => ⟨rfl, rfl, rfl, id⟩)
  | mainResetRelease mode =>
    obtain ⟨hguard, hfuses⟩ := guardMem_fuses_mainResetRelease (s := s) mode
    exact (StepKept.mk (.inl hfuses) (.inl hguard) (porHoldsMain_mainResetRelease mode)).onAlways (f := mainResetRelease mode) (ok := mode < 4) h
  | porRelease twinId => exact (stepKept_porRelease _ twinId).onAlways (f := porRelease twinId) (ok := true) h
  | aonFeedOk x oneMs twinId => exact (stepKept_aonFeedOk _ x oneMs twinId).onAlways (f := aonFeedOk x oneMs twinId) (ok := x < 2) h
  | porAssert => exact (stepKept_assertPor _ (.inl rfl)).onAlways (f := porAssert) (ok := true) h
  | bothAonFeedsLost => exact (stepKept_assertPor _ (.inr rfl)).onAlways (f := bothAonFeedsLost) (ok := true) h
  | fuseProg mv temp => exact (stepKept_fuseProg mv temp s).onAlways (f := fuseProg mv temp) (ok := true) h
  | _ => cases hd

/-- Every command keeps what `StepKept` says. -/
theorem exec_stepKept {c : Instr} (h : exec c s = .next t) : StepKept c s t :=
  (em (c.domain = .always)).elim (fun hd => stepKept_of_always hd h) fun hd => stepKept_of_domain hd h

/-- A cycle of CLK_TIME (R433). -/
theorem islandKept_clockTick (s : State) : IslandKept s s.clockTick := by
  cases hm : s.mainReset with
  | true => rw [clockTick_of_reset hm]; exact ⟨rfl, rfl, rfl, id⟩
  | false =>
    have htick : IslandKept s s.timeTick := ⟨rfl, rfl, rfl, id⟩
    rw [clockTick_of_running hm]
    exact htick.trans (txTouches_linkTick _).islandKept

/-- A step is a cycle of CLK_TIME on an empty queue, or the command at its front. -/
theorem step_next (h : step s = .next t) :
    (s.pending = [] ∧ t = s.clockTick) ∨ ∃ c rest, s.pending = c :: rest ∧ exec c { s with pending := rest } = .next t := by
  unfold step at h
  split at h
  · rename_i hidle
    cases h
    exact .inl ⟨hidle, rfl⟩
  · rename_i c rest hq
    exact .inr ⟨c, rest, hq, h⟩

/-- What each command leaves, each step leaves of the command at the front. -/
theorem step_stepKept (h : step s = .next t) : IslandKept s t ∨ ∃ c rest, s.pending = c :: rest ∧ StepKept c s t := by
  obtain ⟨-, rfl⟩ | ⟨c, rest, hq, hexec⟩ := step_next h
  · exact .inl (islandKept_clockTick s)
  · obtain ⟨hfuses, hguard, hpor⟩ := exec_stepKept hexec
    exact .inr ⟨c, rest, hq, hfuses, hguard, hpor⟩

/-! Fuses (R436, R474). -/

/-- Bits blown into a word leave what is blown, and reach no other word. -/
theorem fuseBlown_set {v : Word} (i : Nat) (ht : t.fuses = SMap.set (fun _ => 0) s.fuses i (s.fuseWord i ||| v)) (w b : Nat) :
    fuseBlown t w b = (fuseBlown s w b || (decide (w = i) && v.getLsbD b)) := by
  rw [fuseBlown, ht, SMap.get_set]
  by_cases hw : w = i
  · subst hw
    simp [fuseBlown, State.fuseWord]
  · simp [fuseBlown, hw]

/-- FUSE_PROG changes the fuse array under the conditions of R474 only. -/
theorem exec_fuseProg_fuses {mv : Nat} {temp : Int} (h : exec (.fuseProg mv temp) s = .next t) :
    t.fuses = s.fuses ∨ (s.jtagDis = false ∧ 1710 ≤ mv ∧ mv ≤ 1890 ∧ 0 ≤ temp ∧ temp ≤ 85) ∧
      t.fuses = SMap.set (fun _ => 0) s.fuses s.fuseSel (s.fuseWord s.fuseSel ||| s.fuseData) := by
  obtain ⟨-, rfl⟩ := onAlways_next (f := fuseProg mv temp) (ok := true) h
  exact (fuseProg_cases mv temp s).imp (fun heffect => by rw [heffect]; rfl) fun ⟨hcond, heffect⟩ => ⟨hcond, by rw [heffect]; rfl⟩

/-! The own memories of the guardian cores (R369). -/

/-- Entries written into a map are read at their own keys only. -/
theorem get_foldl_set_ne {α β : Type} [DecidableEq β] (d : Nat → β) (key : α → Nat) (val : α → β) {k : Nat} (l : List α) :
    ∀ m : SMap β, (∀ e ∈ l, k ≠ key e) → (l.foldl (fun m e => SMap.set d m (key e) (val e)) m).get d k = m.get d k := by
  induction l with
  | nil => exact fun _ _ => rfl
  | cons e l ih =>
    intro m h
    rw [List.foldl_cons, ih _ fun e' he => h e' (List.mem_cons_of_mem e he), SMap.get_set_ne _ _ _ (h e List.mem_cons_self)]

/-- Bytes within the 64 KiB of core `g` leave the other core's. -/
theorem get_guardBytes_ne {g o a : Nat} (bs : List (BitVec 8)) (m : SMap (BitVec 8)) (hfit : o + bs.length ≤ 65536) (ha : a / 65536 ≠ g) :
    SMap.get (fun _ => 0) (bs.zipIdx.foldl (fun m e => SMap.set (fun _ => 0) m (65536 * g + o + e.2) e.1) m) a
      = SMap.get (fun _ => 0) m a := by
  refine get_foldl_set_ne _ (fun e : BitVec 8 × Nat => 65536 * g + o + e.2) (fun e : BitVec 8 × Nat => e.1) _ m fun e he => ?_
  have := List.snd_lt_of_mem_zipIdx he
  omega

theorem guardByteAt_of_guardMem (h : t.guardMem = s.guardMem) (a : Nat) : guardByteAt t a = guardByteAt s a := by
  rw [guardByteAt, guardByteAt, h]

/-- An instruction of core `g` stores into its own 64 KiB only. -/
theorem guardByteAt_guardAct {g a : Nat} (act : CoreAct) (ha : a / 65536 ≠ g) : guardByteAt (s.guardAct g act) a = guardByteAt s a := by
  cases act with
  | privStore o n v =>
    simp only [State.guardAct]
    split
    · rename_i hfit
      exact get_guardBytes_ne _ _ (by rw [length_leBytes]; exact hfit) ha
    · rfl
  | load _ _ | store _ _ _ | fetch _ | privLoad _ _ =>
    refine guardByteAt_of_guardMem ?_ a
    simp only [State.guardAct]
    repeat' split
    all_goals rfl
  | _ => rfl

theorem guardByteAt_guardInstruction {g a : Nat} (act : CoreAct) (ha : a / 65536 ≠ g) :
    guardByteAt (guardInstruction g act s) a = guardByteAt s a := by
  unfold guardInstruction
  split
  · exact guardByteAt_guardAct act ha
  · rfl

/-- The section that the island ROM loads lies in the 64 KiB of its core (R441). -/
theorem guardByteAt_islandRomLoad {g a : Nat} (ha : a / 65536 ≠ g) : guardByteAt (islandRomLoad g s) a = guardByteAt s a := by
  unfold islandRomLoad
  split
  · rfl
  · extract_lets _ src n want ok x u b
    split
    · rename_i hfit
      simp only [Bool.and_eq_true, decide_eq_true_eq, and_assoc] at hfit
      refine get_guardBytes_ne (o := 0) b _ ?_ ha
      simp only [b, State.cohBytes, List.length_map, List.length_range, Nat.zero_add]
      exact hfit.1
    · exact guardByteAt_of_guardMem ((evTouches_fire _ _).islandKept.guardMem) a

/-! The statements. -/

/-- Settles O5: the wrapper of the main domain answers the state itself while that domain is in reset. -/
theorem mainDomainCommandsAreInertInReset : Obligations.MainDomainCommandsAreInertInReset := by
  intro c s hmain hwf hreset
  have hdom : c.domain = .main := by simp [Instr.domain, hmain]
  obtain ⟨must, f, hexec⟩ := exec_eq_onMust_run c
  have hrun : c.domain.run c.wf s f = .next s := by
    rw [hdom]
    exact onMain_reset f hwf hreset
  rw [hexec s, hrun]
  exact onMust_eq_or_fault _ _

/-- Settles O7: FUSE_PROG, alone among the commands, writes the array, and it writes the old word or the new bits. -/
theorem blownFusesStayBlown : Obligations.BlownFusesStayBlown := by
  intro s t h
  have of_kept (hf : t.fuses = s.fuses) (w b : Nat) (hb : fuseBlown s w b = true) : fuseBlown t w b = true := by
    rwa [fuseBlown, hf]
  obtain ⟨-, rfl⟩ | ⟨c, rest, hq, hexec⟩ := step_next h
  · have hf := (islandKept_clockTick s).fuses
    exact ⟨of_kept hf, fun hne => absurd hf hne⟩
  · obtain hf | ⟨mv, temp, rfl⟩ := (exec_stepKept hexec).fuses
    · exact ⟨of_kept hf, fun hne => absurd hf hne⟩
    · obtain hf | ⟨⟨hdis, hlow, hhigh, hcold, hhot⟩, hf⟩ := exec_fuseProg_fuses hexec
      · exact ⟨of_kept hf, fun hne => absurd hf hne⟩
      · have hset := fuseBlown_set (s := s) (v := s.fuseData) s.fuseSel hf
        refine ⟨fun w b hb => by rw [hset, hb, Bool.true_or], fun _ => ⟨mv, temp, rest, hq, hdis, hlow, hhigh, hcold, hhot, ?_⟩⟩
        intro w b hw
        rw [hset, decide_eq_false hw, Bool.false_and, Bool.or_false]

/-- Settles O8: a guardian core's own commands write its own 64 KiB, and every other command but a power-on reset leaves the memories. -/
theorem guardianMemoryIsReachedByItsCoreOnly : Obligations.GuardianMemoryIsReachedByItsCoreOnly := by
  intro s t h a hne
  obtain ⟨-, rfl⟩ | ⟨c, rest, hq, hexec⟩ := step_next h
  · exact absurd (guardByteAt_of_guardMem (islandKept_clockTick s).guardMem a) hne
  · refine ⟨c, rest, hq, ?_⟩
    obtain hkept | hguard | rfl | rfl := (exec_stepKept hexec).guardMem
    · exact absurd (guardByteAt_of_guardMem hkept a) hne
    · have own {g : Nat} {f : State → State} (hf : a / 65536 ≠ g → guardByteAt (f { s with pending := rest }) a = guardByteAt s a)
          {ok : Bool} (hout : onGuard ok { s with pending := rest } f = .next t) : a / 65536 = g := by
        obtain ⟨-, ⟨-, rfl⟩ | ⟨-, rfl⟩⟩ := onGuard_next hout
        · exact absurd rfl hne
        · exact of_not_not fun hg => hne (hf hg)
      cases c with
      | guardInstruction g act =>
        have hg := own (f := guardInstruction g act) (fun ha => guardByteAt_guardInstruction act ha) (onMust_next hexec).2
        exact .inr (.inr (.inl ⟨act, by rw [hg]⟩))
      | islandRomLoad g =>
        have hg := own (f := islandRomLoad g) (fun ha => guardByteAt_islandRomLoad ha) (ok := g < 2) hexec
        exact .inr (.inr (.inr (by rw [hg])))
      | _ => cases hguard
    · exact .inl rfl
    · exact .inr (.inl rfl)

/-- Settles O9: every command keeps the hold, and so does a cycle of CLK_TIME. -/
theorem powerOnResetHoldsTheMainDomain : Obligations.PowerOnResetHoldsTheMainDomain := by
  intro s t hs h
  obtain hkept | ⟨c, rest, -, hkept⟩ := step_stepKept h
  · exact hkept.porHoldsMain hs
  · exact hkept.porHoldsMain hs

/-- Settles O10: no power-on source holds the island in the reset state. -/
theorem powerOnInvariantHoldsAtReset : Obligations.PowerOnInvariantHoldsAtReset :=
  fun hpor => absurd hpor Bool.false_ne_true

end Sys2Proof.Machine
end

section
/-! The completion statements of 11_memory.md to 17_bring_up.md: each command is its effect in the wrapper of its domain. -/

namespace Sys2Proof.Machine

/-- Settles O21: a memory channel below 6 and a bank below 16 pass the wrapper of the main domain. -/
theorem everyMemoryControllerCommandCompletes : Obligations.EveryMemoryControllerCommandCompletes := by
  intro s hm
  have channel {n : Nat} (f : State → State) : n < 6 → onMain (n < 6) s f = .next ((f s).keepIsland s) := onMain_unit f hm
  exact ⟨fun n rd wr ecc => channel (trainingDone n rd wr ecc), fun v => onMain_run (mcCtlWrite v) rfl hm, fun n => channel (evac n),
    fun n => channel (evacCancel n), fun n => channel (chTrain n), fun n => channel (refill n), fun n => channel (retire n),
    fun n => channel (refreshDue n), fun n => channel (refreshIssue n), fun n => channel (channelTempSample n),
    fun n => channel (hotZoneExit n), fun n v => channel (devTempWrite n v), fun n => channel (devTempStale n),
    fun tag addr len wr data => onMain_run (memRequest tag addr len wr data) rfl hm, fun n => channel (memCommandIssue n),
    fun n ecc w => channel (memReadDone n ecc w), fun n b hn hb => onMain_run (rowIdleClose n b) (by simp [hn, hb]) hm,
    fun n => channel (refreshWindowBoundary n), fun n ue => channel (migrateBlock n ue), onMain_run mcInit rfl hm,
    onMain_run applyTable rfl hm⟩

/-- Settles O22: a DMA channel below 32 passes the wrapper of the main domain, and an element write its check of R12. -/
theorem everyDmaCommandCompletes : Obligations.EveryDmaCommandCompletes := by
  intro s hm
  have channel {c : Nat} (f : State → State) : c < 32 → onMain (c < 32) s f = .next ((f s).keepIsland s) := onMain_unit f hm
  exact ⟨fun c => channel (dmaStart c), fun c => channel (dmaAbort c), fun c => channel (dmaResume c), fun c => channel (doorbellRing c),
    fun c v => channel (dmaChCtlWrite c v), fun c => channel (dmaTriggerInput c), fun c => channel (descFetchDone c),
    fun ready => onMain_run (dmaElementIssue ready) rfl hm,
    fun c hc hmust => (onMust_run hmust _).trans (channel (dmaReadData c) hc),
    fun c k => channel (dmaWriteAck c k), fun c => channel (nextReadDone c),
    fun c dir k hc hdir => onMain_run (dmaErrorCmd c dir k) (by simp [hc, hdir]) hm, fun c => channel (descWriteBackDone c)⟩

/-- Settles O23: a Firn engine below 8 passes the wrapper of the main domain. -/
theorem everyFirnCommandCompletes : Obligations.EveryFirnCommandCompletes := by
  intro s hm
  have engine {e : Nat} (f : State → State) : e < 8 → onMain (e < 8) s f = .next ((f s).keepIsland s) := onMain_unit f hm
  exact ⟨fun e => engine (firnStart e), fun e => engine (firnAbort e), fun e => engine (dropCtx e), fun e v => engine (firnEctlWrite e v),
    fun e v => engine (jobWrWrite e v), fun e => engine (firnJobStart e), fun e fault => engine (firnJobEnd e fault),
    fun e stall => engine (firnPacketSend e stall)⟩

/-- Settles O24: a pulse generator below 16, a capture input below 4 and a speed of the MAC pass the wrapper of the main domain. -/
theorem everyTimeCommandCompletes : Obligations.EveryTimeCommandCompletes := by
  intro s hm
  have whole (f : State → State) : onMain true s f = .next ((f s).keepIsland s) := onMain_run f rfl hm
  have generator {k : Nat} (f : State → State) : k < 16 → onMain (k < 16) s f = .next ((f s).keepIsland s) := onMain_unit f hm
  exact ⟨fun v => whole (incrNsWrite v), fun i => onMain_unit (capture i) hm,
    fun link speed full => onMain_unit (ethLinkStatus link speed full) hm, fun v => whole (txWrWrite v),
    fun frame fcsOk age => whole (rxFrame frame fcsOk age), fun v => whole (mdioGo v), fun data => whole (mdioDone data),
    fun k => generator (tpArm k), fun k => generator (tpStop k), fun k => generator (tpAbort k), fun k => generator (tpStartInput k),
    fun k => generator (tpEdgeCompute k), fun k => generator (tpLeadingEdge k), fun k => generator (tpTrailingEdge k), whole ptpLatch,
    whole ptpStep, whole ptpSlew, whole ptpSet, whole invalidate, whole slewStop, whole slewStep, whole alarm, whole second,
    whole txFrameStart, whole txFrameDone, whole tpHalt⟩

/-- Settles O25: a channel, a command register and a consumer input that exist pass the wrapper of the main domain. -/
theorem everyEventFabricCommandCompletes : Obligations.EveryEventFabricCommandCompletes := by
  intro s hm
  exact ⟨fun n => onMain_unit (channelEventArrive n) hm, fun n => onMain_unit (pendingEventDeliver n) hm,
    fun i v => onMain_unit (chFire i v) hm, fun i v => onMain_unit (swFire i v) hm,
    fun m cons i v => onMain_unit (evfRouteWrite m cons i v) hm, fun m => onMain_run (routeLock m) rfl hm,
    onMain_run warnBellows rfl hm, onMain_run warnAxes rfl hm⟩

/-- Settles O27: a path below 2 and the lanes 30 and 31 pass the wrapper of the main domain; the commands of the island pass that of
the island. -/
theorem everyTwinCommandCompletes : Obligations.EveryTwinCommandCompletes := by
  intro s
  constructor
  · intro hm
    have whole (f : State → State) : onMain true s f = .next ((f s).keepIsland s) := onMain_run f rfl hm
    have path {n : Nat} (f : State → State) : n < 2 → onMain (n < 2) s f = .next ((f s).keepIsland s) := onMain_unit f hm
    have lane {q : Nat} (f : State → State) (hq : (q == 30 || q == 31) = true) :
        onMain (q == 30 || q == 31) s f = .next ((f s).keepIsland s) := onMain_run f hq hm
    exact ⟨fun n => path (heartbeatMiss n), fun n => path (pathSilent n), fun q p => lane (decideRx q p), fun q p => lane (cycleEndRx q p),
      fun q p => lane (mirrorAckRx q p), fun q p => lane (checkRx q p), fun q p => lane (resyncReqRx q p), fun q p => lane (userRx q p),
      whole claim, whole join, whole handoverCmd, whole twinResync, whole userSend, whole partnerSilent, whole muxSettleExpiry,
      whole cycleEndSend, whole mirrorAckTimeout, whole matchWaitExpiry, whole checkBlockTimeout⟩
  · intro hp
    exact ⟨fun v => onIsland_run (tctlWrite v) rfl hp, fun level => onIsland_run (actInChange level) rfl hp,
      fun f hf => onIsland_run (heartbeatRx f) hf hp, onIsland_run claimWindowExpiry rfl hp, onIsland_run heartbeatSend rfl hp⟩

/-- Settles O28: a sensor, a device, a rail and a feed that exist pass the wrappers; the resets of the supplies act whatever the state. -/
theorem everySupplyCommandCompletes : Obligations.EverySupplyCommandCompletes := by
  intro s
  refine ⟨fun hm => ?main, fun hp => ?island, ?always⟩
  case main =>
    exact ⟨fun i reading valid => onMain_unit (tempSample i reading valid) hm, fun d => onMain_unit (calRunCmd d) hm,
      fun temp => onMain_run (calRunStart temp) rfl hm, fun res failed => onMain_run (calStagedCmd res failed) rfl hm⟩
  case island =>
    have rail {r n : Nat} (f : State → State) (hr : r < n) : onIsland (r < n) s f = .next ((f s).keepGuard s) :=
      onIsland_run f (decide_eq_true hr) hp
    exact ⟨fun mv => onIsland_run (vddCoreWarn mv) rfl hp, fun mv => onIsland_run (vddCoreWarnClear mv) rfl hp,
      fun r => rail (railLow r), fun r => rail (railLowClear r), fun x => rail (aonFeedLow x), fun x mv => rail (feedSenseLow x mv),
      fun x mv => rail (feedSenseOk x mv), fun v => onIsland_run (blockStickyClear v) rfl hp, onIsland_run errlogClear rfl hp⟩
  case always =>
    exact ⟨fun mv => onAlways_run (vddCoreUv mv) rfl,
      fun x oneMs twinId hx => onAlways_run (aonFeedOk x oneMs twinId) (decide_eq_true hx),
      onAlways_run vddSramUv rfl, onAlways_run mainSupplyRelease rfl, onAlways_run bothAonFeedsLost rfl⟩

/-- Settles O29: the boot ROM runs in the main domain, the island's with a guardian core below 2. -/
theorem everyBringUpCommandCompletes : Obligations.EveryBringUpCommandCompletes := by
  intro s
  exact ⟨fun hm slotA slotB uart sfdp long us => onMain_run (bootRomRun slotA slotB uart sfdp long us) rfl hm,
    fun hp g hg => onGuard_run (islandRomLoad g) (decide_eq_true hg) hp⟩

/-- Settles O30: RST_REQ is a command of the main domain, and the resets themselves act whatever the state. -/
theorem everyResetCommandCompletes : Obligations.EveryResetCommandCompletes := by
  intro s
  exact ⟨fun hm v => onMain_run (rstReq v) rfl hm, fun twinId => onAlways_run (porRelease twinId) rfl,
    fun mode hmode => onAlways_run (mainResetRelease mode) (decide_eq_true hmode), onAlways_run porAssert rfl,
    onAlways_run resetNAssert rfl, onAlways_run resetNRelease rfl, onAlways_run debugReset rfl⟩

/-- Settles O31: a UART below 2 and a result of the I2C below 3 pass the wrapper of the main domain. -/
theorem everyPeripheralCommandCompletes : Obligations.EveryPeripheralCommandCompletes := by
  intro s hm
  have uart {i : Nat} (f : State → State) : i < 2 → onMain (i < 2) s f = .next ((f s).keepIsland s) := onMain_unit f hm
  exact ⟨fun data busErr => onMain_run (qspiDone data busErr) rfl hm, fun i => uart (uartTxPush i), fun i => uart (uartRxPop i),
    fun i => uart (uartFlush i), fun i b framing parity => uart (uartByteRx i b framing parity), fun i => uart (uartByteSent i),
    fun result data => onMain_unit (iicDone result data) hm, onMain_run qspiGo rfl hm, onMain_run iicGo rfl hm,
    onMain_run iicTimeout rfl hm⟩

/-- Settles O32: the port acts whatever the state; a hart below 8 passes, and a register store through DMI its check of R12. -/
theorem everyJtagCommandCompletes : Obligations.EveryJtagCommandCompletes := by
  intro s
  exact ⟨fun cells shift => onAlways_run (extest cells shift) rfl, fun cells shift => onAlways_run (samplePreload cells shift) rfl,
    fun cells shift => onAlways_run (extestPulse cells shift) rfl, fun cells shift => onAlways_run (extestTrain cells shift) rfl,
    fun h act hh hmust => (onMust_run hmust _).trans (onAlways_run (dmi h act) (decide_eq_true hh)),
    fun addr => onAlways_run (fuseSelect addr) rfl, fun v => onAlways_run (fuseDataIr v) rfl,
    fun mv temp => onAlways_run (fuseProg mv temp) rfl, fun code => onAlways_run (bypass code) rfl, onAlways_run idcode rfl,
    onAlways_run highz rfl, onAlways_run clamp rfl, onAlways_run dtmcs rfl⟩

end Sys2Proof.Machine
end

section
/-! Errors that the refusals of a command set (R384), and what commands of the memory controller, of DMA and of Firn leave of their unit's
own state; then the statements of 11_memory.md and 12_dma_and_firn.md. -/

namespace Sys2Proof.Machine

variable {s t : State}

/-! Refusals. -/

/-- The registers that tell a byte's place stand at one offset of their blocks (R305). -/
theorem not_placesBytes {a : Nat} (h : a < 0x48000018 ∨ a % 0x400 ≠ 0x18) : ¬ placesBytes a := by
  simp only [placesBytes, R.MC_RES_BASE, R.MC_MIG_PTR]
  rintro (rfl | ⟨n, rfl⟩) <;> omega

/-- A command of the main domain that is refused raises its error and changes what that error changes. -/
theorem refuses {c : Instr} {f : State → State} {a n : Nat} {e : Site} (hexec : exec c s = .next ((f s).keepIsland s))
    (hf : f s = s.raise a n e) (hsite : e.blk < 32 ∧ e.src < 1280) (ha : 0x44003c10 ≤ a) (hplace : a < 0x48000018 ∨ a % 0x400 ≠ 0x18) :
    ∃ t, exec c s = .next t ∧ raisesOnly s t a n e := by
  refine ⟨s.raise a n e, ?_, raisesOnly_raise hsite.1 hsite.2 (.inr ha) (not_placesBytes hplace)⟩
  rw [hexec, hf, (evTouches_raise s a n e).keepIsland]

theorem refuses_mc {c : Instr} {f : State → State} {b : Nat} (hexec : exec c s = .next ((f s).keepIsland s)) (hf : f s = s.mcErr b) :
    ∃ t, exec c s = .next t ∧ raisesOnly s t R.MC_ERR b siteMc :=
  refuses hexec hf (by decide) (by decide) (.inl (by decide))

theorem refuses_dma {d : Instr} {c : Nat} {f : State → State} (hc : c < 32) (hexec : exec d s = .next ((f s).keepIsland s))
    (hf : f s = s.dmaErr c 5) : ∃ t, exec d s = .next t ∧ raisesOnly s t (R.DMA_CH_ERR c) 5 (siteDma c) := by
  refine refuses hexec hf ⟨?_, ?_⟩ ?_ (.inl ?_)
  all_goals simp only [siteDma, R.DMA_CH_ERR]; omega

theorem refuses_firn {c : Instr} {e : Nat} {f : State → State} (he : e < 8) (hexec : exec c s = .next ((f s).keepIsland s))
    (hf : f s = s.firnErr e 8) : ∃ t, exec c s = .next t ∧ raisesOnly s t (R.FIRN_EERR e) 8 (siteFirn e) := by
  refine refuses hexec hf ⟨?_, ?_⟩ ?_ (.inl ?_)
  all_goals simp only [siteFirn, R.FIRN_EERR]; omega

/-! The memory controller's channels (R298, R303, R304). -/

theorem mc_setMc_same (s : State) (n : Nat) (x : McCh) : (s.setMc n x).mc n = x := SMap.get_set_same ..

theorem mc_setMc_ne {n m : Nat} (x : McCh) (h : m ≠ n) : (s.setMc n x).mc m = s.mc m := SMap.get_set_ne _ _ _ h

/-- EVAC under a short reserve, or beside a channel in any other state than ACTIVE, DEAD and OFF (R303). -/
theorem evac_of_blocked {n : Nat} (hn : s.cst n = csActive)
    (h : s.resShort = true ∨ ∃ m, m < 6 ∧ m ≠ n ∧ s.cst m ≠ csActive ∧ s.cst m ≠ csDead ∧ s.cst m ≠ csOff) : evac n s = s.mcErr 1 := by
  unfold evac
  rw [if_neg (by simp [hn])]
  refine if_pos ?_
  obtain h | ⟨m, hm, hne, hactive, hdead, hoff⟩ := h
  · rw [h, Bool.true_or]
  · rw [Bool.or_eq_true, List.any_eq_true]
    exact .inr ⟨m, List.mem_range.mpr hm, by simp [hne, hactive, hdead, hoff]⟩

/-- A reading of a device's temperature is stored with its moment (R298). -/
theorem regFrame_devTemp (s : State) (n : Nat) (v : Word) : regFrame s (s.wr (R.MC_DEV_TEMP n) (v &&& 0xff)) [R.MC_DEV_TEMP n] :=
  (regFrame.refl s _).wr _ (by simp) (not_placesBytes (.inr (by simp only [R.MC_DEV_TEMP]; omega)))

/-! A DMA channel (R315, R317). -/

section
variable {c : Nat}

theorem dma_setDma_same (s : State) (c : Nat) (x : DmaX) : (s.setDma c x).dma c = x := SMap.get_set_same ..

theorem dma_setDma_ne {m : Nat} (x : DmaX) (h : m ≠ c) : (s.setDma c x).dma m = s.dma m := SMap.get_set_ne _ _ _ h

theorem rd_setDma (s : State) (c : Nat) (x : DmaX) (a : Nat) : (s.setDma c x).rd a = s.rd a := rfl

/-- The count of a doorbell. -/
def State.doorbellCounted (s : State) (c : Nat) : State := s.cnt (R.DMA_DOORBELLS c)

theorem rd_doorbellCounted {a : Nat} (h : a ≠ R.DMA_DOORBELLS c) : (s.doorbellCounted c).rd a = s.rd a := rd_cnt_ne h

theorem chStat_ne_doorbells (c : Nat) : R.DMA_CH_STAT c ≠ R.DMA_DOORBELLS c := by
  simp only [R.DMA_CH_STAT, R.DMA_DOORBELLS]; omega

theorem dst_doorbellCounted (s : State) (c : Nat) : (s.cnt (R.DMA_DOORBELLS c)).dst c = s.dst c :=
  gf_congr _ (rd_doorbellCounted (chStat_ne_doorbells c))

/-- The doorbell leaves DB_PEND, which the channel's next look at NEXT takes. -/
def State.doorbellPends (s : State) (c : Nat) : State :=
  if s.on (R.DMA_CH_STAT c) F.DMA_CH_STAT_DB_PEND then s
  else (s.sf (R.DMA_CH_STAT c) F.DMA_CH_STAT_DB_PEND 1).setDma c { s.dma c with ringAt := some s.cyc }

/-- What a doorbell does beyond its count, by the state of the channel before it (R315, R320). -/
theorem doorbellRing_eq (c : Nat) (s : State) :
    doorbellRing c s =
      if (s.dma c).startAt == some s.cyc || (s.dma c).abortAt == some s.cyc then s.doorbellCounted c
      else if s.dst c == dmParked then
        (if (s.dma c).wait == .again then (s.doorbellCounted c).doorbellPends c else (s.doorbellCounted c).dmaReadNext c .again true)
      else if s.dst c == dmRunning || s.dst c == dmAborting then (s.doorbellCounted c).doorbellPends c
      else s.doorbellCounted c := by
  rw [← dst_doorbellCounted s c]
  rfl

/-- One in the cycle of a START or an ABORT is counted only (R320). -/
theorem doorbellRing_of_gone (h : (s.dma c).startAt = some s.cyc ∨ (s.dma c).abortAt = some s.cyc) :
    doorbellRing c s = s.doorbellCounted c := by
  rw [doorbellRing_eq]
  exact if_pos (by simpa using h)

/-- In IDLE and in HALTED too. -/
theorem doorbellRing_of_idle (h : s.dst c = dmIdle ∨ s.dst c = dmHalted) : doorbellRing c s = s.doorbellCounted c := by
  rw [doorbellRing_eq]
  obtain h | h := h
  · simp [h, dmIdle, dmParked, dmRunning, dmAborting]
  · simp [h, dmHalted, dmParked, dmRunning, dmAborting]

section
variable (hgone : ¬ ((s.dma c).startAt = some s.cyc ∨ (s.dma c).abortAt = some s.cyc))
include hgone

theorem doorbellRing_of_pending (h : s.dst c = dmRunning ∨ s.dst c = dmAborting ∨ (s.dst c = dmParked ∧ (s.dma c).wait = .again)) :
    doorbellRing c s = (s.doorbellCounted c).doorbellPends c := by
  rw [doorbellRing_eq, if_neg (by simpa using hgone)]
  obtain h | h | ⟨h, hwait⟩ := h
  · simp [h, dmRunning, dmParked]
  · simp [h, dmAborting, dmParked]
  · simp [h, hwait]

theorem doorbellRing_of_parked (h : s.dst c = dmParked) (hwait : (s.dma c).wait ≠ .again) :
    doorbellRing c s = (s.doorbellCounted c).dmaReadNext c .again true := by
  rw [doorbellRing_eq, if_neg (by simpa using hgone)]
  simp [h, hwait]

end

/-- A doorbell is counted only, or leaves DB_PEND, or has NEXT read again. -/
theorem doorbellRing_cases (c : Nat) (s : State) : doorbellRing c s = s.doorbellCounted c ∨
    doorbellRing c s = (s.doorbellCounted c).doorbellPends c ∨ doorbellRing c s = (s.doorbellCounted c).dmaReadNext c .again true := by
  rw [doorbellRing_eq]
  split
  · exact .inl rfl
  · split
    · split
      · exact .inr (.inl rfl)
      · exact .inr (.inr rfl)
    · split
      · exact .inr (.inl rfl)
      · exact .inl rfl

/-- Only channel `c` and the listed registers differ. -/
def dmaTouches (s t : State) (c : Nat) (l : List Nat) : Prop :=
  (∀ m, m ≠ c → t.dma m = s.dma m) ∧ t = { s with regs := t.regs, dmas := t.dmas } ∧ readsKept s t l

theorem dmaTouches.setDma {l : List Nat} (h : dmaTouches s t c l) (x : DmaX) : dmaTouches s (t.setDma c x) c l := by
  obtain ⟨hdma, hstate, hregs, hmem⟩ := h
  exact ⟨fun m hm => (dma_setDma_ne x hm).trans (hdma m hm), by rw [hstate]; rfl, hregs, hmem⟩

theorem regFrame.dmaTouches {l : List Nat} (h : regFrame s t l) : dmaTouches s t c l := by
  obtain ⟨hstate, hreads⟩ := h
  exact ⟨fun m _ => by rw [hstate]; rfl, by rw [hstate], hreads⟩

theorem dmaTouches.keepIsland {l : List Nat} (h : dmaTouches s t c l) : t.keepIsland s = t := by
  obtain ⟨-, hstate, -⟩ := h
  rw [hstate]
  rfl

/-- The count reaches DOORBELLS alone. -/
theorem regFrame_doorbellCounted (s : State) (c : Nat) :
    regFrame s (s.doorbellCounted c) [R.DMA_DOORBELLS c, R.DMA_CH_STAT c] :=
  (regFrame.refl s _).wr _ (by simp) (not_placesBytes (.inr (by simp only [R.DMA_DOORBELLS]; omega)))

/-- Writing DB_PEND and the channel after it. -/
theorem dmaTouches_dbPend (s : State) (c v : Nat) (x : DmaX) :
    dmaTouches s (((s.doorbellCounted c).sf (R.DMA_CH_STAT c) F.DMA_CH_STAT_DB_PEND v).setDma c x) c
      [R.DMA_DOORBELLS c, R.DMA_CH_STAT c] :=
  ((regFrame_doorbellCounted s c).sf _ _ (by simp) (not_placesBytes (.inr (by simp only [R.DMA_CH_STAT]; omega)))).dmaTouches.setDma x

theorem dmaTouches_doorbellPends (s : State) (c : Nat) :
    dmaTouches s ((s.doorbellCounted c).doorbellPends c) c [R.DMA_DOORBELLS c, R.DMA_CH_STAT c] := by
  unfold State.doorbellPends
  split
  · exact (regFrame_doorbellCounted s c).dmaTouches
  · exact dmaTouches_dbPend s c _ _

theorem dmaTouches_doorbellRing (c : Nat) (s : State) : dmaTouches s (doorbellRing c s) c [R.DMA_DOORBELLS c, R.DMA_CH_STAT c] := by
  obtain h | h | h := doorbellRing_cases c s
  · rw [h]; exact (regFrame_doorbellCounted s c).dmaTouches
  · rw [h]; exact dmaTouches_doorbellPends s c
  · rw [h]; exact dmaTouches_dbPend s c _ _

/-- Neither DB_PEND nor a read of NEXT reaches the count. -/
theorem rdN_doorbellRing (c : Nat) (s : State) :
    (doorbellRing c s).rdN (R.DMA_DOORBELLS c) = min 0xffffffff (s.rdN (R.DMA_DOORBELLS c) + 1) := by
  have counted : (s.doorbellCounted c).rdN (R.DMA_DOORBELLS c) = min 0xffffffff (s.rdN (R.DMA_DOORBELLS c) + 1) := rdN_cnt_same _
  have after (v : Nat) (x : DmaX) :
      (((s.doorbellCounted c).sf (R.DMA_CH_STAT c) F.DMA_CH_STAT_DB_PEND v).setDma c x).rdN (R.DMA_DOORBELLS c)
        = min 0xffffffff (s.rdN (R.DMA_DOORBELLS c) + 1) := by
    rw [State.rdN, rd_setDma, rd_sf_ne _ _ (chStat_ne_doorbells c).symm]
    exact counted
  obtain h | h | h := doorbellRing_cases c s
  · rw [h, counted]
  · rw [h]
    unfold State.doorbellPends
    split
    · exact counted
    · exact after _ _
  · rw [h]
    exact after _ _

theorem rd_chStat_doorbellPends (s : State) (c : Nat) :
    ((s.doorbellCounted c).doorbellPends c).rd (R.DMA_CH_STAT c) = F.DMA_CH_STAT_DB_PEND.put (s.rd (R.DMA_CH_STAT c)) 1 := by
  have hcounted := rd_doorbellCounted (s := s) (chStat_ne_doorbells c)
  unfold State.doorbellPends
  split
  · rename_i hon
    have hget : F.DMA_CH_STAT_DB_PEND.get (s.rd (R.DMA_CH_STAT c)) = 1 := by simpa [State.on, State.gf, hcounted] using hon
    rw [hcounted, ← hget, Fld.put_get]
  · rw [← hcounted]
    exact rd_wr_same _ _ _

theorem dma_doorbellPends (s : State) (c : Nat) :
    ((s.doorbellCounted c).doorbellPends c).dma c
      = if s.on (R.DMA_CH_STAT c) F.DMA_CH_STAT_DB_PEND then s.dma c else { s.dma c with ringAt := some s.cyc } := by
  have hon : (s.doorbellCounted c).on (R.DMA_CH_STAT c) F.DMA_CH_STAT_DB_PEND = s.on (R.DMA_CH_STAT c) F.DMA_CH_STAT_DB_PEND :=
    on_congr _ (rd_doorbellCounted (chStat_ne_doorbells c))
  unfold State.doorbellPends
  rw [hon]
  split
  · rfl
  · exact dma_setDma_same _ _ _

/-- A read of NEXT clears DB_PEND. -/
theorem rd_chStat_dmaReadNext (s : State) (c : Nat) (w : DmaWait) (db : Bool) :
    ((s.doorbellCounted c).dmaReadNext c w db).rd (R.DMA_CH_STAT c) = F.DMA_CH_STAT_DB_PEND.put (s.rd (R.DMA_CH_STAT c)) 0 := by
  rw [← rd_doorbellCounted (s := s) (chStat_ne_doorbells c)]
  exact rd_wr_same _ _ _

/-- START of a channel that is not IDLE or not enabled (R317). -/
theorem dmaStart_of_refused (h : s.dst c ≠ dmIdle ∨ s.on (R.DMA_CH_CTL c) F.DMA_CH_CTL_EN = false) : dmaStart c s = s.dmaErr c 5 := by
  refine if_neg ?_
  obtain h | h := h <;> simp [h]

end

/-! The statements. -/

/-- Settles O44: outside its state each command is the error of MC.ERR. -/
theorem memoryControllerRefusesCommandsOutOfState : Obligations.MemoryControllerRefusesCommandsOutOfState := by
  intro s hm
  have channel {n : Nat} (f : State → State) : n < 6 → onMain (n < 6) s f = .next ((f s).keepIsland s) := onMain_unit f hm
  have out {n st : Nat} {u v : State} (h : s.cst n ≠ st) : (if s.cst n != st then u else v) = u := if_pos (by simpa using h)
  refine ⟨fun n hn h => refuses_mc (channel (evac n) hn) (out h),
    fun n hn h hblocked => refuses_mc (channel (evac n) hn) (evac_of_blocked h hblocked),
    fun n hn h => refuses_mc (channel (evacCancel n) hn) (out h),
    fun n hn h => ⟨refuses_mc (channel (chTrain n) hn) (out h), refuses_mc (channel (retire n) hn) (out h)⟩, fun n hn h => ?train,
    fun v hen hdone => refuses_mc (onMain_run (mcCtlWrite v) rfl hm) (if_pos (by simp [hen, hdone])), fun v h => ?ctl,
    fun n v hn => ?temp⟩
  case train =>
    have htrain : chTrain n s = s.setMc n { s.mc n with trainPend := true } := if_neg (by simp [h])
    refine ⟨s.setMc n { s.mc n with trainPend := true }, ?_, by rw [mc_setMc_same], rfl, fun m hne => mc_setMc_ne _ hne⟩
    exact (channel (chTrain n) hn).trans (by rw [htrain]; rfl)
  case ctl =>
    have hctl : mcCtlWrite v s = s.wr R.MC_CTL (v &&& 0xf33f) := if_neg (by obtain h | h := h <;> simp [h])
    exact (onMain_run (mcCtlWrite v) rfl hm).trans (by rw [hctl]; rfl)
  case temp =>
    obtain ⟨-, hreads⟩ := regFrame_devTemp s n v
    have hmc : (devTempWrite n v s).mc n = { s.mc n with devAt := s.cyc, stale := false } := mc_setMc_same _ _ _
    exact ⟨devTempWrite n v s, channel (devTempWrite n v) hn, rd_wr_same _ _ _, by rw [hmc], by rw [hmc], rfl, hreads⟩

/-- Settles O45: `doorbellRing_eq` says what each state of the channel does with the doorbell. -/
theorem dmaDoorbellsActByChannelState : Obligations.DmaDoorbellsActByChannelState := by
  intro s c hc hm
  have channel (f : State → State) : onMain (c < 32) s f = .next ((f s).keepIsland s) := onMain_unit f hm hc
  have htouch := dmaTouches_doorbellRing c s
  have ⟨hothers, hstate, hreads⟩ := htouch
  have counted : (s.doorbellCounted c).rd (R.DMA_CH_STAT c) = s.rd (R.DMA_CH_STAT c) ∧
      s.doorbellCounted c = { s with regs := (s.doorbellCounted c).regs } := ⟨rd_doorbellCounted (chStat_ne_doorbells c), rfl⟩
  refine ⟨⟨doorbellRing c s, (channel (doorbellRing c)).trans (by rw [htouch.keepIsland]), rdN_doorbellRing c s, hreads,
    fun hgone => ?gone, fun hgone hst => ⟨?_, ?_, hstate, hothers⟩, fun hgone hst hwait => ⟨?_, ?_, hstate, hothers⟩, fun hst => ?idle⟩,
    fun h => refuses_dma hc (channel (dmaStart c)) (dmaStart_of_refused h),
    fun h => refuses_dma hc (channel (dmaResume c)) (if_pos (by simpa using h))⟩
  case gone => rw [doorbellRing_of_gone hgone]; exact counted
  case idle => rw [doorbellRing_of_idle hst]; exact counted
  · rw [doorbellRing_of_pending hgone hst, rd_chStat_doorbellPends]
  · rw [doorbellRing_of_pending hgone hst, dma_doorbellPends]
  · rw [doorbellRing_of_parked hgone hst hwait, rd_chStat_dmaReadNext]
  · rw [doorbellRing_of_parked hgone hst hwait]
    exact dma_setDma_same _ _ _

/-- Settles O46: both commands are one test and one write. -/
theorem firnJobIndexStaysBelowItsEntries : Obligations.FirnJobIndexStaysBelowItsEntries := by
  intro s e he hm
  have engine (f : State → State) : onMain (e < 8) s f = .next ((f s).keepIsland s) := onMain_unit f hm he
  refine ⟨fun v hv => ?stored, fun v hv => refuses_firn he (engine (jobWrWrite e v)) (if_pos hv), fun hst hen => ?started, fun h => ?ignored⟩
  case stored =>
    have hwr : jobWrWrite e v s = s.wr (R.FIRN_JOB_WR e) (v &&& 0xffff) := if_neg (by omega)
    exact (engine (jobWrWrite e v)).trans (by rw [hwr]; rfl)
  case started =>
    have hstart : firnStart e s = s.setFst e fiIdle := if_pos (by simp [hst, hen])
    have hframe : regFrame s (s.setFst e fiIdle) [R.FIRN_ESTAT e] :=
      (regFrame.refl s _).sf _ _ (by simp) (not_placesBytes (.inr (by simp only [R.FIRN_ESTAT]; omega)))
    exact ⟨s.setFst e fiIdle, (engine (firnStart e)).trans (by rw [hstart]; rfl), rd_wr_same _ _ _, hframe⟩
  case ignored =>
    have hstart : firnStart e s = s := if_neg (by obtain h | h := h <;> simp [h])
    exact (engine (firnStart e)).trans (by rw [hstart]; rfl)

end Sys2Proof.Machine
end

section
/-! The claim of the twin (R395), the supply warning (R423), the error record's clears (R428), the FIFOs of the UARTs (R447) and the
causes of the resets (R434); then the statements of 15_twin.md, 16_calibration_and_supplies.md and 17_bring_up.md. -/

namespace Sys2Proof.Machine

variable {s t u : State}

/-! Commands of the island. -/

theorem regFrame.keepGuard {l : List Nat} (h : regFrame s t l) : t.keepGuard s = t := by rw [h.1]; rfl

/-! The claim (R395). -/

/-- A claim: ACT_OUT and CLAIMING are set, and its window opens. -/
theorem claimed_eq (s : State) : (s.setActOut true).setClaiming true =
    { (s.sf R.TWIN_TSTAT F.TWIN_TSTAT_ACT_OUT 1).sf R.TWIN_TSTAT F.TWIN_TSTAT_CLAIMING 1 with claimAt := some s.cyc } := rfl

/-- Registers written, and the window of the claim, are out of the wrapper's reach. -/
theorem regFrame.keepIsland_claimAt {l : List Nat} (h : regFrame s t l) (c : Option Nat) :
    { t with claimAt := c }.keepIsland s = { t with claimAt := c } ∧
      { t with claimAt := c } = { s with regs := t.regs, claimAt := c } ∧ readsKept s { t with claimAt := c } l := by
  obtain ⟨hstate, hreads⟩ := h
  refine ⟨?_, ?_, hreads⟩
  · rw [hstate]; rfl
  · rw [hstate]

/-- A command of the twin that is refused raises CFG_ERR. -/
theorem raisesOnly_twErr (s : State) : raisesOnly s (s.twErr 0) R.TWIN_TERR 0 siteTwin :=
  raisesOnly_raise (by decide) (by decide) (by decide) (not_placesBytes (by decide))

/-- The registers that the supplies' commands write lie in the island, and tell no byte's place. -/
theorem regFrame_vcore (s : State) (mv : Nat) : regFrame s (s.vcore mv) [R.SUP_SSTAT] :=
  (regFrame.refl s _).sf _ _ (by simp) (not_placesBytes (by decide))

/-! The supply warning (R423, R424). -/

/-- The level that was measured does not reach WARN_NOW. -/
theorem on_warnNow_vcore (s : State) (mv : Nat) :
    (s.vcore mv).on R.SUP_SSTAT F.SUP_SSTAT_WARN_NOW = s.on R.SUP_SSTAT F.SUP_SSTAT_WARN_NOW := by
  rw [State.on, State.vcore, gf_sf_ne _ _ _ _ (by decide)]
  rfl

theorem warnLevel_vcore (s : State) (mv : Nat) : (s.vcore mv).warnLevel = 680 + 5 * s.gf R.SUP_SCTL F.SUP_SCTL_WARN := by
  have hsctl : (s.vcore mv).rd R.SUP_SCTL = s.rd R.SUP_SCTL := rd_sf_ne _ _ (by decide)
  rw [State.warnLevel, gf_congr _ hsctl]

/-- At the level or above, or with the warning standing, the measured level is noted and no more. -/
theorem vddCoreWarn_of_quiet {mv : Nat}
    (h : 680 + 5 * s.gf R.SUP_SCTL F.SUP_SCTL_WARN ≤ mv ∨ s.on R.SUP_SSTAT F.SUP_SSTAT_WARN_NOW = true) : vddCoreWarn mv s = s.vcore mv := by
  refine if_pos ?_
  rw [on_warnNow_vcore, warnLevel_vcore]
  obtain h | h := h <;> simp [h]

/-- A fault of the supplies sets its bit of SERR: set anew, or set already. -/
theorem rd_supErr (s : State) (b : Nat) : (s.supErr b).rd R.SUP_SERR = (bit b).put (s.rd R.SUP_SERR) 1 := by
  unfold State.supErr
  split
  · rename_i hon
    have hget : (bit b).get (s.rd R.SUP_SERR) = 1 := by simpa [State.on, State.gf] using hon
    rw [← hget, Fld.put_get]
  · rw [(evTouches_record _ _ _ _).2 _ (by decide)]
    exact rd_wr_same _ _ _

theorem evTouches_supErr (s : State) (b : Nat) : evTouches s (s.supErr b) (R.SUP_SERR :: recordRegs ⟨2, 0, 0, 0⟩) := by
  unfold State.supErr
  split
  · exact evTouches_refl _ _
  · exact ((evTouches_refl _ _).sf _ _ (by simp)).trans ((evTouches_record _ _ _ _).mono (List.subset_cons_self _ _))

/-- The state in which a warning is recorded, before its event. -/
def State.warned (s : State) (mv : Nat) : State := (((s.vcore mv).sf R.SUP_SSTAT F.SUP_SSTAT_WARN_NOW 1).supErr 0).cnt R.SUP_WARNS

section
variable {mv : Nat}

theorem vddCoreWarn_of_low (hlow : mv < 680 + 5 * s.gf R.SUP_SCTL F.SUP_SCTL_WARN)
    (hnew : s.on R.SUP_SSTAT F.SUP_SSTAT_WARN_NOW = false) : vddCoreWarn mv s = (s.warned mv).fire 8 := by
  refine if_neg ?_
  rw [on_warnNow_vcore, warnLevel_vcore, hnew]
  simpa using hlow

theorem evTouches_warned (s : State) (mv : Nat) :
    evTouches s (s.warned mv) ([R.SUP_SSTAT, R.SUP_SERR, R.SUP_WARNS] ++ recordRegs ⟨2, 0, 0, 0⟩) := by
  have hstat : evTouches s ((s.vcore mv).sf R.SUP_SSTAT F.SUP_SSTAT_WARN_NOW 1)
      ([R.SUP_SSTAT, R.SUP_SERR, R.SUP_WARNS] ++ recordRegs ⟨2, 0, 0, 0⟩) :=
    ((evTouches_refl s _).sf _ _ (by simp)).sf _ _ (by simp)
  refine (hstat.trans ((evTouches_supErr _ 0).mono fun a ha => ?_)).cnt (by simp)
  obtain rfl | ha := List.mem_cons.mp ha
  · simp
  · exact List.mem_append_right _ ha

theorem rd_warned_sstat (s : State) (mv : Nat) :
    (s.warned mv).rd R.SUP_SSTAT = F.SUP_SSTAT_WARN_NOW.put (F.SUP_SSTAT_VCORE_MV.put (s.rd R.SUP_SSTAT) mv) 1 := by
  have hlevel : (s.vcore mv).rd R.SUP_SSTAT = F.SUP_SSTAT_VCORE_MV.put (s.rd R.SUP_SSTAT) mv := rd_wr_same _ _ _
  rw [State.warned, rd_cnt_ne (by decide), (evTouches_supErr _ _).2 _ (by decide), State.sf, rd_wr_same, hlevel]

theorem rd_warned_serr (s : State) (mv : Nat) : (s.warned mv).rd R.SUP_SERR = (bit 0).put (s.rd R.SUP_SERR) 1 := by
  rw [State.warned, rd_cnt_ne (by decide), rd_supErr, rd_sf_ne _ _ (by decide), State.vcore, rd_sf_ne _ _ (by decide)]

theorem rdN_warned_warns (s : State) (mv : Nat) : (s.warned mv).rdN R.SUP_WARNS = min 0xffffffff (s.rdN R.SUP_WARNS + 1) := by
  have hkept : (((s.vcore mv).sf R.SUP_SSTAT F.SUP_SSTAT_WARN_NOW 1).supErr 0).rd R.SUP_WARNS = s.rd R.SUP_WARNS := by
    rw [(evTouches_supErr _ _).2 _ (by decide), rd_sf_ne _ _ (by decide), State.vcore, rd_sf_ne _ _ (by decide)]
  rw [State.warned, rdN_cnt_same, State.rdN, hkept, State.rdN]

end

/-! The clears of the error record (R428). -/

/-- The blocks of `p` are cleared: their sticky bits, and VALID of their captures. -/
def BlocksCleared (p : Nat → Bool) (s t : State) : Prop :=
  (∀ k, k < 32 → (t.rd R.ERRLOG_BLOCK_STICKY).getLsbD k = ((s.rd R.ERRLOG_BLOCK_STICKY).getLsbD k && !p k)) ∧
  (∀ b, b < 32 → p b = true → t.on (R.ERRLOG_FINFO b) F.ERRLOG_FINFO_VALID = false) ∧
  (∀ b, b < 32 → p b = false → t.rd (R.ERRLOG_FINFO b) = s.rd (R.ERRLOG_FINFO b)) ∧
  regFrame s t (R.ERRLOG_BLOCK_STICKY :: (List.range 32).map R.ERRLOG_FINFO)

theorem rd_clearBlock_finfo_ne {b i : Nat} (h : b ≠ i) : (s.clearBlock i).rd (R.ERRLOG_FINFO b) = s.rd (R.ERRLOG_FINFO b) := by
  rw [State.clearBlock, rd_sf_ne, rd_sf_ne]
  all_goals simp only [R.ERRLOG_FINFO, R.ERRLOG_BLOCK_STICKY, ne_eq]; omega

theorem getLsbD_clearBlock_sticky {k i : Nat} (hk : k < 32) :
    ((s.clearBlock i).rd R.ERRLOG_BLOCK_STICKY).getLsbD k = ((s.rd R.ERRLOG_BLOCK_STICKY).getLsbD k && !decide (k = i)) := by
  have hne : R.ERRLOG_BLOCK_STICKY ≠ R.ERRLOG_FINFO i := by simp only [R.ERRLOG_FINFO, R.ERRLOG_BLOCK_STICKY, ne_eq]; omega
  rw [State.clearBlock, rd_sf_ne _ _ hne, State.sf, rd_wr_same, Fld.getLsbD_put _ _ _ _ hk]
  by_cases hki : k = i
  · simp [hki, bit]
  · rw [if_neg (by simp only [bit]; omega)]
    simp [hki]

/-- One block more. -/
theorem BlocksCleared.clearBlock {p : Nat → Bool} {i : Nat} (h : BlocksCleared p s t) (hi : i < 32) :
    BlocksCleared (fun k => p k || decide (k = i)) s (t.clearBlock i) := by
  obtain ⟨hsticky, hcapture, hothers, hframe⟩ := h
  refine ⟨fun k hk => ?_, fun b hb hp => ?_, fun b hb hp => ?_, ?_⟩
  · rw [getLsbD_clearBlock_sticky hk, hsticky k hk]
    simp [Bool.and_assoc]
  · by_cases hbi : b = i
    · rw [hbi]
      exact on_sf_zero _ 31 (by decide)
    · rw [on_congr _ (rd_clearBlock_finfo_ne hbi)]
      exact hcapture b hb (by simpa [hbi] using hp)
  · simp only [Bool.or_eq_false_iff, decide_eq_false_iff_not] at hp
    exact (rd_clearBlock_finfo_ne hp.2).trans (hothers b hb hp.1)
  · exact (hframe.sf _ _ (by simp) (not_placesBytes (.inl (by decide)))).sf _ _ (by simpa using .inr ⟨i, hi, rfl⟩)
      (not_placesBytes (.inr (by simp only [R.ERRLOG_FINFO]; omega)))

theorem BlocksCleared.congr {p q : Nat → Bool} (h : BlocksCleared p s t) (hpq : ∀ k, k < 32 → p k = q k) : BlocksCleared q s t := by
  obtain ⟨hsticky, hcapture, hothers, hframe⟩ := h
  exact ⟨fun k hk => by rw [hsticky k hk, hpq k hk], fun b hb hq => hcapture b hb ((hpq b hb).trans hq),
    fun b hb hq => hothers b hb ((hpq b hb).trans hq), hframe⟩

/-- The clears of the chosen blocks, one after another. -/
theorem blocksCleared_times (p : Nat → Bool) (s : State) :
    BlocksCleared p s (times 32 (fun b s => if p b then s.clearBlock b else s) s) := by
  have hall : BlocksCleared (fun k => decide (k < 32) && p k) s (times 32 (fun b s => if p b then s.clearBlock b else s) s) := by
    refine times_induction (P := fun n t => BlocksCleared (fun k => decide (k < n) && p k) s t)
      ⟨by simp, by simp, fun _ _ _ => rfl, regFrame.refl s _⟩ fun i t hi h => ?_
    split
    · rename_i hp
      refine (h.clearBlock hi).congr fun k _ => ?_
      by_cases hki : k = i
      · simp [hki, hp]
      · simp [hki, show k < i + 1 ↔ k < i by omega]
    · rename_i hp
      refine h.congr fun k _ => ?_
      by_cases hki : k = i
      · simp [hki, hp]
      · simp [show k < i + 1 ↔ k < i by omega]
  exact hall.congr fun k hk => by simp [hk]

/-! The receive FIFO of a UART (R447). -/

/-- An event that follows an error reaches what its source changes. -/
theorem raisesOnly.fire {a n src : Nat} {e : Site} (h : raisesOnly s t a n e) (hsrc : src < 1280) (ha : 0x44003c10 ≤ a) :
    (t.fire src).rd a = (bit n).put (s.rd a) 1 ∧ evFrame s (t.fire src) (errorRegs a e ++ eventRegs src) := by
  obtain ⟨hrd, hstate, hregs, hmem⟩ := h
  obtain ⟨hstate', hregs', hmem'⟩ := pulseFrame_fire (s := t) hsrc
  have hout : a ∉ eventRegs src := fun hev => by
    have := mem_eventRegs_bounds hsrc hev
    omega
  refine ⟨(hregs' a hout).trans hrd, ?_, fun b hb => ?_, fun b => (hmem' b).trans (hmem b)⟩
  · rw [hstate', hstate]
  · rw [List.mem_append, not_or] at hb
    exact (hregs' b hb.2).trans (hregs b hb.1)

theorem uart_setUart_same (s : State) (i : Nat) (x : UartX) : (s.setUart i x).uart i = x := SMap.get_set_same ..

/-- The wrapper of the main domain leaves the UARTs. -/
theorem setUart_keepIsland (s : State) (i : Nat) (x : UartX) : (s.setUart i x).keepIsland s = s.setUart i x := by
  unfold State.setUart
  generalize SMap.set (fun _ => {}) s.uarts i x = m
  rfl

theorem uart_setUart_ne {i j : Nat} (x : UartX) (h : j ≠ i) : (s.setUart i x).uart j = s.uart j := SMap.get_set_ne _ _ _ h

section
variable {i : Nat} {b : BitVec 8} (hen : s.on (R.UART_UCTL i) F.UART_UCTL_EN = true)
include hen

/-- What a good byte leaves, by the level of the FIFO. -/
theorem uartByteRx_eq : uartByteRx i b false false s =
    (if 16 ≤ (s.uart i).rx.length then s.uartErr i 0 else s.setUart i { s.uart i with rx := (s.uart i).rx ++ [b] }).fire (1188 + 3 * i) :=
  if_neg (by simp [hen])

/-- A good byte that finds room is appended. -/
theorem uartByteRx_of_room (hroom : (s.uart i).rx.length < 16) :
    uartByteRx i b false false s = (s.setUart i { s.uart i with rx := (s.uart i).rx ++ [b] }).fire (1188 + 3 * i) := by
  rw [uartByteRx_eq hen, if_neg (by omega)]

/-- One that finds none is dropped. -/
theorem uartByteRx_of_full (hfull : 16 ≤ (s.uart i).rx.length) :
    uartByteRx i b false false s = (s.uartErr i 0).fire (1188 + 3 * i) := by
  rw [uartByteRx_eq hen, if_pos hfull]

end

/-! The causes of a reset (R434). -/

theorem twinRelease_hold : s.twinRelease.hold = s.hold := by
  unfold State.twinRelease
  split <;> rfl

theorem assertMain_hold (cause : Nat) : (s.assertMain cause).hold = s.hold := by
  cases h : s.mainReset with
  | true => rw [assertMain_of_reset cause h]; rfl
  | false =>
    rw [assertMain_of_running cause h]
    exact twinRelease_hold

/-- The main domain is in reset, and RESET_CAUSE differs from that of `s` in bit `cause` alone, which is set. -/
def causeRecorded (s t : State) (cause : Nat) : Prop :=
  t.on R.SUP_RESET_CAUSE (bit cause) = true ∧
    ∀ k, k < 32 → k ≠ cause → t.on R.SUP_RESET_CAUSE (bit k) = s.on R.SUP_RESET_CAUSE (bit k)

theorem causeRecorded_assertMain {cause : Nat} (hc : cause < 32) (h : u.rd R.SUP_RESET_CAUSE = s.rd R.SUP_RESET_CAUSE) :
    causeRecorded s (u.assertMain cause) cause := by
  refine ⟨on_assertMain_cause hc, fun k _ hne => ?_⟩
  rw [on_congr _ (rd_assertMain_island cause (by decide) (by decide)), State.on, State.resetCause,
    gf_sf_ne _ _ _ _ (by simp only [bit]; omega), gf_congr _ h, State.on]

/-- The states in which a supply holds the main domain in reset. -/
def State.coreHeld (s : State) : State := { s with hold := { s.hold with coreUv := true } }
def State.sramHeld (s : State) : State := { s with hold := { s.hold with sramUv := true } }

/-- A supply has fallen below its level (R423). -/
def State.supplyReset (s : State) (cause : Nat) : State := ((s.supErr 1).when (!s.mainReset) (·.cnt R.SUP_CORE_RESETS)).assertMain cause

theorem rd_coreHeld (s : State) (a : Nat) : s.coreHeld.rd a = s.rd a := rfl

/-- The wrapper of the resets leaves a state as it was. -/
theorem keepQueue_self (s : State) : s.keepQueue s = s := by
  cases s
  rfl

theorem vddCoreUv_of_low {mv : Nat} (hp : s.inPor = false) (hlow : mv < 665) : vddCoreUv mv s = (s.vcore mv).coreHeld.supplyReset 0 := by
  have hlevel : (s.vcore mv).inPor = false := (evTouches_sf s _ _ _).islandKept.inPor.trans hp
  unfold vddCoreUv
  generalize s.vcore mv = u at hlevel
  exact if_neg (by simp [hlevel, hlow])

theorem vddSramUv_of_running (hp : s.inPor = false) : vddSramUv s = s.sramHeld.supplyReset 1 := by
  unfold vddSramUv
  exact if_neg (by simp [hp])

/-- The error and the count are no causes of a reset, nor do they release what holds one. -/
theorem supplyReset_records {cause : Nat} (hc : cause < 32) (hu : u.rd R.SUP_RESET_CAUSE = s.rd R.SUP_RESET_CAUSE) :
    (u.supplyReset cause).hold = u.hold ∧ causeRecorded s (u.supplyReset cause) cause := by
  have hcount : evTouches u ((u.supErr 1).when (!u.mainReset) (·.cnt R.SUP_CORE_RESETS))
      (R.SUP_CORE_RESETS :: R.SUP_SERR :: recordRegs ⟨2, 0, 0, 0⟩) := by
    have herr := (evTouches_supErr u 1).mono (List.subset_cons_self R.SUP_CORE_RESETS _)
    exact herr.when _ (herr.cnt (by simp))
  obtain ⟨hstate, hregs⟩ := hcount
  exact ⟨by rw [State.supplyReset, assertMain_hold, hstate], causeRecorded_assertMain hc ((hregs _ (by decide)).trans hu)⟩

/-- What a reset of the main domain answers: the domain in reset, its cause, and the holds of `u`. -/
theorem reset_answers {c : Instr} {f : State → State} {cause : Nat} (hexec : exec c s = .next ((f s).keepQueue s))
    (hcause : causeRecorded s (f s) cause) (hreset : (f s).mainReset = true) :
    ∃ t, exec c s = .next t ∧ t.mainReset = true ∧ t.hold = (f s).hold ∧ causeRecorded s t cause := by
  refine ⟨(f s).keepQueue s, hexec, ?_⟩
  generalize f s = u at hcause hreset
  exact ⟨hreset, rfl, hcause⟩

/-- A power-on reset leaves every register at its reset value, and POWER_ON alone (R434). -/
theorem rd_assertPor (s : State) :
    s.assertPor.rd R.SUP_RESET_CAUSE = 0x80 ∧ ∀ a, a ≠ R.SUP_RESET_CAUSE → s.assertPor.rd a = resetWord a :=
  ⟨rd_wr_same _ _ _, fun _ h => rd_wr_ne _ _ h⟩

/-! The statements. -/

/-- Settles O54: the two tests of CLAIM, and the range of MUX_SETTLE_US, decide between the effect and the error. -/
theorem twinClaimsOnlyUnpairedWithActInInactive : Obligations.TwinClaimsOnlyUnpairedWithActInInactive := by
  intro s hm
  have herr := raisesOnly_twErr s
  refine ⟨fun hrole hin => ?claimed, fun h => ⟨s.twErr 0, ?refused, herr⟩, fun v hp h => ⟨s.twErr 0, ?range, herr⟩⟩
  case claimed =>
    have hclaim : claim s = (s.setActOut true).setClaiming true := if_pos (by simp [hrole, State.twOn, hin])
    have hframe : regFrame s ((s.sf R.TWIN_TSTAT F.TWIN_TSTAT_ACT_OUT 1).sf R.TWIN_TSTAT F.TWIN_TSTAT_CLAIMING 1) [R.TWIN_TSTAT] :=
      ((regFrame.refl s _).sf _ _ (by simp) (not_placesBytes (by decide))).sf _ _ (by simp) (not_placesBytes (by decide))
    have hrd : ((s.sf R.TWIN_TSTAT F.TWIN_TSTAT_ACT_OUT 1).sf R.TWIN_TSTAT F.TWIN_TSTAT_CLAIMING 1).rd R.TWIN_TSTAT
        = F.TWIN_TSTAT_CLAIMING.put (F.TWIN_TSTAT_ACT_OUT.put (s.rd R.TWIN_TSTAT) 1) 1 := by
      rw [State.sf, rd_wr_same, State.sf, rd_wr_same]
    rw [claimed_eq] at hclaim
    generalize (s.sf R.TWIN_TSTAT F.TWIN_TSTAT_ACT_OUT 1).sf R.TWIN_TSTAT F.TWIN_TSTAT_CLAIMING 1 = u at hclaim hframe hrd
    obtain ⟨hkeep, hstate, hreads⟩ := hframe.keepIsland_claimAt (some s.cyc)
    exact ⟨{ u with claimAt := some s.cyc }, (onMain_run claim rfl hm).trans (by rw [hclaim, hkeep]), hrd, rfl, hstate, hreads⟩
  case refused =>
    have hclaim : claim s = s.twErr 0 := if_neg (by obtain h | h := h <;> simp [State.twOn, h])
    exact (onMain_run claim rfl hm).trans (by rw [hclaim, State.twErr, (evTouches_raise s _ _ _).keepIsland])
  case range =>
    have hwrite : tctlWrite v s = s.twErr 0 := if_pos (by obtain h | h := h <;> simp [h])
    exact (onIsland_run (tctlWrite v) rfl hp).trans (by rw [hwrite, State.twErr, (evTouches_raise s _ _ _).keepGuard])

/-- Settles O55: below the level the warning is recorded and source 8 fires; the levels decide the rest. -/
theorem supplyWarningRaisesOnceBelowItsLevel : Obligations.SupplyWarningRaisesOnceBelowItsLevel := by
  intro s mv _ hp
  have warn := onIsland_run (vddCoreWarn mv) rfl hp
  have clear := onIsland_run (vddCoreWarnClear mv) rfl hp
  have hlevel := warnLevel_vcore s mv
  refine ⟨fun hlow hnew => ?warned, fun h => ?quiet, fun h => ?cleared, fun h => ?near⟩
  case warned =>
    have hfire := evTouches_fire (s.warned mv) 8
    have htouch : evTouches s ((s.warned mv).fire 8) ([R.SUP_SSTAT, R.SUP_SERR, R.SUP_WARNS] ++ recordRegs ⟨2, 0, 0, 0⟩ ++ eventRegs 8) :=
      ((evTouches_warned s mv).mono (List.subset_append_left _ _)).trans (hfire.mono (List.subset_append_right _ _))
    have hbelow {a : Nat} (ha : 0x44003c10 ≤ a) : a ∉ [R.SUP_SSTAT, R.SUP_SERR, R.SUP_WARNS] ++ recordRegs ⟨2, 0, 0, 0⟩ ++ eventRegs 8 := by
      intro h
      obtain h | h := List.mem_append.mp (List.append_assoc _ _ _ ▸ h)
      · simp only [R.SUP_SSTAT, R.SUP_SERR, R.SUP_WARNS, List.mem_cons, List.not_mem_nil, or_false] at h
        omega
      · have := mem_recordRegs_append_eventRegs_bounds (e := ⟨2, 0, 0, 8⟩) (by decide) (by decide) h
        omega
    have hreset : (s.warned mv).mainReset = s.mainReset := by rw [(evTouches_warned s mv).1]
    refine ⟨(s.warned mv).fire 8, ?_, ?_, ?_, ?_,
      fun hm => on_fire _ 8 (by decide) (hreset.trans hm), htouch.evFrame (hbelow (by decide)) fun n => hbelow ?_⟩
    · rw [vddCoreWarn_of_low hlow hnew, htouch.keepGuard] at warn
      exact warn
    · rw [hfire.2 _ (by decide), rd_warned_sstat]
    · rw [hfire.2 _ (by decide), rd_warned_serr]
    · rw [State.rdN, hfire.2 _ (by decide)]
      exact rdN_warned_warns s mv
    · simp only [R.MC_MIG_PTR]
      omega
  case quiet =>
    rw [vddCoreWarn_of_quiet h, (regFrame_vcore s mv).keepGuard] at warn
    exact warn
  case cleared =>
    have heffect : vddCoreWarnClear mv s = (s.vcore mv).sf R.SUP_SSTAT F.SUP_SSTAT_WARN_NOW 0 := if_pos (by rw [hlevel]; omega)
    have hframe := (regFrame_vcore s mv).sf F.SUP_SSTAT_WARN_NOW 0 (List.mem_singleton_self _) (not_placesBytes (by decide))
    rw [heffect, hframe.keepGuard] at clear
    exact clear
  case near =>
    have heffect : vddCoreWarnClear mv s = s.vcore mv := if_neg (by rw [hlevel]; omega)
    rw [heffect, (regFrame_vcore s mv).keepGuard] at clear
    exact clear

/-- Settles O56: a clear is that of each block whose bit is written, and ECMD.CLEAR that of every block. -/
theorem errorRecordClearsRearmTheCapture : Obligations.ErrorRecordClearsRearmTheCapture := by
  intro s hp
  constructor
  · intro v
    obtain ⟨hsticky, hcapture, hothers, hframe⟩ : BlocksCleared (v.getLsbD ·) s (blockStickyClear v s) := blocksCleared_times _ s
    refine ⟨blockStickyClear v s, (onIsland_run (blockStickyClear v) rfl hp).trans (by rw [hframe.keepGuard]), ?_, fun b hb => ?_, hframe⟩
    · refine BitVec.eq_of_getLsbD_eq fun k hk => ?_
      rw [hsticky k hk]
      simp [hk]
    · split
      · rename_i hv
        exact hcapture b hb hv
      · rename_i hv
        exact hothers b hb (Bool.eq_false_of_not_eq_true hv)
  · have hall : BlocksCleared (fun _ => true) s (times 32 (fun b s => s.clearBlock b) s) := blocksCleared_times _ s
    obtain ⟨hsticky, hcapture, -, hblocks⟩ := hall
    have hgerr {a : Nat} (h : a ≠ R.ERRLOG_GERR) : (errlogClear s).rd a = (times 32 (fun b s => s.clearBlock b) s).rd a := rd_wr_ne _ _ h
    have hframe : regFrame s (errlogClear s) (R.ERRLOG_BLOCK_STICKY :: R.ERRLOG_GERR :: (List.range 32).map R.ERRLOG_FINFO) := by
      obtain ⟨hstate, hregs, hmem⟩ := hblocks
      have hmono : regFrame s (times 32 (fun b s => s.clearBlock b) s)
          (R.ERRLOG_BLOCK_STICKY :: R.ERRLOG_GERR :: (List.range 32).map R.ERRLOG_FINFO) :=
        ⟨hstate, fun a ha => hregs a fun h => ha (by
          obtain h | h := List.mem_cons.mp h
          · simp [h]
          · exact List.mem_cons_of_mem _ (List.mem_cons_of_mem _ h)), hmem⟩
      exact hmono.wr _ (by simp) (not_placesBytes (by decide))
    refine ⟨errlogClear s, (onIsland_run errlogClear rfl hp).trans (by rw [hframe.keepGuard]), ?_, rd_wr_same _ _ _, fun b hb => ?_, hframe⟩
    · rw [hgerr (by decide)]
      refine BitVec.eq_of_getLsbD_eq fun k hk => ?_
      rw [hsticky k hk]
      simp
    · rw [on_congr _ (hgerr (by simp only [R.ERRLOG_FINFO, R.ERRLOG_GERR]; omega))]
      exact hcapture b hb rfl

/-- Settles O57: the levels of the FIFOs decide whether a byte is taken. -/
theorem uartFifosHoldSixteenBytes : Obligations.UartFifosHoldSixteenBytes := by
  intro s i hi hm
  have uart (f : State → State) : onMain (i < 2) s f = .next ((f s).keepIsland s) := onMain_unit f hm hi
  refine ⟨fun hroom => ?pushed, fun hfull => ?ignored, (uart (uartRxPop i)).trans ?popped, fun b hen hroom => ?received,
    fun b hen hfull => ?dropped, fun b hen => ?off⟩
  case pushed =>
    have hbyte : BitVec.ofNat 8 (s.gf (R.UART_UTX i) ⟨0, 8⟩) = (s.rd (R.UART_UTX i)).extractLsb' 0 8 := by
      refine BitVec.eq_of_toNat_eq ?_
      simp [State.gf, Fld.get]
    have hpush : uartTxPush i s = s.setUart i { s.uart i with tx := (s.uart i).tx ++ [BitVec.ofNat 8 (s.gf (R.UART_UTX i) ⟨0, 8⟩)] } :=
      if_neg (show ¬ 16 ≤ (s.uart i).tx.length by omega)
    exact (uart (uartTxPush i)).trans (by rw [hpush, setUart_keepIsland, hbyte])
  case ignored =>
    have hpush : uartTxPush i s = s := if_pos hfull
    exact (uart (uartTxPush i)).trans (by rw [hpush, (evTouches_refl s []).keepIsland])
  case popped =>
    rw [uartRxPop, setUart_keepIsland, List.drop_one]
  case received =>
    have hframe := pulseFrame_fire (s := s.setUart i { s.uart i with rx := (s.uart i).rx ++ [b] }) (src := 1188 + 3 * i) (by omega)
    have hpend := on_fire (s.setUart i { s.uart i with rx := (s.uart i).rx ++ [b] }) (1188 + 3 * i) (by omega) hm
    rw [← uartByteRx_of_room hen hroom] at hframe hpend
    obtain ⟨hstate, hreads⟩ := hframe
    have huart (j : Nat) : (uartByteRx i b false false s).uart j = (s.setUart i { s.uart i with rx := (s.uart i).rx ++ [b] }).uart j := by
      rw [hstate]; rfl
    have hkeep : (uartByteRx i b false false s).keepIsland s = uartByteRx i b false false s := by rw [hstate]; rfl
    exact ⟨uartByteRx i b false false s, (uart (uartByteRx i b false false)).trans (by rw [hkeep]),
      (huart i).trans (uart_setUart_same _ _ _), hpend, fun j hj => (huart j).trans (uart_setUart_ne _ hj), by rw [hstate]; rfl, hreads⟩
  case dropped =>
    have herr : raisesOnly s (s.uartErr i 0) (R.UART_UERR i) 0 ⟨25, 0, i, 1190 + 3 * i⟩ := by
      refine raisesOnly_raise ?_ ?_ (.inr ?_) (not_placesBytes (.inr ?_))
      all_goals simp only [R.UART_UERR]; omega
    obtain ⟨hrd, hframe⟩ := herr.fire (src := 1188 + 3 * i) (by omega) (by simp only [R.UART_UERR]; omega)
    have ⟨hstate, _⟩ := hframe
    refine ⟨(s.uartErr i 0).fire (1188 + 3 * i), (uart (uartByteRx i b false false)).trans ?_, hrd, hframe⟩
    rw [uartByteRx_of_full hen hfull]
    generalize (s.uartErr i 0).fire (1188 + 3 * i) = u at hstate
    rw [hstate]
    rfl
  case off =>
    have hrx : uartByteRx i b false false s = s := if_pos (by simp [hen])
    exact (uart (uartByteRx i b false false)).trans (by rw [hrx, (evTouches_refl s []).keepIsland])

/-- Settles O59: each source enters its reset by `assertPor` or `assertMain`, whose cause is its own bit. -/
theorem resetSourcesRecordTheirCause : Obligations.ResetSourcesRecordTheirCause := by
  intro s
  refine ⟨?por, ?feeds, fun hp => ?pin, fun hp hdis => ?debug, fun mv hp hlow => ?core, fun hp => ?sram, fun mode hmode hm hheld => ?held⟩
  case por =>
    obtain ⟨hcause, hregs⟩ := rd_assertPor { s with hold := { s.hold with por := true } }
    exact ⟨_, onAlways_run porAssert rfl, rfl, rfl, hcause, hregs, rfl⟩
  case feeds =>
    obtain ⟨hcause, hregs⟩ := rd_assertPor { s with hold := { s.hold with feeds := true } }
    exact ⟨_, onAlways_run bothAonFeedsLost rfl, rfl, Bool.or_true _, hcause, hregs, rfl⟩
  case pin =>
    have heffect : resetNAssert s = { s with hold := { s.hold with pin := true } }.assertMain 4 := if_neg (by simp [hp])
    obtain ⟨t, hexec, hmain, hhold, hcause⟩ := reset_answers (s := s) (c := .resetNAssert) (f := resetNAssert) (onAlways_run resetNAssert rfl)
      (heffect ▸ causeRecorded_assertMain (by decide) rfl) (heffect ▸ assertMain_mainReset 4)
    exact ⟨t, hexec, hmain, by rw [hhold, heffect, assertMain_hold], hcause⟩
  case debug =>
    have heffect : debugReset s = s.assertMain 5 := if_neg (by simp [hp, hdis])
    obtain ⟨t, hexec, hmain, -, hcause⟩ := reset_answers (s := s) (c := .debugReset) (f := debugReset) (onAlways_run debugReset rfl)
      (heffect ▸ causeRecorded_assertMain (by decide) rfl) (heffect ▸ assertMain_mainReset 5)
    exact ⟨t, hexec, hmain, hcause⟩
  case core =>
    have heffect := vddCoreUv_of_low hp hlow
    obtain ⟨hheld, hrecorded⟩ := supplyReset_records (s := s) (u := (s.vcore mv).coreHeld) (cause := 0) (by decide)
      (by rw [rd_coreHeld, State.vcore, rd_sf_ne _ _ (by decide)])
    obtain ⟨t, hexec, hmain, hhold, hcause⟩ := reset_answers (c := .vddCoreUv mv) (f := vddCoreUv mv) (onAlways_run (vddCoreUv mv) rfl)
      (heffect ▸ hrecorded) (heffect ▸ assertMain_mainReset 0)
    exact ⟨t, hexec, hmain, by rw [hhold, heffect, hheld]; rfl, hcause⟩
  case sram =>
    have heffect := vddSramUv_of_running hp
    obtain ⟨hheld, hrecorded⟩ := supplyReset_records (s := s) (u := s.sramHeld) (cause := 1) (by decide) rfl
    obtain ⟨t, hexec, hmain, hhold, hcause⟩ := reset_answers (s := s) (c := .vddSramUv) (f := vddSramUv) (onAlways_run vddSramUv rfl)
      (heffect ▸ hrecorded) (heffect ▸ assertMain_mainReset 1)
    exact ⟨t, hexec, hmain, by rw [hhold, heffect, hheld]; rfl, hcause⟩
  case held =>
    have hstays : s.mainHeld = true := by
      unfold State.mainHeld
      obtain h | h | h | h := hheld <;> simp [h]
    have hsame : mainResetRelease mode s = s := mainResetRelease_of_held (.inr hstays)
    exact (onAlways_run (mainResetRelease mode) (decide_eq_true hmode)).trans (by rw [hsame, keepQueue_self])

end Sys2Proof.Machine
end

section
/-! What the event fabric leaves of its channels (R360, R363), lock violations (R382, R427), and the mailboxes and COMPLETE (R370, R388);
then the statements of 13_time_and_events.md about the event fabric, and of 14_control_plane.md but for the system SRAM. -/

namespace Sys2Proof.Machine

variable {s t u : State}

/-! Frames. -/

/-- Lists that end below the memory controller's block tell no byte's place. -/
theorem evFrame_of_lt {l : List Nat} (h : evTouches s t l) (hl : ∀ a ∈ l, a < 0x48000018) : evFrame s t l :=
  evTouches.evFrame h (fun ha => absurd (hl _ ha) (by decide)) fun n ha => by
    have := hl _ ha
    simp only [R.MC_MIG_PTR] at this
    omega

theorem lt_of_mem_eventRegs {src a : Nat} (hsrc : src < 1280) (h : a ∈ eventRegs src) : a < 0x48000018 := by
  have := mem_eventRegs_bounds hsrc h
  omega

theorem lt_of_mem_recordRegs {e : Site} {a : Nat} (he : e.blk < 32) (h : a ∈ recordRegs e) : a < 0x48000018 := by
  have := mem_recordRegs_append_eventRegs_bounds (e := ⟨e.blk, e.cls, e.inst, 0⟩) (b := a) he (Nat.zero_lt_succ _) (List.mem_append_left _ h)
  omega

/-! Writes of CH_CTL and CONS (R363). -/

theorem chan_setChan_same (s : State) (n : Nat) (x : Chan) : (s.setChan n x).chan n = x := SMap.get_set_same ..

theorem chan_setChan_ne {n m : Nat} (x : Chan) (h : m ≠ n) : (s.setChan n x).chan m = s.chan m := SMap.get_set_ne _ _ _ h

/-- SRC, EN and MIN_GAP packed are the word's own bits (R364). -/
theorem chCtl_packed (v : Word) :
    BitVec.ofNat 32 (F.EVF_CH_CTL_SRC.get v + 0x8000 * F.EVF_CH_CTL_EN.get v + 0x10000 * F.EVF_CH_CTL_MIN_GAP.get v) = v &&& 0x03ff87ff := by
  have hmask : ∀ j, j < 32 → BitVec.getLsbD (0x03ff87ff : Word) j = (decide (j < 11) || decide (15 ≤ j ∧ j < 26)) := by decide
  have hsrc : F.EVF_CH_CTL_SRC.get v < 2 ^ 15 := (Fld.get_lt _ v).trans (by decide)
  have hen : F.EVF_CH_CTL_EN.get v < 2 ^ 1 := Fld.get_lt _ v
  have hpack : F.EVF_CH_CTL_SRC.get v + 0x8000 * F.EVF_CH_CTL_EN.get v + 0x10000 * F.EVF_CH_CTL_MIN_GAP.get v
      = 2 ^ 15 * (2 ^ 1 * F.EVF_CH_CTL_MIN_GAP.get v + F.EVF_CH_CTL_EN.get v) + F.EVF_CH_CTL_SRC.get v := by omega
  refine BitVec.eq_of_getLsbD_eq fun j hj => ?_
  rw [BitVec.getLsbD_and, hmask j hj, BitVec.getLsbD_ofNat, hpack, Nat.testBit_two_pow_mul_add _ hsrc, Nat.testBit_two_pow_mul_add _ hen]
  simp only [Fld.testBit_get, F.EVF_CH_CTL_SRC, F.EVF_CH_CTL_EN, F.EVF_CH_CTL_MIN_GAP, hj, decide_true, Bool.true_and]
  by_cases hlow : j < 15
  · simp [hlow, show ¬ 15 ≤ j by omega, Bool.and_comm]
  · by_cases hbit : j = 15
    · simp [hbit]
    · simp [hlow, show ¬ j - 15 < 1 by omega, show ¬ j < 11 by omega, show 15 ≤ j by omega, show 16 + (j - 15 - 1) = j by omega,
        show j - 15 - 1 < 10 ↔ j < 26 by omega, Bool.and_comm]

/-- Does a write of CH_CTL discard the pending event (R363)? -/
def discards (v old : Word) : Bool :=
  F.EVF_CH_CTL_SRC.get v != F.EVF_CH_CTL_SRC.get old || (F.EVF_CH_CTL_EN.get v == 0 && F.EVF_CH_CTL_EN.get old == 1)

/-- A value in range is stored, and may discard the pending event. -/
theorem chCtlWrite_of_valid {n : Nat} {v : Word} (hsrc : F.EVF_CH_CTL_SRC.get v ≤ 1279) (hgap : F.EVF_CH_CTL_MIN_GAP.get v ≠ 0) :
    s.chCtlWrite n v = (if discards v (s.rd (R.EVF_CH_CTL n)) then s.setChan n { s.chan n with pend := false } else s).wr
      (R.EVF_CH_CTL n) (v &&& 0x03ff87ff) := by
  have hbadSrc : decide (1279 < F.EVF_CH_CTL_SRC.get v) = false := decide_eq_false (by omega)
  have hbadGap : (F.EVF_CH_CTL_MIN_GAP.get v == 0) = false := beq_eq_false_iff_ne.mpr hgap
  rw [← chCtl_packed]
  simp only [State.chCtlWrite, hbadSrc, hbadGap, Bool.or_false, State.when_false, Bool.false_eq_true, if_false]
  rfl

/-! Lock violations (R382, R427). -/

/-- The first violation since a clear is captured, before source 9 fires. -/
def State.lockCaptured (s : State) (m : Master) (addr : Nat) : State :=
  (((s.sf R.ERRLOG_GERR (bit 0) 1).wr64 R.ERRLOG_LOCK_ADDR_LO R.ERRLOG_LOCK_ADDR_HI (BitVec.ofNat 64 addr)).wrN R.ERRLOG_LOCK_MASTER
    (masterCode m)).record ⟨4, 3, 0, 0⟩ 0 addr

theorem lockViolation_of_first {m : Master} {addr : Nat} (h : s.on R.ERRLOG_GERR (bit 0) = false) :
    s.lockViolation m addr = (s.lockCaptured m addr).fire 9 := by
  simp only [State.lockViolation, h, Bool.false_eq_true, if_false]
  rfl

theorem lockViolation_of_later {m : Master} {addr : Nat} (h : s.on R.ERRLOG_GERR (bit 0) = true) : s.lockViolation m addr = s.fire 9 := by
  simp only [State.lockViolation, h, if_true]

theorem evTouches_lockCaptured (s : State) (m : Master) (addr : Nat) :
    evTouches s (s.lockCaptured m addr)
      ([R.ERRLOG_GERR, R.ERRLOG_LOCK_ADDR_LO, R.ERRLOG_LOCK_ADDR_HI, R.ERRLOG_LOCK_MASTER] ++ recordRegs ⟨4, 3, 0, 0⟩) := by
  have hown : evTouches s ((((s.sf R.ERRLOG_GERR (bit 0) 1).wr64 R.ERRLOG_LOCK_ADDR_LO R.ERRLOG_LOCK_ADDR_HI (BitVec.ofNat 64 addr)).wrN
      R.ERRLOG_LOCK_MASTER (masterCode m)))
      ([R.ERRLOG_GERR, R.ERRLOG_LOCK_ADDR_LO, R.ERRLOG_LOCK_ADDR_HI, R.ERRLOG_LOCK_MASTER] ++ recordRegs ⟨4, 3, 0, 0⟩) :=
    (((evTouches_refl _ _).sf _ _ (by simp)).wr64 _ (by simp) (by simp)).wrN _ (by simp)
  exact hown.trans ((evTouches_record _ _ _ _).mono (List.subset_append_right _ _))

theorem masterCode_lt (m : Master) : masterCode m < 2 ^ 32 := by
  cases m <;> simp only [masterCode] <;> omega

section
variable (s : State) (m : Master) {addr : Nat}

theorem on_lockCaptured_gerr : (s.lockCaptured m addr).on R.ERRLOG_GERR (bit 0) = true := by
  have hrd : (s.lockCaptured m addr).rd R.ERRLOG_GERR = (s.sf R.ERRLOG_GERR (bit 0) 1).rd R.ERRLOG_GERR := by
    rw [State.lockCaptured, (evTouches_record _ _ _ _).2 _ (by decide), State.wrN, rd_wr_ne _ _ (by decide), State.wr64,
      rd_wr_ne _ _ (by decide), rd_wr_ne _ _ (by decide)]
  rw [on_congr _ hrd, on_sf_one _ _ (by decide)]

theorem rd64N_lockCaptured (haddr : addr < 2 ^ 32) :
    (s.lockCaptured m addr).rd64N R.ERRLOG_LOCK_ADDR_LO R.ERRLOG_LOCK_ADDR_HI = addr := by
  have kept {a : Nat} (h : a ∉ recordRegs ⟨4, 3, 0, 0⟩) (hm : a ≠ R.ERRLOG_LOCK_MASTER) : (s.lockCaptured m addr).rd a =
      ((s.sf R.ERRLOG_GERR (bit 0) 1).wr64 R.ERRLOG_LOCK_ADDR_LO R.ERRLOG_LOCK_ADDR_HI (BitVec.ofNat 64 addr)).rd a := by
    rw [State.lockCaptured, (evTouches_record _ _ _ _).2 _ h, State.wrN, rd_wr_ne _ _ hm]
  rw [State.rd64N, State.rd64, kept (by decide) (by decide), kept (by decide) (by decide), State.wr64, rd_wr_same,
    rd_wr_ne _ _ (by decide), rd_wr_same, BitVec.extractLsb'_append_extractLsb'_eq_extractLsb' (by rfl)]
  simp
  omega

theorem rdN_lockCaptured_master : (s.lockCaptured m addr).rdN R.ERRLOG_LOCK_MASTER = masterCode m := by
  rw [State.rdN, State.lockCaptured, (evTouches_record _ _ _ _).2 _ (by decide), State.wrN, rd_wr_same, BitVec.toNat_ofNat,
    Nat.mod_eq_of_lt (masterCode_lt m)]

end

/-! Channels (R360). -/

theorem inGap_iff {n : Nat} : s.inGap n = true ↔ ∃ c, (s.chan n).last = some c ∧ s.per < c + (s.chan n).gap := by
  unfold State.inGap
  cases (s.chan n).last <;> simp

/-- No consumer input's register counts events. -/
theorem consOf_events (s : State) (n m : Nat) : (s.cnt (R.EVF_EVENTS n)).consOf m = s.consOf m := by
  refine List.filter_congr fun i hi => ?_
  have hne : R.EVF_CONS i ≠ R.EVF_EVENTS n := by
    have := List.mem_range.mp hi
    simp only [R.EVF_CONS, R.EVF_EVENTS]
    omega
  rw [on_congr _ (rd_cnt_ne hne), gf_congr _ (rd_cnt_ne hne)]

/-- A delivery: the count, the channel's moment, and the consumer inputs that follow it. -/
theorem deliver_eq (s : State) (n : Nat) : s.deliver n =
    { (s.cnt (R.EVF_EVENTS n)).setChan n ⟨some s.per, s.gf (R.EVF_CH_CTL n) F.EVF_CH_CTL_MIN_GAP, false⟩ with
      consIn := s.consIn ++ s.consOf n } := by
  rw [← consOf_events s n n]
  rfl

theorem readsKept_cnt {a : Nat} (hplace : a < 0x48000018) : readsKept s (s.cnt a) [a] :=
  ((regFrame.refl s _).wr _ (by simp) (not_placesBytes (.inl hplace))).2

/-- The counters of a channel stand in the event fabric. -/
theorem evf_lt {n : Nat} (hn : n < 256) :
    R.EVF_EVENTS n < 0x48000018 ∧ R.EVF_OVERRUN n < 0x48000018 ∧ R.EVF_CH_CTL n < 0x48000018 := by
  simp only [R.EVF_EVENTS, R.EVF_OVERRUN, R.EVF_CH_CTL]
  omega

/-- What a delivery leaves of the channels, the counters and the rest. -/
theorem deliver_frame (s : State) {n : Nat} (hn : n < 256) :
    (s.deliver n).chan n = ⟨some s.per, s.gf (R.EVF_CH_CTL n) F.EVF_CH_CTL_MIN_GAP, false⟩ ∧
      (∀ m, m ≠ n → (s.deliver n).chan m = s.chan m) ∧
      (s.deliver n).rdN (R.EVF_EVENTS n) = min 0xffffffff (s.rdN (R.EVF_EVENTS n) + 1) ∧
      (s.deliver n).consIn = s.consIn ++ s.consOf n ∧
      s.deliver n = { s with regs := (s.deliver n).regs, chans := (s.deliver n).chans, consIn := (s.deliver n).consIn } ∧
      readsKept s (s.deliver n) [R.EVF_EVENTS n] := by
  have hcount := rdN_cnt_same (s := s) (R.EVF_EVENTS n)
  have hreads := readsKept_cnt (s := s) (evf_lt hn).1
  have hchan (m : Nat) : (s.deliver n).chan m =
      ((s.cnt (R.EVF_EVENTS n)).setChan n ⟨some s.per, s.gf (R.EVF_CH_CTL n) F.EVF_CH_CTL_MIN_GAP, false⟩).chan m := by
    rw [deliver_eq]
    rfl
  refine ⟨(hchan n).trans (chan_setChan_same _ _ _), fun m hm => (hchan m).trans (chan_setChan_ne _ hm), ?_⟩
  rw [deliver_eq]
  exact ⟨hcount, rfl, rfl, hreads⟩

/-- Only the channels, the pulses on their way to them, and what consumer inputs have received differ. -/
def fabricKept (s t : State) : Prop := t = { s with chans := t.chans, chanIn := t.chanIn, consIn := t.consIn }

/-- The wrapper of the main domain leaves what reaches the fabric, registers, and pulses. -/
theorem fabricKept.keepIsland {l : List Nat} (hf : fabricKept s t) (h : evTouches t u l) : u.keepIsland s = u := by
  rw [h.1, hf]
  rfl

/-- The pulse `e` has reached its channel. -/
def State.taken (s : State) (e : Nat × Nat × Bool) : State := { s with chanIn := erase1 e s.chanIn }

theorem fabricKept_taken (s : State) (e : Nat × Nat × Bool) : fabricKept s (s.taken e) := rfl

theorem fabricKept_setChan (s : State) (n : Nat) (x : Chan) : fabricKept s (s.setChan n x) := rfl

/-- Channel `n` holds the pulse `e`. -/
def State.heldChan (s : State) (n : Nat) (e : Nat × Nat × Bool) : State := (s.taken e).setChan n { s.chan n with pend := true }

theorem fabricKept_heldChan (s : State) (n : Nat) (e : Nat × Nat × Bool) : fabricKept s (s.heldChan n e) := rfl

/-- The errors that holding an event sets. -/
def State.loopSuspect (s : State) (n : Nat) : State := (s.evfErr 0).sf R.EVF_STAT F.EVF_STAT_LAST_OVR n

/-- The pulse that arrives is taken: merged, held, or delivered. -/
theorem channelEventArrive_eq {n : Nat} {e : Nat × Nat × Bool} (he : s.chanIn.find? (fun p => p.1 == n) = some e) :
    channelEventArrive n s =
      if (s.chan n).pend then (s.taken e).cnt (R.EVF_OVERRUN n)
      else if s.inGap n then ((s.heldChan n e).cnt (R.EVF_OVERRUN n)).loopSuspect n
      else (s.taken e).deliver n := by
  simp only [channelEventArrive, he]
  rfl

/-- STAT is none of the registers that its error's record and event change. -/
theorem stat_not_mem : R.EVF_STAT ∉ recordRegs siteEvf ++ eventRegs siteEvf.src := by
  simp only [recordRegs, eventRegs, siteEvf, List.mem_append, List.mem_cons, List.mem_map, List.mem_range, List.not_mem_nil, or_false,
    R.EVF_STAT, R.ERRLOG_BLOCK_STICKY, R.ERRLOG_FINFO, R.ERRLOG_FADDR_LO, R.ERRLOG_FADDR_HI, R.ERRLOG_FTIME_LO, R.ERRLOG_FTIME_HI,
    R.ERRLOG_FAON_LO, R.ERRLOG_FAON_HI, R.IRQC_PEND, R.IRQC_MERGED, R.EVF_COINCIDE]
  rintro (((h | h | h | h | h | h | h | h) | h | h | ⟨n, hn, h⟩) | h | h | ⟨n, hn, h⟩) <;> omega

theorem rd_loopSuspect_stat (s : State) (n : Nat) :
    (s.loopSuspect n).rd R.EVF_STAT = F.EVF_STAT_LAST_OVR.put (F.EVF_STAT_LOOP_SUSPECT.put (s.rd R.EVF_STAT) 1) n := by
  rw [State.loopSuspect, State.sf, rd_wr_same, State.evfErr, rd_raise_same stat_not_mem]
  rfl

theorem evTouches_loopSuspect (s : State) (n : Nat) : evTouches s (s.loopSuspect n) (errorRegs R.EVF_STAT siteEvf) :=
  (evTouches_raise s _ _ _).sf _ _ (List.mem_cons_self ..)

/-- A held event counts in OVERRUN and raises LOOP_SUSPECT. -/
theorem evTouches_held (s : State) (n : Nat) :
    evTouches s ((s.cnt (R.EVF_OVERRUN n)).loopSuspect n) (R.EVF_OVERRUN n :: errorRegs R.EVF_STAT siteEvf) :=
  ((evTouches_refl s _).cnt (List.mem_cons_self ..)).trans ((evTouches_loopSuspect _ _).mono (List.subset_cons_self _ _))

theorem lt_of_mem_errorRegs_stat {a : Nat} (h : a ∈ errorRegs R.EVF_STAT siteEvf) : a < 0x48000018 := by
  obtain rfl | h := List.mem_cons.mp h
  · decide
  · obtain h | h := List.mem_append.mp h
    · exact lt_of_mem_recordRegs (by decide) h
    · exact lt_of_mem_eventRegs (by decide) h

/-- OVERRUN is none of the registers of that error. -/
theorem overrun_not_mem {n : Nat} (hn : n < 256) : R.EVF_OVERRUN n ∉ errorRegs R.EVF_STAT siteEvf := by
  simp only [errorRegs, recordRegs, eventRegs, siteEvf, List.mem_append, List.mem_cons, List.mem_map, List.mem_range, List.not_mem_nil, or_false,
    R.EVF_STAT, R.ERRLOG_BLOCK_STICKY, R.ERRLOG_FINFO, R.ERRLOG_FADDR_LO, R.ERRLOG_FADDR_HI, R.ERRLOG_FTIME_LO, R.ERRLOG_FTIME_HI,
    R.ERRLOG_FAON_LO, R.ERRLOG_FAON_HI, R.IRQC_PEND, R.IRQC_MERGED, R.EVF_COINCIDE, R.EVF_OVERRUN]
  rintro (h | ((h | h | h | h | h | h | h | h) | h | h | ⟨m, hm, h⟩) | h | h | ⟨m, hm, h⟩) <;> omega

/-! The mailboxes (R370, R387). -/

/-- A source that is pending already counts in MERGED, and else does not. -/
theorem rd_fire_merged (src : Nat) (hsrc : src < 1280) (hm : s.mainReset = false) :
    (s.fire src).rd R.IRQC_MERGED = if s.irqPend src then (s.cnt R.IRQC_MERGED).rd R.IRQC_MERGED else s.rd R.IRQC_MERGED := by
  have hout : R.IRQC_MERGED ∉ (List.range 260).map R.EVF_COINCIDE := fun h => by
    obtain ⟨n, hn, h⟩ := List.mem_map.mp h
    simp only [R.EVF_COINCIDE, R.IRQC_MERGED] at h
    omega
  have pulses {u v : State} (h : evTouches u v ((List.range 260).map R.EVF_COINCIDE)) : v.rd R.IRQC_MERGED = u.rd R.IRQC_MERGED := h.2 _ hout
  unfold State.fire
  rw [if_neg (by simp [hm])]
  refine (pulses ((((evTouches_pulses _ _ (fun _ h => channelsOf_lt h)).fixedWhen _ (by omega) (List.Subset.refl _)).fixedWhen _ (by omega)
    (List.Subset.refl _)).fixedWhen _ (by omega) (List.Subset.refl _))).trans ?_
  unfold State.irqPend
  split
  · rfl
  · exact rd_sf_ne _ _ (by simp only [R.IRQC_MERGED, R.IRQC_PEND]; omega)

/-- The island's marks of a doorbell: the core that is rung, and the cycle. -/
def State.coreMarked (s : State) (g : Nat) : State := { s with gBell := s.gBell.set g true, doorPer := s.doorPer.set g (some s.per) }
def State.appMarked (s : State) : State := { s with doorPer := s.doorPer.set 2 (some s.per) }

theorem irqPend_appMarked (s : State) (src : Nat) : s.appMarked.irqPend src = s.irqPend src := rfl

/-- The doorbell of a guardian core. -/
theorem doorbell_fires {c : Instr} (g : Nat) (hg : g < 2) (hm : s.mainReset = false)
    (hexec : exec c s = .next ((doorbell g s).keepGuard s)) :
    ∃ t, exec c s = .next t ∧ t.irqPend (48 + g) = true ∧ t.gBell = s.gBell.set g true ∧ t.doorPer = s.doorPer.set g (some s.per) ∧
      t = { s with regs := t.regs, chanIn := t.chanIn, fixedIn := t.fixedIn, gBell := t.gBell, doorPer := t.doorPer } ∧
      readsKept s t (eventRegs (48 + g)) := by
  have heffect : doorbell g s = (s.coreMarked g).fire (48 + g) := rfl
  obtain ⟨hstate, hreads⟩ := pulseFrame_fire (s := s.coreMarked g) (src := 48 + g) (by omega)
  have hkeep : ((s.coreMarked g).fire (48 + g)).keepGuard s = (s.coreMarked g).fire (48 + g) := by rw [hstate]; rfl
  refine ⟨(s.coreMarked g).fire (48 + g), hexec.trans (by rw [heffect, hkeep]), on_fire _ _ (by omega) hm, ?_, ?_, ?_, hreads⟩
  · rw [hstate]; rfl
  · rw [hstate]; rfl
  · rw [hstate]; rfl

/-! COMPLETE (R388). -/

/-- Clearing one PEND bit leaves every other. -/
theorem irqPend_sf {id j : Nat} :
    (s.sf (R.IRQC_PEND (id / 32)) (bit (id % 32)) 0).irqPend j = (s.irqPend j && !decide (j = id)) := by
  unfold State.irqPend
  by_cases hword : j / 32 = id / 32
  · by_cases hj : j = id
    · rw [hj, on_sf_zero _ _ (Nat.mod_lt _ (by decide))]
      simp
    · rw [hword, State.on, gf_sf_ne _ _ _ _ (by simp only [bit]; omega)]
      simp [State.on, hj]
  · have hne : R.IRQC_PEND (j / 32) ≠ R.IRQC_PEND (id / 32) := by simp only [R.IRQC_PEND]; omega
    rw [on_congr _ (rd_sf_ne _ _ hne)]
    simp [show j ≠ id by rintro rfl; exact hword rfl]

/-! The statements. -/

/-- Settles O49: the lock decides between a violation and the write. -/
theorem lockedRoutesIgnoreWritesAndRecordTheViolation : Obligations.LockedRoutesIgnoreWritesAndRecordTheViolation := by
  intro s m cons i v hi hm
  have run : exec (.evfRouteWrite m cons i v) s = .next ((evfRouteWrite m cons i v s).keepIsland s) := onMain_unit (evfRouteWrite m cons i v) hm hi
  have locked (h : s.on R.EVF_LOCK (bit 0) = true) :
      evfRouteWrite m cons i v s = s.lockViolation m (if cons then R.EVF_CONS i else R.EVF_CH_CTL i) := if_pos h
  have free (h : s.on R.EVF_LOCK (bit 0) = false) : evfRouteWrite m cons i v s =
      if cons then (if consOk i then s.wr (R.EVF_CONS i) (v &&& 0x1ff) else s) else s.chCtlWrite i v := if_neg (by simp [h])
  have haddr : (if cons then R.EVF_CONS i else R.EVF_CH_CTL i) < 2 ^ 32 := by
    cases cons <;> simp only [if_true, Bool.false_eq_true, if_false, R.EVF_CONS, R.EVF_CH_CTL] at hi ⊢ <;> omega
  refine ⟨fun hlock hfirst => ?first, fun hlock hlater => ?later, fun hlock hcons hok => ?cons, fun hlock hcons hok => ?absent,
    fun hlock hcons hsrc hgap => ?ctl⟩
  case first =>
    have heffect := (locked hlock).trans (lockViolation_of_first hfirst)
    generalize (if cons then R.EVF_CONS i else R.EVF_CH_CTL i) = addr at heffect haddr ⊢
    have hcap := evTouches_lockCaptured s m addr
    have hfire := evTouches_fire (s.lockCaptured m addr) 9
    have kept {a : Nat} (ha : a < 0x42200400) : ((s.lockCaptured m addr).fire 9).rd a = (s.lockCaptured m addr).rd a :=
      hfire.2 a fun h => by
        have := mem_eventRegs_bounds (by decide) h
        omega
    have htouch := (hcap.mono (List.subset_append_left _ (eventRegs 9))).trans (hfire.mono (List.subset_append_right _ _))
    have hframe := evFrame_of_lt htouch fun a ha => by
      obtain ha | ha := List.mem_append.mp ha
      · obtain ha | ha := List.mem_append.mp ha
        · simp only [R.ERRLOG_GERR, R.ERRLOG_LOCK_ADDR_LO, R.ERRLOG_LOCK_ADDR_HI, R.ERRLOG_LOCK_MASTER, List.mem_cons, List.not_mem_nil,
            or_false] at ha
          omega
        · exact lt_of_mem_recordRegs (by decide) ha
      · exact lt_of_mem_eventRegs (by decide) ha
    have hreset : (s.lockCaptured m addr).mainReset = false := by rw [hcap.1]; exact hm
    refine ⟨(s.lockCaptured m addr).fire 9, run.trans (by rw [heffect, htouch.keepIsland]), ?_, on_fire _ 9 (by decide) hreset, ?_, ?_, ?_,
      hframe⟩
    · rw [on_congr _ (kept (by decide)), on_lockCaptured_gerr]
    · rw [State.rd64N, State.rd64, kept (by decide), kept (by decide)]
      exact rd64N_lockCaptured s m haddr
    · rw [State.rdN, kept (by decide)]
      exact rdN_lockCaptured_master s m
    · rw [on_congr _ (kept (by decide))]
      exact on_record_sticky _ _ _ (by decide)
  case later =>
    have heffect := (locked hlock).trans (lockViolation_of_later hlater)
    have htouch := evTouches_fire s 9
    exact ⟨s.fire 9, run.trans (by rw [heffect, htouch.keepIsland]), on_fire _ 9 (by decide) hm,
      evFrame_of_lt htouch fun a ha => lt_of_mem_eventRegs (by decide) ha⟩
  case cons =>
    have heffect : evfRouteWrite m cons i v s = s.wr (R.EVF_CONS i) (v &&& 0x1ff) := by rw [free hlock, hcons, hok]; rfl
    exact run.trans (by rw [heffect, (evTouches_wr _ _ _).keepIsland])
  case absent =>
    have heffect : evfRouteWrite m cons i v s = s := by rw [free hlock, hcons, hok]; rfl
    exact run.trans (by rw [heffect, (evTouches_refl s []).keepIsland])
  case ctl =>
    have hlt : R.EVF_CH_CTL i < 0x48000018 := by
      rw [hcons] at hi
      exact (evf_lt hi).2.2
    have heffect : evfRouteWrite m cons i v s = s.chCtlWrite i v := by rw [free hlock, hcons]; rfl
    rw [chCtlWrite_of_valid hsrc hgap] at heffect
    have hreads : readsKept s (s.wr (R.EVF_CH_CTL i) (v &&& 0x03ff87ff)) [R.EVF_CH_CTL i] :=
      ((regFrame.refl s _).wr _ (by simp) (not_placesBytes (.inl hlt))).2
    have hstored : (s.wr (R.EVF_CH_CTL i) (v &&& 0x03ff87ff)).rd (R.EVF_CH_CTL i) = v &&& 0x03ff87ff := rd_wr_same _ _ _
    cases hd : discards v (s.rd (R.EVF_CH_CTL i)) with
    | true =>
      rw [hd, if_pos rfl] at heffect
      have hkeep := (fabricKept_setChan s i { s.chan i with pend := false }).keepIsland (evTouches_wr _ (R.EVF_CH_CTL i) (v &&& 0x03ff87ff))
      refine ⟨(s.setChan i { s.chan i with pend := false }).wr (R.EVF_CH_CTL i) (v &&& 0x03ff87ff), run.trans (by rw [heffect, hkeep]), hstored,
        fun _ => ?_, fun hs he => ?_, fun j hj => chan_setChan_ne (s := s) _ hj, rfl, hreads⟩
      · exact congrArg Chan.pend (chan_setChan_same s i _)
      · simp [discards, hs, he] at hd
        omega
    | false =>
      rw [hd, if_neg Bool.false_ne_true] at heffect
      refine ⟨s.wr (R.EVF_CH_CTL i) (v &&& 0x03ff87ff), run.trans (by rw [heffect, (evTouches_wr s _ _).keepIsland]), hstored,
        fun h => ?_, fun _ _ => rfl, fun _ _ => rfl, rfl, hreads⟩
      simp only [discards, Bool.or_eq_false_iff, bne_eq_false_iff_eq, Bool.and_eq_false_iff, beq_eq_false_iff_ne] at hd
      obtain ⟨hs, he⟩ := hd
      obtain h | ⟨h, h'⟩ := h
      · exact absurd hs h
      · exact absurd (he.resolve_left (not_not.mpr h)) (not_not.mpr h')

/-- Settles O50: a pulse merges, is held or is delivered. -/
theorem eventChannelsDeliverOncePerMinGap : Obligations.EventChannelsDeliverOncePerMinGap := by
  intro s n e hn hm
  have arrive := onMain_unit (channelEventArrive n) hm hn
  have deliver := onMain_unit (pendingEventDeliver n) hm hn
  refine ⟨fun he hp => ?merged, fun he hp hgap => ?held, fun he hp hgap => ?delivered, fun hp hgap => ?later, fun h => ?waits, inGap_iff⟩
  case merged =>
    have heffect := channelEventArrive_eq he
    rw [if_pos hp] at heffect
    have hcount := rdN_cnt_same (s := s) (R.EVF_OVERRUN n)
    have hreads := readsKept_cnt (s := s) (evf_lt hn).2.1
    exact ⟨(s.taken e).cnt (R.EVF_OVERRUN n), arrive.trans (by rw [heffect, (fabricKept_taken s e).keepIsland (evTouches_cnt _ _)]), hcount, rfl,
      hreads⟩
  case held =>
    have heffect := channelEventArrive_eq he
    rw [if_neg (by simp [hp]), if_pos hgap] at heffect
    have hframe := evFrame_of_lt (evTouches_held (s.heldChan n e) n) fun a ha => (List.mem_cons.mp ha).elim (fun h => h ▸ (evf_lt hn).2.1)
      lt_of_mem_errorRegs_stat
    have hkeep := (fabricKept_heldChan s n e).keepIsland (evTouches_held (s.heldChan n e) n)
    have hchan (m : Nat) : (((s.heldChan n e).cnt (R.EVF_OVERRUN n)).loopSuspect n).chan m = (s.heldChan n e).chan m := by
      rw [State.chan, hframe.1]
      rfl
    have hcount : (((s.heldChan n e).cnt (R.EVF_OVERRUN n)).loopSuspect n).rdN (R.EVF_OVERRUN n) =
        min 0xffffffff (s.rdN (R.EVF_OVERRUN n) + 1) := by
      rw [State.rdN, (evTouches_loopSuspect _ _).2 _ (overrun_not_mem hn)]
      exact rdN_cnt_same _
    have hstat := rd_loopSuspect_stat ((s.heldChan n e).cnt (R.EVF_OVERRUN n)) n
    rw [rd_cnt_ne (by simp only [R.EVF_STAT, R.EVF_OVERRUN]; omega)] at hstat
    have hheld : (s.heldChan n e).chan n = { s.chan n with pend := true } := chan_setChan_same _ _ _
    obtain ⟨hstate, hreads⟩ := hframe
    refine ⟨((s.heldChan n e).cnt (R.EVF_OVERRUN n)).loopSuspect n, arrive.trans ?_, ?_, ?_, hcount, hstat, fun m hne => ?_, ?_, hreads⟩
    · rw [heffect, hkeep]
    · rw [hchan, hheld]
    · rw [hchan, hheld]
    · exact (hchan m).trans (chan_setChan_ne (s := s.taken e) _ hne)
    · rw [hstate]
      rfl
  case delivered =>
    have heffect := channelEventArrive_eq he
    rw [if_neg (by simp [hp]), if_neg (by simp [hgap])] at heffect
    obtain ⟨hchan, hothers, hcount, hcons, hstate, hreads⟩ := deliver_frame (s.taken e) hn
    have hkeep : ((s.taken e).deliver n).keepIsland s = (s.taken e).deliver n := by rw [hstate]; rfl
    exact ⟨(s.taken e).deliver n, arrive.trans (by rw [heffect, hkeep]), hchan, hothers, hcount, hcons, hstate, hreads⟩
  case later =>
    have heffect : pendingEventDeliver n s = s.deliver n := if_pos (by simp [hp, hgap])
    obtain ⟨hchan, hothers, hcount, hcons, hstate, hreads⟩ := deliver_frame s hn
    have hkeep : (s.deliver n).keepIsland s = s.deliver n := by rw [hstate]; rfl
    exact ⟨_, deliver.trans (by rw [heffect, hkeep]), hchan, hothers, hcount, hcons, hstate, hreads⟩
  case waits =>
    have heffect : pendingEventDeliver n s = s := if_neg (by obtain h | h := h <;> simp [h])
    exact deliver.trans (by rw [heffect, (evTouches_refl s []).keepIsland])

/-- Settles O51: each doorbell is its mark in the island and an event, or the count of a denial. -/
theorem mailboxDoorbellsFireTheirSources : Obligations.MailboxDoorbellsFireTheirSources := by
  intro s hp hm
  refine ⟨?_, ?_, fun m hpriv => ?app, fun m hpriv => ?denied⟩
  · exact doorbell_fires 0 (by decide) hm (onIsland_run toG0 rfl hp)
  · exact doorbell_fires 1 (by decide) hm (onIsland_run toG1 rfl hp)
  case app =>
    have heffect : toApp m s = (s.appMarked).fire 50 := if_pos hpriv
    obtain ⟨hstate, hreads⟩ := pulseFrame_fire (s := s.appMarked) (src := 50) (by decide)
    have hmerged := rd_fire_merged (s := s.appMarked) 50 (by decide) hm
    have hkeep : (s.appMarked.fire 50).keepGuard s = s.appMarked.fire 50 := by rw [hstate]; rfl
    refine ⟨s.appMarked.fire 50, (onIsland_run (toApp m) rfl hp).trans (by rw [heffect, hkeep]), on_fire _ 50 (by decide) hm, ?_, ?_, hreads,
      fun hpend => ?_, fun hpend => ?_⟩
    · rw [hstate]; rfl
    · rw [hstate]; rfl
    · rw [State.rdN, hmerged, irqPend_appMarked, if_pos hpend]
      exact rdN_cnt_same (s := s) _
    · rw [hmerged, irqPend_appMarked, if_neg (by simp [hpend])]
      rfl
  case denied =>
    have heffect : toApp m s = s.denied := if_neg (by simp [hpriv])
    have hframe : regFrame s s.denied [R.SYS_PRIV_DENIED] := (regFrame.refl s _).wr _ (by simp) (not_placesBytes (by decide))
    exact ⟨s.denied, (onIsland_run (toApp m) rfl hp).trans (by rw [heffect, hframe.keepGuard]), rdN_cnt_same _, hframe⟩

/-- Settles O52: the privilege of master, target and source decides between the clear and the count of the denial. -/
theorem completeClearsExactlyItsPendBit : Obligations.CompleteClearsExactlyItsPendBit := by
  intro s m t id ht hid hm
  have run := onMain_unit (irqComplete m t id) hm ht
  have hx : id % 2048 = id := Nat.mod_eq_of_lt (by omega)
  refine ⟨fun h => ?cleared, fun hpriv h => ?denied⟩
  case cleared =>
    have heffect : irqComplete m t id s = s.sf (R.IRQC_PEND (id / 32)) (bit (id % 32)) 0 := by
      simp only [irqComplete, hx, hid, decide_true, Bool.true_and, if_true]
      exact if_neg (by obtain h | ⟨h, h'⟩ := h <;> simp_all)
    have hframe : regFrame s (s.sf (R.IRQC_PEND (id / 32)) (bit (id % 32)) 0) [R.IRQC_PEND (id / 32)] :=
      (regFrame.refl s _).sf _ _ (by simp) (not_placesBytes (.inl (by simp only [R.IRQC_PEND]; omega)))
    refine ⟨s.sf (R.IRQC_PEND (id / 32)) (bit (id % 32)) 0, run.trans (by rw [heffect, hframe.keepIsland]), ?_, fun j _ hj => ?_, hframe⟩
    · simp [irqPend_sf]
    · simp [irqPend_sf, hj]
  case denied =>
    have heffect : irqComplete m t id s = s.denied := by
      simp only [irqComplete, hx, hid, decide_true, Bool.true_and]
      exact if_pos (by obtain h | h := h <;> simp [hpriv, h])
    have hframe : regFrame s s.denied [R.SYS_PRIV_DENIED] := (regFrame.refl s _).wr _ (by simp) (not_placesBytes (by decide))
    exact ⟨s.denied, run.trans (by rw [heffect, hframe.keepIsland]), rdN_cnt_same _, hframe⟩

end Sys2Proof.Machine
end

section
/-! The values of State.reset (R352, R357, R364, R391, R392, R415, R430, R431, R434, R446, R447); then the statement about reset. -/

namespace Sys2Proof.Machine

/-- The 256 channels in sixteen rows of sixteen. -/
theorem rd_reset_chCtl_rows : ∀ q, q < 16 → ∀ r, r < 16 → State.reset.rd (R.EVF_CH_CTL (16 * q + r)) = 0x00100000 := by decide

theorem rd_reset_chCtl {n : Nat} (hn : n < 256) : State.reset.rd (R.EVF_CH_CTL n) = 0x00100000 := by
  have h := rd_reset_chCtl_rows (n / 16) (by omega) (n % 16) (by omega)
  rwa [show 16 * (n / 16) + n % 16 = n by omega] at h

/-- Settles O3: each value is the reset value of its row, or stands in State.reset. -/
theorem resetLeavesTheStatedRegisterValues : Obligations.ResetLeavesTheStatedRegisterValues :=
  ⟨by decide, by decide, by decide, by decide, fun _ => rd_reset_chCtl, by decide, by decide, by decide, by decide, by decide, by decide,
    by decide, by decide, by decide, by decide, by decide, rfl⟩

end Sys2Proof.Machine
end

section
/-! What the pulse generators leave of the time base in a step of network time (R347, R354), and the latch of a generator's parameters
(R355, R356); then the statements of 13_time_and_events.md about the time base and the generators. -/

namespace Sys2Proof.Machine

variable {s t u : State} {k : Nat}

/-! The time base through the work of the generators. -/

/-- The registers of the time base that a step writes. -/
def stepRegs : List Nat := [R.PTP_PSTAT, R.PTP_STEPS]

/-- The time base, PSTAT and STEPS are those of `s`. -/
def TimeKept (s t : State) : Prop := t.time = s.time ∧ ∀ a ∈ stepRegs, t.rd a = s.rd a

theorem TimeKept.refl (s : State) : TimeKept s s := ⟨rfl, fun _ _ => rfl⟩

theorem TimeKept.trans (h : TimeKept s t) (h' : TimeKept t u) : TimeKept s u :=
  ⟨h'.1.trans h.1, fun a ha => (h'.2 a ha).trans (h.2 a ha)⟩

theorem TimeKept.ite {c : Prop} {_ : Decidable c} (h : TimeKept s t) (h' : TimeKept s u) : TimeKept s (if c then t else u) := by
  split
  · exact h
  · exact h'

/-- What reaches registers elsewhere and pulses. -/
theorem TimeKept.touch {l : List Nat} (h : TimeKept s t) (h' : evTouches t u l) (hl : ∀ a ∈ l, a ∉ stepRegs) : TimeKept s u :=
  h.trans ⟨by rw [h'.1], fun a ha => h'.2 a fun hal => hl a hal ha⟩

theorem not_stepRegs {a : Nat} (h : a < 0x45000008 ∨ 0x45100000 ≤ a) : a ∉ stepRegs := by
  simp only [stepRegs, R.PTP_PSTAT, R.PTP_STEPS, List.mem_cons, List.not_mem_nil, or_false]
  omega

theorem TimeKept.wr (h : TimeKept s t) {a : Nat} (v : Word) (ha : a < 0x45000008 ∨ 0x45100000 ≤ a) : TimeKept s (t.wr a v) :=
  h.touch (evTouches_wr t a v) fun _ hb => List.mem_singleton.mp hb ▸ not_stepRegs ha

theorem TimeKept.sf (h : TimeKept s t) {a : Nat} (f : Fld) (n : Nat) (ha : a < 0x45000008 ∨ 0x45100000 ≤ a) : TimeKept s (t.sf a f n) :=
  h.wr _ ha

theorem TimeKept.cnt (h : TimeKept s t) {a : Nat} (ha : a < 0x45000008 ∨ 0x45100000 ≤ a) : TimeKept s (t.cnt a) := h.wr _ ha

theorem TimeKept.fire (h : TimeKept s t) {src : Nat} (hsrc : src < 1280) : TimeKept s (t.fire src) :=
  h.touch (evTouches_fire t src) fun a ha => not_stepRegs (by
    have := mem_eventRegs_bounds hsrc ha
    omega)

theorem TimeKept.tpErr (h : TimeKept s t) (b : Nat) : TimeKept s (t.tpErr k b) :=
  h.touch (evTouches_raise t _ _ _) fun a ha => not_stepRegs (by
    obtain rfl | ha := List.mem_cons.mp ha
    · simp only [R.TPG_TERR]
      omega
    · have := mem_recordRegs_append_eventRegs_bounds (e := siteTp k) (by simp only [siteTp]; omega) (by simp only [siteTp]; omega) ha
      omega)

theorem TimeKept.setTp (h : TimeKept s t) (x : TpX) : TimeKept s (t.setTp k x) := h.trans ⟨rfl, fun _ _ => rfl⟩

theorem TimeKept.emit (h : TimeKept s t) (o : Output) : TimeKept s (t.emit o) := h.trans ⟨rfl, fun _ _ => rfl⟩

theorem TimeKept.setPort (h : TimeKept s t) (q : Nat) (x : PortX) : TimeKept s (t.setPort q x) := h.trans ⟨rfl, fun _ _ => rfl⟩

theorem TimeKept.tpTakeBack (h : TimeKept s t) (es : List Int) : TimeKept s (t.tpTakeBack k es) :=
  times_keeps (P := TimeKept s) (fun _ _ hu => (hu.setPort _ _).ite hu) 32 t h

theorem TimeKept.tpNext (h : TimeKept s t) : TimeKept s (t.tpNext k) := by
  refine TimeKept.wr (h.wr _ ?_) _ ?_
  all_goals simp only [R.TPG_NEXT_LO, R.TPG_NEXT_HI]; omega

theorem TimeKept.tpLevel (h : TimeKept s t) (active : Bool) (edge : Option Int) : TimeKept s (t.tpLevel k active edge) :=
  ((h.sf _ _ (by simp only [R.TPG_TSTAT]; omega)).emit _).ite h

/-- A domain's calibration ends (R417). -/
theorem TimeKept.calEnd (h : TimeKept s t) : TimeKept s (t.calEnd 6) := by
  have hstat : R.CAL_DSTAT 6 < 0x45000008 ∨ 0x45100000 ≤ R.CAL_DSTAT 6 := by decide
  have hrun (n : Nat) := (((((h.sf F.CAL_DSTAT_SEQ n hstat).sf F.CAL_DSTAT_VALID 1 hstat).sf F.CAL_DSTAT_BUSY 0 hstat).cnt
    (a := R.CAL_RUNS) (by decide)).fire (src := 13) (by decide))
  have htrigger {u : State} (hu : TimeKept s u) : TimeKept s (u.calTrigger 6) := (hu.sf _ _ hstat).ite (hu.trans ⟨rfl, fun _ _ => rfl⟩)
  exact h.ite ((htrigger ((hrun _).sf F.CAL_DSTAT_PENDING 0 hstat)).ite (hrun _))

theorem TimeKept.calApply (h : TimeKept s t) (n : Nat) : TimeKept s (t.calApply 6 n) := by
  have hstaged (l : List (Nat × Nat)) : TimeKept s { t with calStaged := l } := h.trans ⟨rfl, fun _ _ => rfl⟩
  exact (TimeKept.calEnd ((hstaged _).cnt (a := R.CAL_APPLIED) (by decide))).ite h

theorem TimeKept.tpIdle (h : TimeKept s t) : TimeKept s (t.tpIdle k) := by
  have hback : TimeKept s (t.tpTakeBack k ((t.tp k).edges.map (·.2))) := h.tpTakeBack _
  refine TimeKept.fire (TimeKept.calApply (TimeKept.sf (TimeKept.setTp ?_ _) _ _ ?_) k) (by decide)
  · exact (hback.tpLevel false none).ite hback
  · simp only [R.TPG_TSTAT]
    omega

theorem TimeKept.tpCheckEnd (h : TimeKept s t) : TimeKept s (t.tpCheckEnd k) := h.tpIdle.ite h

theorem TimeKept.tpTrail (h : TimeKept s t) (edge : Int) : TimeKept s (t.tpTrail k edge) := by
  have hlevel := ((h.setTp (k := k) { t.tp k with active := none }).tpLevel (k := k) false (some edge)).calApply k
  exact hlevel.tpIdle.ite hlevel.tpCheckEnd

theorem TimeKept.tpSkip (h : TimeKept s t) : TimeKept s (t.tpSkip k) := (h.cnt (by simp only [R.TPG_SKIPPED]; omega)).tpErr 0

theorem timeKept_tpStepped (s : State) : TimeKept s s.tpStepped := by
  refine times_keeps (P := TimeKept s) (fun k t h => ?_) 16 s (.refl s)
  have hskip (l : List (Nat × Int)) (v : State) (hv : TimeKept s v) : TimeKept s (l.foldl (fun s _ => s.tpSkip k) v) :=
    foldl_keeps (P := TimeKept s) (fun _ _ hu => hu.tpSkip) l v hv
  extract_lets x gone taken skipped ended
  have hskipped : TimeKept s skipped := hskip gone taken ((h.setTp _).tpTakeBack _)
  have hended : TimeKept s ended := by
    unfold ended
    split
    · exact (hskipped.tpTrail _).ite hskipped
    · exact hskipped
  exact hended.tpNext.tpCheckEnd.ite hended

/-! Generators at rest (R354). -/

/-- Generator `k` neither runs nor owes an edge. -/
def State.tpRests (s : State) (k : Nat) : Prop := s.tpState k ≠ 2 ∧ (s.tp k).edges = [] ∧ (s.tp k).active = none

theorem tp_setTp_same (s : State) (k : Nat) (x : TpX) : (s.setTp k x).tp k = x := SMap.get_set_same ..

theorem tp_setTp_ne {j : Nat} (x : TpX) (h : j ≠ k) : (s.setTp k x).tp j = s.tp j := SMap.get_set_ne _ _ _ h

/-- Only the generators' own state and the ports differ. -/
def tpTouches (s t : State) : Prop := t = { s with tps := t.tps, ports := t.ports }

theorem tpTouches.trans (h : tpTouches s t) (h' : tpTouches t u) : tpTouches s u := by
  rw [tpTouches, h', h]

theorem tpTouches.rd (h : tpTouches s t) (a : Nat) : t.rd a = s.rd a := by rw [h]; rfl

theorem tpTouches.rdByte (h : tpTouches s t) (a : Nat) : t.rdByte a = s.rdByte a := by rw [h]; rfl

theorem tpTouches.tpState (h : tpTouches s t) (k : Nat) : t.tpState k = s.tpState k := gf_congr _ (h.rd _)

theorem tpTouches_setTp (s : State) (k : Nat) (x : TpX) : tpTouches s (s.setTp k x) := rfl

theorem tpTouches_setPort (s : State) (q : Nat) (x : PortX) : tpTouches s (s.setPort q x) := rfl

/-- Taking edges back reaches the ports alone. -/
theorem tpTouches_tpTakeBack (s : State) (k : Nat) (es : List Int) : tpTouches s (s.tpTakeBack k es) := by
  refine times_keeps (P := tpTouches s) (fun q t h => ?_) 32 s rfl
  split
  · exact h.trans (tpTouches_setPort t q _)
  · exact h

theorem tp_tpTakeBack (s : State) (k j : Nat) (es : List Int) : (s.tpTakeBack k es).tp j = s.tp j := by
  refine times_keeps (P := fun t => t.tp j = s.tp j) (fun q t h => ?_) 32 s rfl
  split
  · exact h
  · exact h

/-- No generator that rests does anything in a step. -/
theorem tpTouches_tpStepped (h : ∀ k, k < 16 → s.tpRests k) : tpTouches s s.tpStepped := by
  have hall : tpTouches s s.tpStepped ∧ ∀ k, k < 16 → s.tpStepped.tpRests k := by
    refine times_induction (P := fun _ t => tpTouches s t ∧ ∀ k, k < 16 → t.tpRests k) ⟨rfl, h⟩ fun k t hk ⟨ht, hrest⟩ => ?_
    obtain ⟨hstate, hedges, hactive⟩ := hrest k hk
    extract_lets x gone taken skipped ended
    have htaken : tpTouches t taken := (tpTouches_setTp t k _).trans (tpTouches_tpTakeBack _ k _)
    have hgone : gone = [] := by simp [gone, x, hedges]
    have hskipped : skipped = taken := by simp [skipped, hgone]
    have hended : ended = taken := by
      unfold ended
      rw [hskipped]
      simp only [x, hactive]
    have hstays : ended.tpState k ≠ 2 := by rw [hended, htaken.tpState]; exact hstate
    rw [if_neg (by simpa using hstays), hended]
    refine ⟨ht.trans htaken, fun j hj => ?_⟩
    obtain ⟨hjstate, hjedges, hjactive⟩ := hrest j hj
    refine ⟨by rw [htaken.tpState]; exact hjstate, ?_⟩
    have htp : taken.tp j = (t.setTp k { x with edges := x.edges.filter (fun e => decide (t.nt ≤ qNt e.2)) }).tp j := tp_tpTakeBack _ _ _ _
    rw [htp]
    by_cases hjk : j = k
    · subst hjk
      rw [tp_setTp_same]
      simp [x, hedges, hactive]
    · rw [tp_setTp_ne _ hjk]
      exact ⟨hjedges, hjactive⟩
  exact hall.1

/-! SET and STEP (R347, R348). -/

/-- A refused step: the count, the error, and event 1122. -/
theorem stepRefused_frame (s : State) :
    s.stepRefused.rdN R.PTP_STEPS_REFUSED = min 0xffffffff (s.rdN R.PTP_STEPS_REFUSED + 1) ∧
      s.stepRefused.rd R.PTP_PERR = (bit 0).put (s.rd R.PTP_PERR) 1 ∧
      evTouches s s.stepRefused (R.PTP_STEPS_REFUSED :: (errorRegs R.PTP_PERR sitePtp ++ eventRegs 1122)) := by
  have outside {a : Nat} (ha : 0x44003c10 ≤ a) : a ∉ recordRegs sitePtp ++ eventRegs sitePtp.src ∧ a ∉ eventRegs 1122 := by
    refine ⟨fun h => ?_, fun h => ?_⟩
    · have := mem_recordRegs_append_eventRegs_bounds (by decide) (by decide) h
      omega
    · have := mem_eventRegs_bounds (by decide) h
      omega
  have hcnt := evTouches_cnt s R.PTP_STEPS_REFUSED
  have herr := evTouches_raise (s.cnt R.PTP_STEPS_REFUSED) R.PTP_PERR 0 sitePtp
  have hfire := evTouches_fire ((s.cnt R.PTP_STEPS_REFUSED).ptpErr 0) 1122
  refine ⟨?_, ?_, ?_⟩
  · have hkept : R.PTP_STEPS_REFUSED ∉ errorRegs R.PTP_PERR sitePtp := fun h =>
      (List.mem_cons.mp h).elim (fun h => absurd h (by decide)) (outside (by decide)).1
    rw [State.rdN, State.stepRefused, hfire.2 _ (outside (by decide)).2, State.ptpErr, herr.2 _ hkept]
    exact rdN_cnt_same _
  · rw [State.stepRefused, hfire.2 _ (outside (by decide)).2, State.ptpErr, rd_raise_same (outside (by decide)).1, rd_cnt_ne (by decide)]
  · refine ((hcnt.mono ?_).trans (herr.mono ?_)).trans (hfire.mono ?_)
    · exact List.cons_subset_cons _ (List.nil_subset _)
    · exact fun a ha => List.mem_cons_of_mem _ (List.mem_append_left _ ha)
    · exact fun a ha => List.mem_cons_of_mem _ (List.mem_append_right _ ha)

theorem lt_of_mem_refusedRegs {a : Nat} (h : a ∈ R.PTP_STEPS_REFUSED :: (errorRegs R.PTP_PERR sitePtp ++ eventRegs 1122)) :
    a < 0x48000018 := by
  obtain rfl | h := List.mem_cons.mp h
  · decide
  · obtain h | h := List.mem_append.mp h
    · obtain rfl | h := List.mem_cons.mp h
      · decide
      · have := mem_recordRegs_append_eventRegs_bounds (by decide) (by decide) h
        omega
    · exact lt_of_mem_eventRegs (by decide) h

/-- A command that is refused as a step answers the refusal. -/
theorem refuses_step {c : Instr} {f : State → State} (hexec : exec c s = .next ((f s).keepIsland s)) (hf : f s = s.stepRefused) :
    ∃ t, exec c s = .next t ∧ t.rdN R.PTP_STEPS_REFUSED = min 0xffffffff (s.rdN R.PTP_STEPS_REFUSED + 1) ∧
      t.rd R.PTP_PERR = (bit 0).put (s.rd R.PTP_PERR) 1 ∧
      evFrame s t (R.PTP_STEPS_REFUSED :: (errorRegs R.PTP_PERR sitePtp ++ eventRegs 1122)) := by
  obtain ⟨hcount, herr, htouch⟩ := stepRefused_frame s
  exact ⟨s.stepRefused, hexec.trans (by rw [hf, htouch.keepIsland]), hcount, herr, evFrame_of_lt htouch fun _ => lt_of_mem_refusedRegs⟩

/-- The state of a step before the generators take it. -/
def State.stepCounted (s : State) (nt : BitVec 96) : State := ((s.setNt nt).cnt R.PTP_STEPS).fire 1121

theorem stepped_eq (s : State) (nt : BitVec 96) : s.stepped nt = (s.stepCounted nt).tpStepped := rfl

theorem rd_setNt (s : State) (nt : BitVec 96) (a : Nat) : (s.setNt nt).rd a = s.rd a := rfl

theorem evTouches_stepCounted (s : State) (nt : BitVec 96) : evTouches (s.setNt nt) (s.stepCounted nt) (R.PTP_STEPS :: eventRegs 1121) :=
  ((evTouches_refl _ _).cnt (List.mem_cons_self ..)).fire _ (List.subset_cons_self _ _)

theorem ptp_not_mem {a : Nat} (ha : 0x44003c10 ≤ a) : a ∉ eventRegs 1121 := fun h => by
  have := mem_eventRegs_bounds (by decide) h
  omega

/-- A step sets network time, counts, and leaves PSTAT. -/
theorem stepped_time (s : State) (nt : BitVec 96) :
    (s.stepped nt).time.nt = nt ∧ (s.stepped nt).rd R.PTP_PSTAT = s.rd R.PTP_PSTAT ∧
      (s.stepped nt).rdN R.PTP_STEPS = min 0xffffffff (s.rdN R.PTP_STEPS + 1) := by
  obtain ⟨htime, hregs⟩ := timeKept_tpStepped (s.stepCounted nt)
  obtain ⟨hstate, hkept⟩ := evTouches_stepCounted s nt
  refine ⟨?_, ?_, ?_⟩
  · rw [stepped_eq, htime, hstate]
    rfl
  · rw [stepped_eq, hregs _ (by decide), hkept _ ?_, rd_setNt]
    exact fun h => (List.mem_cons.mp h).elim (fun h => absurd h (by decide)) (ptp_not_mem (by decide))
  · rw [State.rdN, stepped_eq, hregs _ (by decide), State.stepCounted, (evTouches_fire _ _).2 _ (ptp_not_mem (by decide))]
    exact rdN_cnt_same _

/-- With every generator at rest, nothing but the count and event 1121 reaches a register. -/
theorem readsKept_stepped (nt : BitVec 96) (h : ∀ k, k < 16 → s.tpRests k) :
    readsKept s (s.stepped nt) (R.PTP_STEPS :: eventRegs 1121) := by
  have hcounted := evTouches_stepCounted s nt
  obtain ⟨hstate, hregs, hmem⟩ := evFrame_of_lt hcounted fun a ha =>
    (List.mem_cons.mp ha).elim (fun h => h ▸ by decide) (lt_of_mem_eventRegs (by decide))
  have hrest (k : Nat) (hk : k < 16) : (s.stepCounted nt).tpRests k := by
    obtain ⟨hst, hedges, hactive⟩ := h k hk
    have htp : (s.stepCounted nt).tp k = s.tp k := by rw [State.tp, hstate]; rfl
    have htstat : (s.stepCounted nt).rd (R.TPG_TSTAT k) = s.rd (R.TPG_TSTAT k) := by
      refine hregs _ fun h => (List.mem_cons.mp h).elim (fun h => ?_) (ptp_not_mem ?_)
      all_goals simp only [R.TPG_TSTAT, R.PTP_STEPS] at *; omega
    exact ⟨by rw [State.tpState, gf_congr _ htstat]; exact hst, by rw [htp]; exact hedges, by rw [htp]; exact hactive⟩
  have htouch := tpTouches_tpStepped hrest
  exact ⟨fun a ha => (htouch.rd a).trans (hregs a ha), fun a => (htouch.rdByte a).trans (hmem a)⟩

/-- Nanoseconds are the upper 64 bits of network time. -/
theorem ofInt_toInt_mul (x : BitVec 64) : BitVec.ofInt 96 (x.toInt * 2 ^ 32) = x ++ 0#32 := by
  refine BitVec.eq_of_toNat_eq ?_
  have happend : (x ++ 0#32).toNat = x.toNat * 2 ^ 32 := by
    rw [BitVec.toNat_append, Nat.shiftLeft_eq, BitVec.toNat_ofNat, Nat.zero_mod, Nat.or_zero]
  have hx := x.isLt
  rw [BitVec.toNat_ofInt, happend, BitVec.toInt_eq_toNat_cond]
  split <;> omega

/-! LATCH (R351). -/

/-- A LO/HI pair just written reads the number. -/
theorem extract_append (v : BitVec 64) : v.extractLsb' 32 32 ++ v.extractLsb' 0 32 = v := by
  rw [BitVec.extractLsb'_append_extractLsb'_eq_extractLsb' (by rfl)]
  simp

theorem nsBits_append_nsFrac (s : State) : s.nsBits ++ s.nsFrac = s.time.nt := by
  rw [State.nsBits, State.nsFrac, BitVec.extractLsb'_append_extractLsb'_eq_extractLsb' (by rfl)]
  simp

/-- VALID is set, SEQ counts, and the bits between stay (R379). -/
theorem seqBump_fields (x : Word) : (bit 31).get (seqBump x) = 1 ∧ (⟨0, 16⟩ : Fld).get (seqBump x) = ((⟨0, 16⟩ : Fld).get x + 1) % 65536 ∧
    (⟨16, 15⟩ : Fld).get (seqBump x) = (⟨16, 15⟩ : Fld).get x := by
  refine ⟨?_, ?_, ?_⟩
  · exact Fld.get_put _ _ _ (by decide)
  · rw [seqBump, Fld.get_put_ne _ _ _ _ (by decide), Fld.get_put _ _ _ (by decide)]
    rfl
  · rw [seqBump, Fld.get_put_ne _ _ _ _ (by decide), Fld.get_put_ne _ _ _ _ (by decide)]

theorem regFrame_ptpLatch (s : State) : regFrame s (ptpLatch s) [R.PTP_LATCH_LO, R.PTP_LATCH_HI, R.PTP_LATCH_FRAC, R.PTP_LATCH_STAT] := by
  unfold ptpLatch State.wr64
  exact ((((regFrame.refl s _).wr _ (by simp) (not_placesBytes (by decide))).wr _ (by simp) (not_placesBytes (by decide))).wr _ (by simp)
    (not_placesBytes (by decide))).wr _ (by simp) (not_placesBytes (by decide))

theorem rd_ptpLatch_time (s : State) :
    (ptpLatch s).rd R.PTP_LATCH_HI ++ (ptpLatch s).rd R.PTP_LATCH_LO ++ (ptpLatch s).rd R.PTP_LATCH_FRAC = s.time.nt := by
  have hhi : (ptpLatch s).rd R.PTP_LATCH_HI = s.nsBits.extractLsb' 32 32 := by
    rw [ptpLatch, rd_wr_ne _ _ (by decide), rd_wr_ne _ _ (by decide), State.wr64, rd_wr_same]
  have hlo : (ptpLatch s).rd R.PTP_LATCH_LO = s.nsBits.extractLsb' 0 32 := by
    rw [ptpLatch, rd_wr_ne _ _ (by decide), rd_wr_ne _ _ (by decide), State.wr64, rd_wr_ne _ _ (by decide), rd_wr_same]
  have hfrac : (ptpLatch s).rd R.PTP_LATCH_FRAC = s.nsFrac := by
    rw [ptpLatch, rd_wr_ne _ _ (by decide), rd_wr_same]
    rfl
  rw [hhi, hlo, hfrac, extract_append, nsBits_append_nsFrac]

theorem rd_ptpLatch_stat (s : State) : (ptpLatch s).rd R.PTP_LATCH_STAT = seqBump (s.rd R.PTP_LATCH_STAT) := by
  rw [ptpLatch, rd_wr_same, rd_wr_ne _ _ (by decide), State.wr64, rd_wr_ne _ _ (by decide), rd_wr_ne _ _ (by decide)]

/-! Registers written before a step. -/

/-- A register elsewhere leaves a generator at rest. -/
theorem State.tpRests.regFrame {l : List Nat} (h : s.tpRests k) (hf : regFrame s t l) (hk : R.TPG_TSTAT k ∉ l) : t.tpRests k := by
  obtain ⟨hst, hedges, hactive⟩ := h
  obtain ⟨hstate, hregs, -⟩ := hf
  have htp : t.tp k = s.tp k := by rw [State.tp, hstate]; rfl
  exact ⟨by rw [State.tpState, gf_congr _ (hregs _ hk)]; exact hst, by rw [htp]; exact hedges, by rw [htp]; exact hactive⟩

/-- Reads kept from a state that keeps reads too. -/
theorem readsKept.after {l m : List Nat} (h' : readsKept t u (m)) (h : readsKept s t l) : readsKept s u (l ++ m) := by
  obtain ⟨hregs, hmem⟩ := h
  obtain ⟨hregs', hmem'⟩ := h'
  refine ⟨fun a ha => ?_, fun a => (hmem' a).trans (hmem a)⟩
  rw [List.mem_append, not_or] at ha
  exact (hregs' a ha.2).trans (hregs a ha.1)

/-! INCR_NS (R347). -/

/-- Registers written, and the time base. -/
theorem regFrame.setTime {l : List Nat} (h : regFrame s u l) (x : TimeBase) :
    { u with time := x }.keepIsland s = { u with time := x } ∧ { u with time := x } = { s with regs := u.regs, time := x } ∧
      readsKept s { u with time := x } l ∧ ∀ a, { u with time := x }.rdN a = u.rdN a := by
  obtain ⟨hstate, hreads⟩ := h
  refine ⟨?_, ?_, hreads, fun _ => rfl⟩
  · rw [hstate]
    rfl
  · rw [hstate]

/-- The increment that a write of INCR_NS asks for, in units of 2⁻³² ns. -/
def State.incrOf (s : State) (v : Word) : Nat := v.toNat % 16 * 2 ^ 32 + s.rdN R.PTP_INCR_FRAC

theorem incrNsWrite_of_range {v : Word} (hlow : 7992 * 2 ^ 32 ≤ s.incrOf v * 1000) (hhigh : s.incrOf v * 1000 ≤ 8008 * 2 ^ 32) :
    incrNsWrite v s = { s.wrN R.PTP_INCR_NS (v.toNat % 16) with time := { s.time with incr := BitVec.ofNat 96 (s.incrOf v) } } :=
  if_pos (by simp only [Bool.and_eq_true, decide_eq_true_eq]; exact ⟨hlow, hhigh⟩)

theorem incrNsWrite_of_outside {v : Word} (h : s.incrOf v * 1000 < 7992 * 2 ^ 32 ∨ 8008 * 2 ^ 32 < s.incrOf v * 1000) :
    incrNsWrite v s = s.ptpErr 1 := by
  refine if_neg ?_
  simp only [Bool.and_eq_true, decide_eq_true_eq]
  exact fun ⟨hlow, hhigh⟩ => h.elim (fun h => absurd hlow (Nat.not_le.mpr h)) (fun h => absurd hhigh (Nat.not_le.mpr h))

variable {l : List Nat}

/-! ARM (R355, R356). -/

/-- Only generator `k`, the listed registers and what has left the block differ. -/
def tpFrame (s t : State) (k : Nat) (l : List Nat) : Prop :=
  (∀ j, j ≠ k → t.tp j = s.tp j) ∧ t = { s with regs := t.regs, tps := t.tps, outbox := t.outbox } ∧ readsKept s t l

theorem tpFrame.refl (s : State) (k : Nat) (l : List Nat) : tpFrame s s k l := ⟨fun _ _ => rfl, rfl, fun _ _ => rfl, fun _ => rfl⟩

theorem tpFrame.trans (h : tpFrame s t k l) (h' : tpFrame t u k l) : tpFrame s u k l := by
  obtain ⟨htp, hstate, hregs, hmem⟩ := h
  obtain ⟨htp', hstate', hregs', hmem'⟩ := h'
  exact ⟨fun j hj => (htp' j hj).trans (htp j hj), by rw [hstate', hstate], fun a ha => (hregs' a ha).trans (hregs a ha),
    fun a => (hmem' a).trans (hmem a)⟩

theorem tpFrame.setTp (h : tpFrame s t k l) (x : TpX) : tpFrame s (t.setTp k x) k l :=
  h.trans ⟨fun _ hj => tp_setTp_ne x hj, rfl, fun _ _ => rfl, fun _ => rfl⟩

theorem tpFrame.emit (h : tpFrame s t k l) (o : Output) : tpFrame s (t.emit o) k l :=
  h.trans ⟨fun _ _ => rfl, rfl, fun _ _ => rfl, fun _ => rfl⟩

theorem tpFrame.wr (h : tpFrame s t k l) {a : Nat} (v : Word) (ha : a ∈ l) (hlt : a < 0x48000018) : tpFrame s (t.wr a v) k l :=
  h.trans ⟨fun _ _ => rfl, rfl, ((regFrame.refl t l).wr v ha (not_placesBytes (.inl hlt))).2⟩

theorem tpFrame.keepIsland (h : tpFrame s t k l) : t.keepIsland s = t := by
  obtain ⟨-, hstate, -⟩ := h
  rw [hstate]
  rfl

/-- The registers of a generator that ARM writes. -/
def armRegs (k : Nat) : List Nat := [R.TPG_TSTAT k, R.TPG_NEXT_LO k, R.TPG_NEXT_HI k]

theorem tpFrame.setTpState (h : tpFrame s t k (armRegs k)) (hk : k < 16) (st : Nat) : tpFrame s (t.setTpState k st) k (armRegs k) :=
  h.wr _ (by simp [armRegs]) (by simp only [R.TPG_TSTAT]; omega)

theorem tpFrame.tpNext (h : tpFrame s t k (armRegs k)) (hk : k < 16) : tpFrame s (t.tpNext k) k (armRegs k) :=
  tpFrame.wr (h.wr _ (by simp [armRegs]) (by simp only [R.TPG_NEXT_LO]; omega)) _ (by simp [armRegs]) (by simp only [R.TPG_NEXT_HI]; omega)

/-- The parameters as the registers give them, in quarters of a ns (R356). -/
def State.tpStart (s : State) (k : Nat) : Int := (s.rd (R.TPG_START_HI k) ++ s.rd (R.TPG_START_LO k)).toInt * 4 + s.gf (R.TPG_FRAC k) ⟨0, 2⟩
def State.tpPer (s : State) (k : Nat) : Nat := s.rdN (R.TPG_PERIOD k) * 4 + s.gf (R.TPG_FRAC k) ⟨2, 2⟩
def State.tpWid (s : State) (k : Nat) : Nat := s.rdN (R.TPG_WIDTH k) * 4 + s.gf (R.TPG_FRAC k) ⟨4, 2⟩
def State.tpMode1 (s : State) (k : Nat) : Bool := s.on (R.TPG_TCTL k) F.TPG_TCTL_START_MODE

/-- Are they valid (R356)? -/
def State.tpValid (s : State) (k : Nat) : Prop :=
  32 ≤ s.tpWid k ∧ (s.rdN (R.TPG_COUNT k) = 1 ∨ s.tpWid k + 32 ≤ s.tpPer k) ∧ (s.tpMode1 k = true → 1024 ≤ s.tpStart k)

/-- What ARM latches. -/
def State.tpLatched (s : State) (k : Nat) : TpX :=
  { per := s.tpPer k, wid := s.tpWid k, count := s.rdN (R.TPG_COUNT k), mode1 := s.tpMode1 k, start := s.tpStart k,
    outEn := s.on (R.TPG_TCTL k) F.TPG_TCTL_OUT_EN, pol := s.on (R.TPG_TCTL k) F.TPG_TCTL_POL }

/-- The generator ARMED. -/
def State.tpArmed (s : State) (k : Nat) : State := ((s.tpPol k).setTp k (s.tpLatched k)).setTpState k 1

/-- POL writes no register. -/
theorem rd_tpPol (s : State) (k a : Nat) : (s.tpPol k).rd a = s.rd a := by
  unfold State.tpPol
  dsimp only
  split <;> rfl

theorem tpFrame_tpPol (s : State) (k : Nat) : tpFrame s (s.tpPol k) k l := by
  unfold State.tpPol
  dsimp only
  split
  · exact .refl s k l
  · exact ((tpFrame.refl s k l).setTp _).emit _

/-- The idle level of a polarity that was not in force is driven. -/
theorem outbox_tpPol (s : State) (k : Nat) : (s.tpPol k).outbox =
    if (s.tp k).pol = s.on (R.TPG_TCTL k) F.TPG_TCTL_POL then s.outbox
    else .tpOut k (s.on (R.TPG_TCTL k) F.TPG_TCTL_POL) none :: s.outbox := by
  simp only [State.tpPol, beq_iff_eq]
  split <;> rfl

/-- The test of the parameters (R356). -/
def State.tpTest (s : State) (k : Nat) : Bool :=
  decide (32 ≤ s.tpWid k) && (s.rdN (R.TPG_COUNT k) == 1 || decide (s.tpWid k + 32 ≤ s.tpPer k)) &&
    (!s.tpMode1 k || decide (1024 ≤ s.tpStart k))

theorem tpTest_iff : s.tpTest k = true ↔ s.tpValid k := by
  unfold State.tpTest State.tpValid
  cases s.tpMode1 k <;> simp [and_assoc]

/-- ARM in IDLE tests the parameters, and latches them or refuses. -/
theorem tpArm_of_idle (h : s.tpState k = 0) : tpArm k s =
    if s.tpTest k then (if s.tpMode1 k then s.tpArmed k else (s.tpArmed k).tpRun k (s.tpStart k)) else s.tpErr k 2 := by
  have hon (f : Fld) : (s.tpPol k).on (R.TPG_TCTL k) f = s.on (R.TPG_TCTL k) f := on_congr f (rd_tpPol _ _ _)
  rw [State.tpArmed, State.tpLatched, ← hon F.TPG_TCTL_OUT_EN, ← hon F.TPG_TCTL_POL]
  exact if_neg (by simp [h])

theorem tpFrame_tpArmed (s : State) (hk : k < 16) : tpFrame s (s.tpArmed k) k (armRegs k) :=
  ((tpFrame_tpPol s k).setTp _).setTpState hk 1

/-- The generator RUNNING. -/
theorem tpFrame_tpRun (h : tpFrame s t k (armRegs k)) (hk : k < 16) (s0 : Int) : tpFrame s (t.tpRun k s0) k (armRegs k) :=
  ((h.setTp _).setTpState hk 2).tpNext hk

/-- A state just written is read, whatever NEXT shows. -/
theorem tpState_setTpState (s : State) (k : Nat) {st : Nat} (hst : st < 4) : (s.setTpState k st).tpState k = st :=
  (gf_sf_same _ _ _ (by decide)).trans (Nat.mod_eq_of_lt hst)

theorem tpState_tpNext (s : State) (k : Nat) : (s.tpNext k).tpState k = s.tpState k := by
  refine gf_congr _ ?_
  rw [State.tpNext, State.wr64, rd_wr_ne, rd_wr_ne]
  all_goals simp only [R.TPG_TSTAT, R.TPG_NEXT_LO, R.TPG_NEXT_HI, ne_eq]; omega

theorem tp_tpArmed (s : State) (k : Nat) : (s.tpArmed k).tp k = s.tpLatched k := tp_setTp_same ..

theorem tp_tpRun (s : State) (k : Nat) (s0 : Int) :
    (s.tpRun k s0).tp k = { s.tp k with s0 := s0, j := 0, edges := [], active := none, stop := false } := tp_setTp_same ..

theorem outbox_tpArmed (s : State) (k : Nat) : (s.tpArmed k).outbox = (s.tpPol k).outbox := rfl

theorem outbox_tpRun (s : State) (k : Nat) (s0 : Int) : (s.tpRun k s0).outbox = s.outbox := rfl

/-! The statements. -/

/-- Settles O47: SET and STEP are refused or go through `State.stepped`; LATCH and INCR_NS write their registers. -/
theorem timeBaseStepsSetsAndLatches : Obligations.TimeBaseStepsSetsAndLatches := by
  intro s hm
  have whole (f : State → State) : onMain true s f = .next ((f s).keepIsland s) := onMain_run f rfl hm
  refine ⟨fun hvalid => ?set, fun hvalid => ?setRefused, fun hmax => ?stepRefused, fun hmax => ?step, ?latch, fun v => ?incr⟩
  case set =>
    have heffect : ptpSet s = (s.sf R.PTP_PSTAT F.PTP_PSTAT_TIME_VALID 1).stepped (s.rd R.PTP_SET_HI ++ s.rd R.PTP_SET_LO ++ 0#32) :=
      if_neg (by simp [State.timeValid, hvalid])
    have hpstat : (s.sf R.PTP_PSTAT F.PTP_PSTAT_TIME_VALID 1).rd R.PTP_PSTAT = F.PTP_PSTAT_TIME_VALID.put (s.rd R.PTP_PSTAT) 1 := rd_wr_same _ _ _
    have hsteps : (s.sf R.PTP_PSTAT F.PTP_PSTAT_TIME_VALID 1).rd R.PTP_STEPS = s.rd R.PTP_STEPS := rd_sf_ne _ _ (by decide)
    have hframe : regFrame s (s.sf R.PTP_PSTAT F.PTP_PSTAT_TIME_VALID 1) [R.PTP_PSTAT] :=
      (regFrame.refl s _).sf _ _ (by simp) (not_placesBytes (by decide))
    have hexec := whole ptpSet
    rw [heffect] at hexec
    generalize s.sf R.PTP_PSTAT F.PTP_PSTAT_TIME_VALID 1 = valid at hpstat hsteps hframe hexec
    generalize s.rd R.PTP_SET_HI ++ s.rd R.PTP_SET_LO ++ 0#32 = nt at hexec ⊢
    obtain ⟨hnt, hpstat', hcount⟩ := stepped_time valid nt
    have hquiet (h : ∀ k, k < 16 → s.tpRests k) : readsKept s (valid.stepped nt) ([R.PTP_PSTAT, R.PTP_STEPS] ++ eventRegs 1121) :=
      (readsKept_stepped nt fun k hk => (h k hk).regFrame hframe (by simp only [R.TPG_TSTAT, R.PTP_PSTAT, List.mem_singleton]; omega)).after
        hframe.2
    rw [show valid.rdN R.PTP_STEPS = s.rdN R.PTP_STEPS from congrArg BitVec.toNat hsteps] at hcount
    rw [hpstat] at hpstat'
    generalize valid.stepped nt = u at hnt hpstat' hcount hquiet hexec
    exact ⟨u.keepIsland s, hexec, hnt, hpstat', hcount, hquiet⟩
  case setRefused => exact refuses_step (whole ptpSet) (if_pos hvalid)
  case stepRefused => exact refuses_step (whole ptpStep) (if_pos hmax)
  case step =>
    have heffect : ptpStep s = s.stepped (s.time.nt + (s.rd R.PTP_ADJ_HI ++ s.rd R.PTP_ADJ_LO ++ 0#32)) := by
      rw [← ofInt_toInt_mul]
      exact if_neg (Nat.not_lt.mpr hmax)
    obtain ⟨hnt, -, hcount⟩ := stepped_time s (s.time.nt + (s.rd R.PTP_ADJ_HI ++ s.rd R.PTP_ADJ_LO ++ 0#32))
    have hquiet := readsKept_stepped (s := s) (s.time.nt + (s.rd R.PTP_ADJ_HI ++ s.rd R.PTP_ADJ_LO ++ 0#32))
    have hexec := whole ptpStep
    rw [heffect] at hexec
    generalize s.stepped (s.time.nt + (s.rd R.PTP_ADJ_HI ++ s.rd R.PTP_ADJ_LO ++ 0#32)) = u at hnt hcount hquiet hexec
    exact ⟨u.keepIsland s, hexec, hnt, hcount, hquiet⟩
  case latch =>
    have hframe := regFrame_ptpLatch s
    have hstat := rd_ptpLatch_stat s
    obtain ⟨hvalid, hseq, hrest⟩ := seqBump_fields (s.rd R.PTP_LATCH_STAT)
    refine ⟨ptpLatch s, (whole ptpLatch).trans (by rw [hframe.keepIsland]), rd_ptpLatch_time s, ?_, ?_, ?_, hframe⟩
    · rw [State.on, State.gf, hstat, hvalid]
      rfl
    · rw [State.gf, hstat, hseq, State.gf]
    · rw [State.gf, hstat, hrest, State.gf]
  case incr =>
    intro inc
    have hinc : inc = s.incrOf v := rfl
    clear_value inc
    subst hinc
    refine ⟨fun hlow hhigh => ?_, fun h => refuses (whole (incrNsWrite v)) (incrNsWrite_of_outside h) (by decide) (by decide) (.inl (by decide))⟩
    have heffect := incrNsWrite_of_range hlow hhigh
    have hframe : regFrame s (s.wrN R.PTP_INCR_NS (v.toNat % 16)) [R.PTP_INCR_NS] :=
      (regFrame.refl s _).wr _ (by simp) (not_placesBytes (by decide))
    have hrd : (s.wrN R.PTP_INCR_NS (v.toNat % 16)).rdN R.PTP_INCR_NS = v.toNat % 16 := by
      rw [State.rdN, State.wrN, rd_wr_same, BitVec.toNat_ofNat]
      omega
    have hexec := whole (incrNsWrite v)
    rw [heffect] at hexec
    generalize s.wrN R.PTP_INCR_NS (v.toNat % 16) = u at hexec hframe hrd
    generalize ({ s.time with incr := BitVec.ofNat 96 (s.incrOf v) } : TimeBase) = x at hexec ⊢
    obtain ⟨hkeep, hstate, hreads, hrdN⟩ := hframe.setTime x
    exact ⟨{ u with time := x }, hexec.trans (by rw [hkeep]), (hrdN _).trans hrd, rfl, hstate, hreads⟩

/-- Settles O48: in IDLE the test decides between the latch and the error. -/
theorem pulseGeneratorArmsOnlyWithValidParameters : Obligations.PulseGeneratorArmsOnlyWithValidParameters := by
  intro s k hk hm
  have run := onMain_unit (tpArm k) hm hk
  refine ⟨fun hidle hvalid => ?latched, fun hidle hinvalid => ?refused, fun hbusy => ?ignored⟩
  case latched =>
    have heffect := (tpArm_of_idle hidle).trans (if_pos (tpTest_iff.mpr hvalid))
    have harmed := tpFrame_tpArmed s hk
    have htp := tp_tpArmed s k
    have hout := (outbox_tpArmed s k).trans (outbox_tpPol s k)
    cases hmode : s.on (R.TPG_TCTL k) F.TPG_TCTL_START_MODE with
    | true =>
      have hkeep := harmed.keepIsland
      obtain ⟨hothers, hstate, hreads⟩ := harmed
      rw [if_pos (show s.tpMode1 k = true from hmode)] at heffect
      exact ⟨s.tpArmed k, run.trans (by rw [heffect, hkeep]), tpState_setTpState _ k (by decide), congrArg TpX.per htp, congrArg TpX.wid htp,
        congrArg TpX.count htp, congrArg TpX.outEn htp, congrArg TpX.pol htp, nofun, hothers, hout, hstate, hreads⟩
    | false =>
      have hrun := tpFrame_tpRun harmed hk (s.tpStart k)
      have hkeep := hrun.keepIsland
      have htp' := tp_tpRun (s.tpArmed k) k (s.tpStart k)
      obtain ⟨hothers, hstate, hreads⟩ := hrun
      rw [if_neg (by rw [show s.tpMode1 k = false from hmode]; exact Bool.false_ne_true)] at heffect
      rw [htp] at htp'
      exact ⟨(s.tpArmed k).tpRun k (s.tpStart k), run.trans (by rw [heffect, hkeep]),
        (tpState_tpNext _ k).trans (tpState_setTpState _ k (by decide)), congrArg TpX.per htp', congrArg TpX.wid htp',
        congrArg TpX.count htp', congrArg TpX.outEn htp', congrArg TpX.pol htp', fun _ => congrArg TpX.s0 htp', hothers,
        (outbox_tpRun _ k _).trans hout, hstate, hreads⟩
  case refused =>
    have heffect := (tpArm_of_idle hidle).trans (if_neg (mt tpTest_iff.mp hinvalid))
    refine refuses run heffect ⟨?_, ?_⟩ ?_ (.inl ?_)
    all_goals simp only [siteTp, R.TPG_TERR]; omega
  case ignored =>
    have heffect : tpArm k s = s := if_pos (by simpa using hbusy)
    exact run.trans (by rw [heffect, (evTouches_refl s []).keepIsland])

end Sys2Proof.Machine
end

section
/-! The system SRAM (R366, R374, R390): where a piece within a word stands, and what stands in its word. -/

namespace Sys2Proof.Machine

variable {s t u : State}

/-! Pieces of an SRAM word. -/

/-- `n` bytes from `a` on lie in one 64-bit word of the system SRAM (R390). -/
structure InSramWord (a n : Nat) : Prop where
  low : 0x08000000 ≤ a
  fits : a % 8 + n ≤ 8
  high : a + n ≤ 0x08800000
  pos : 0 < n

/-- Below DRAM an address is the place of its byte. -/
theorem loc_of_lt (s : State) {a : Nat} (h : a < 0x100000000) : s.loc a = a := by
  have hdram : inDram a = false := by simp only [inDram, Bool.and_eq_false_iff, decide_eq_false_iff_not]; omega
  unfold State.loc
  cases s.migCh <;> simp [hdram]

theorem InSramWord.inSram {a n : Nat} (h : InSramWord a n) : inSram a = true := by
  obtain ⟨hlow, -, hhigh, hpos⟩ := h
  simp only [Machine.inSram, Bool.and_eq_true, decide_eq_true_eq]
  omega

/-- Bytes that a multiple of `u` does not cut are one span. -/
theorem spans_of_fits {u a n : Nat} (hpos : 0 < n) (hfits : a % u + n ≤ u) : spans u a n = [(a, n)] := by
  have hcount : (a % u + n + u - 1) / u = 1 := Nat.div_eq_of_lt_le (by omega) (by omega)
  have hdiv : a / u * u + a % u = a := Nat.div_add_mod' a u
  have hnext : (a / u + 1) * u = a / u * u + u := Nat.succ_mul _ _
  simp only [spans, hcount, beq_iff_eq, show n ≠ 0 by omega, if_false, List.range_one, List.map_cons, List.map_nil, Nat.add_zero, hnext,
    show max a (a / u * u) = a by omega, show min (a + n) (a / u * u + u) - a = n by omega]

theorem InSramWord.spans_word {a n : Nat} (h : InSramWord a n) : spans 8 a n = [(a, n)] := spans_of_fits h.pos h.fits

theorem InSramWord.spans_block {a n : Nat} (h : InSramWord a n) : spans 64 a n = [(a, n)] := by
  have hfits := h.fits
  exact spans_of_fits h.pos (by omega)

theorem InSramWord.memRead {a n : Nat} (h : InSramWord a n) (s : State) : s.memRead a n = s.sramEcc a := by
  simp [State.memRead, pieceSize, h.inSram, h.spans_word, State.readPiece]

theorem InSramWord.memPut {a n : Nat} (h : InSramWord a n) (s : State) {d : List (BitVec 8)} (hd : d.length = n) :
    s.memPut a d = s.putPiece a d := by
  simp [State.memPut, pieceSize, h.inSram, hd, h.spans_word, List.take_of_length_le hd.le]

/-- A byte of the piece stands in the piece's word and block. -/
theorem InSramWord.byte_bounds {a n i : Nat} (h : InSramWord a n) (hi : i < n) :
    a + i < 0x100000000 ∧ (a + i) / 64 = a / 64 := by
  obtain ⟨-, hfits, hhigh, -⟩ := h
  omega

/-! Bytes written. -/

/-- Writing bytes changes memory alone. -/
theorem wrBytes_eq (d : List (BitVec 8)) : ∀ (s : State) (a : Nat), s.wrBytes a d = { s with mem := (s.wrBytes a d).mem } := by
  induction d with
  | nil => exact fun s a => rfl
  | cons b d ih =>
    intro s a
    have hstep := ih (s.wrByte a b) (a + 1)
    exact hstep

/-- Below DRAM a list of bytes is found where it was written, and every other byte is as before. -/
theorem rawByte_wrBytes (d : List (BitVec 8)) : ∀ (s : State) (a : Nat), a + d.length ≤ 0x100000000 → ∀ b,
    (s.wrBytes a d).rawByte b = if a ≤ b ∧ b < a + d.length then d.getD (b - a) 0 else s.rawByte b := by
  induction d with
  | nil => exact fun s a _ b => (if_neg (by simp)).symm
  | cons v d ih =>
    intro s a h b
    rw [List.length_cons] at h ⊢
    rw [State.wrBytes, ih _ _ (by omega), State.wrByte, loc_of_lt s (by omega)]
    by_cases hb : b = a
    · subst hb
      rw [if_neg (by omega), if_pos (by omega), rawByte_setRaw_same, Nat.sub_self, List.getD_cons_zero]
    · rw [rawByte_setRaw_ne (s := s) v hb]
      by_cases hin : a + 1 ≤ b ∧ b < a + 1 + d.length
      · rw [if_pos hin, if_pos (by omega), show b - a = b - (a + 1) + 1 by omega, List.getD_cons_succ]
      · rw [if_neg hin, if_neg (by omega)]

/-! Errors that stand in words. -/

theorem wordErr_setWordErr_same (s : State) (p e : Nat) : (s.setWordErr p e).wordErr p = e := SMap.get_set_same ..

theorem wordErr_setWordErr_ne {p w : Nat} (e : Nat) (h : w ≠ p) : (s.setWordErr p e).wordErr w = s.wordErr w := SMap.get_set_ne _ _ _ h

theorem rawByte_of_mem (h : s.mem = t.mem) (b : Nat) : s.rawByte b = t.rawByte b := by rw [State.rawByte, h, State.rawByte]

theorem rawByte_setWordErr (s : State) (p e b : Nat) : (s.setWordErr p e).rawByte b = s.rawByte b := rfl

/-- The bytes of a word that holds free bits. -/
def State.wordFreed (s : State) (p : Nat) : State := times 8 (fun i t => t.setRaw (8 * p + i) ((s.freeBytes 8).getD i 0)) s

theorem freeWord_eq (s : State) (p : Nat) : s.freeWord p = { s with mem := (s.wordFreed p).mem, freeIx := s.freeIx + 8 } := by
  have hbytes : s.wordFreed p = { s with mem := (s.wordFreed p).mem } :=
    times_keeps (P := fun t => t = { s with mem := t.mem }) (fun i t h => by rw [h]; rfl) 8 s rfl
  have hword : s.freeWord p = { s.wordFreed p with freeIx := s.freeIx + 8 } := rfl
  rw [hword]
  generalize s.wordFreed p = u at hbytes ⊢
  rw [hbytes]

/-- Every other word keeps its bytes. -/
theorem rawByte_freeWord (s : State) {p b : Nat} (hb : b / 8 ≠ p) : (s.freeWord p).rawByte b = s.rawByte b := by
  refine (rawByte_of_mem (t := s.wordFreed p) (by rw [freeWord_eq]) b).trans ?_
  unfold State.wordFreed
  refine times_induction (P := fun _ t => t.rawByte b = s.rawByte b) rfl fun i t hi h => ?_
  rw [rawByte_setRaw_ne (s := t) _ (by omega), h]

/-- The worse of the error that stands in a word and the one that arises. -/
def worseErr (old ecc : Nat) : Nat := if ecc ≤ old then old else ecc

/-- Word `p` holds the error `e`, and with a double-bit error that has come anew free bits; nothing else differs. -/
structure UpsetTo (s t : State) (p e : Nat) : Prop where
  state : t = { s with mem := t.mem, memErr := t.memErr, freeIx := t.freeIx }
  err : t.wordErr p = e
  errs : ∀ w, w ≠ p → t.wordErr w = s.wordErr w
  bytes : ∀ b, b / 8 ≠ p → t.rawByte b = s.rawByte b
  data : e ≠ 2 ∨ s.wordErr p = 2 → t.mem = s.mem ∧ t.freeIx = s.freeIx

theorem upset_of_le {a ecc : Nat} (ha : a < 0x100000000) (h : ecc ≤ s.wordErr (a / 8)) : s.upset a ecc = s := by
  simp [State.upset, loc_of_lt s ha, h]

theorem upset_of_gt {a ecc : Nat} (ha : a < 0x100000000) (h : s.wordErr (a / 8) < ecc) (hecc : ecc < 3) :
    s.upset a ecc = (s.when (ecc != 1) (·.freeWord (a / 8))).setWordErr (a / 8) ecc := by
  simp [State.upset, loc_of_lt s ha, show ¬ ecc ≤ s.wordErr (a / 8) by omega, show ecc ≠ 0 by omega, show min ecc 2 = ecc by omega]

theorem UpsetTo.refl (s : State) {p e : Nat} (h : s.wordErr p = e) : UpsetTo s s p e :=
  ⟨rfl, h, fun _ _ => rfl, fun _ _ => rfl, fun _ => ⟨rfl, rfl⟩⟩

theorem upsetTo_setWordErr (s : State) (p e : Nat) : UpsetTo s (s.setWordErr p e) p e :=
  ⟨rfl, wordErr_setWordErr_same .., fun _ hw => wordErr_setWordErr_ne _ hw, fun _ _ => rfl, fun _ => ⟨rfl, rfl⟩⟩

/-- A word that `u` has given other bytes and a double-bit error. -/
theorem upsetTo_rewritten {p : Nat} (hu : u = { s with mem := u.mem, freeIx := u.freeIx })
    (hbytes : ∀ b, b / 8 ≠ p → u.rawByte b = s.rawByte b) (hnew : s.wordErr p ≠ 2) : UpsetTo s (u.setWordErr p 2) p 2 := by
  have herr : ∀ w, u.wordErr w = s.wordErr w := fun w => by rw [hu]; rfl
  refine ⟨?_, wordErr_setWordErr_same .., fun w hw => (wordErr_setWordErr_ne _ hw).trans (herr w),
    fun b hb => (rawByte_setWordErr ..).trans (hbytes b hb), fun hdata => absurd hdata (by simp [hnew])⟩
  rw [hu]
  rfl

/-- What befalls a word of the SRAM leaves the worse of the two errors in it (log 22). -/
theorem upsetTo_upset {a ecc : Nat} (ha : a < 0x100000000) (hecc : ecc < 3) :
    UpsetTo s (s.upset a ecc) (a / 8) (worseErr (s.wordErr (a / 8)) ecc) := by
  obtain h | h := Nat.lt_or_ge (s.wordErr (a / 8)) ecc
  · rw [upset_of_gt ha h hecc, worseErr, if_neg (by omega)]
    obtain rfl | rfl : ecc = 1 ∨ ecc = 2 := by omega
    · exact upsetTo_setWordErr s _ 1
    · rw [show (2 != 1) = true from rfl, State.when_true]
      exact upsetTo_rewritten (by rw [freeWord_eq]) (fun _ hb => rawByte_freeWord s hb) (by omega)
  · rw [upset_of_le ha h, worseErr, if_pos h]
    exact UpsetTo.refl s rfl

end Sys2Proof.Machine
end

section
/-! SECDED in reads of the system SRAM: corrected and uncorrectable errors (R390). -/

namespace Sys2Proof.Machine

variable {s t u : State}

/-! SECDED (R390). -/

theorem sramEcc_of_none {a : Nat} (h : s.wordErr (a / 8) = 0) : s.sramEcc a = (s, false) := by
  simp [State.sramEcc, h]

theorem sramEcc_of_one {a : Nat} (h : s.wordErr (a / 8) = 1) : s.sramEcc a = (s.sramCe.setWordErr (a / 8) 0, false) := by
  simp [State.sramEcc, h]

theorem sramEcc_of_two {a : Nat} (h : s.wordErr (a / 8) = 2) : s.sramEcc a = (s.sramUe (a / 8 * 8), true) := by
  simp [State.sramEcc, h]

/-- Setting one PEND bit clears none. -/
theorem irqPend_sf_one {src j : Nat} (h : s.irqPend j = true) : (s.sf (R.IRQC_PEND (src / 32)) (bit (src % 32)) 1).irqPend j = true := by
  unfold State.irqPend at h ⊢
  by_cases hword : j / 32 = src / 32
  · by_cases hbit : j % 32 = src % 32
    · rw [hword, hbit]
      exact on_sf_one _ _ (Nat.mod_lt _ (by decide))
    · rw [hword, State.on, gf_sf_ne _ _ _ _ (by simp only [bit]; omega)]
      rwa [hword] at h
  · exact (on_congr _ (rd_sf_ne _ _ (by simp only [R.IRQC_PEND]; omega))).trans h

/-- An error with an address takes its sticky bit as one without. -/
theorem rd_raiseAt_same {a n addr : Nat} {e : Site} (ha : a ∉ recordRegs e ++ eventRegs e.src) :
    (s.raiseAt a n e addr).rd a = (bit n).put (s.rd a) 1 := by
  rw [List.mem_append, not_or] at ha
  obtain ⟨hrec, hev⟩ := ha
  unfold State.raiseAt
  split
  · rename_i hon
    have hget : (bit n).get (s.rd a) = 1 := by simpa [State.on, State.gf] using hon
    rw [← hget, Fld.put_get]
  · rw [(evTouches_fire _ _).2 a hev, (evTouches_record _ _ _ _).2 a hrec]
    exact rd_wr_same _ _ _

/-- A source that pends goes on pending whatever fires. -/
theorem irqPend_fire_of_irqPend {j : Nat} (src : Nat) (hj : j < 1280) (h : s.irqPend j = true) : (s.fire src).irqPend j = true := by
  have hout : R.IRQC_PEND (j / 32) ∉ (List.range 260).map R.EVF_COINCIDE := fun h => by
    obtain ⟨n, hn, he⟩ := List.mem_map.mp h
    simp only [List.mem_range, R.EVF_COINCIDE, R.IRQC_PEND] at hn he
    omega
  have pulses {u v : State} (h : evTouches u v ((List.range 260).map R.EVF_COINCIDE)) : v.irqPend j = u.irqPend j := on_congr _ (h.2 _ hout)
  unfold State.fire
  split
  · exact h
  · refine (pulses ((((evTouches_pulses _ _ (fun _ h => channelsOf_lt h)).fixedWhen _ (by omega) (List.Subset.refl _)).fixedWhen _ (by omega)
      (List.Subset.refl _)).fixedWhen _ (by omega) (List.Subset.refl _))).trans ?_
    split
    · exact (on_congr _ (rd_cnt_ne (by simp only [R.IRQC_PEND, R.IRQC_MERGED]; omega))).trans h
    · exact irqPend_sf_one h

/-! A corrected error. -/

theorem pulseFrame_sramCe (s : State) : pulseFrame s s.sramCe (R.SYS_SRAM_CE :: eventRegs 2) :=
  ((pulseFrame.refl _ _).wr _ (by simp) (not_placesBytes (.inl (by decide)))).fireWhen true (by decide) (List.subset_cons_self _ _)

theorem rdN_sramCe (s : State) : s.sramCe.rdN R.SYS_SRAM_CE = min 0xffffffff (s.rdN R.SYS_SRAM_CE + 1) := by
  rw [State.sramCe, State.rdN, (evTouches_fire _ _).2 _ (fun h => absurd (mem_eventRegs_bounds (by decide) h).1 (by decide))]
  exact rdN_cnt_same _

theorem irqPend_sramCe (hm : s.mainReset = false) : s.sramCe.irqPend 2 = true := on_fire (s.cnt R.SYS_SRAM_CE) 2 (by decide) hm

/-! An uncorrectable error. -/

/-- The registers that an uncorrectable error may change. -/
def sramUeRegs : List Nat := [R.SYS_SRAM_UE, R.SYS_SRAM_ERR_LO, R.SYS_SRAM_ERR_HI] ++ errorRegs R.SYS_SYS_ERR siteSys ++ eventRegs 2

/-- The count and the address, before the error is raised. -/
def State.ueCaptured (s : State) (a : Nat) : State :=
  (s.cnt R.SYS_SRAM_UE).wr64 R.SYS_SRAM_ERR_LO R.SYS_SRAM_ERR_HI (BitVec.ofNat 64 a)

theorem sramUe_eq (s : State) (a : Nat) : s.sramUe a = ((s.ueCaptured a).raiseAt R.SYS_SYS_ERR 0 siteSys a).fire 2 := rfl

theorem evTouches_ueCaptured (s : State) (a : Nat) :
    evTouches s (s.ueCaptured a) [R.SYS_SRAM_UE, R.SYS_SRAM_ERR_LO, R.SYS_SRAM_ERR_HI] :=
  ((evTouches_refl _ _).cnt (by simp)).wr64 _ (by simp) (by simp)

theorem evTouches_sramUe (s : State) (a : Nat) : evTouches s (s.sramUe a) sramUeRegs := by
  refine evTouches.fire ?_ 2 (List.subset_append_right _ _)
  refine ((evTouches_ueCaptured s a).mono fun b hb => ?_).trans ((evTouches_raiseAt _ _ _ _ _).mono fun b hb => ?_)
  · exact List.mem_append_left _ (List.mem_append_left _ hb)
  · exact List.mem_append_left _ (List.mem_append_right _ hb)

/-- A register below the error record, SYS_ERR apart, is left as it was captured. -/
theorem rd_sramUe_of_lt {a b : Nat} (hb : b < 0x42200000) (hne : b ≠ R.SYS_SYS_ERR) : (s.sramUe a).rd b = (s.ueCaptured a).rd b := by
  have hspan : b ∉ recordRegs siteSys ++ eventRegs siteSys.src := fun h => by
    have := (mem_recordRegs_append_eventRegs_bounds (by decide) (by decide) h).1
    omega
  have hev : b ∉ eventRegs 2 := fun h => by
    have := (mem_eventRegs_bounds (by decide) h).1
    omega
  rw [sramUe_eq, (evTouches_fire _ _).2 _ hev, (evTouches_raiseAt _ _ _ _ _).2 _ (fun h => (List.mem_cons.mp h).elim hne hspan)]

theorem rdN_sramUe (s : State) (a : Nat) : (s.sramUe a).rdN R.SYS_SRAM_UE = min 0xffffffff (s.rdN R.SYS_SRAM_UE + 1) := by
  rw [State.rdN, rd_sramUe_of_lt (by decide) (by decide), State.ueCaptured, State.wr64, rd_wr_ne _ _ (by decide), rd_wr_ne _ _ (by decide)]
  exact rdN_cnt_same _

theorem rd64N_sramUe {a : Nat} (ha : a < 2 ^ 32) : (s.sramUe a).rd64N R.SYS_SRAM_ERR_LO R.SYS_SRAM_ERR_HI = a := by
  rw [State.rd64N, State.rd64, rd_sramUe_of_lt (by decide) (by decide), rd_sramUe_of_lt (by decide) (by decide), State.ueCaptured, State.wr64,
    rd_wr_same, rd_wr_ne _ _ (by decide), rd_wr_same, BitVec.extractLsb'_append_extractLsb'_eq_extractLsb' (by rfl)]
  simp
  omega

theorem rd_ueCaptured_sysErr (s : State) (a : Nat) : (s.ueCaptured a).rd R.SYS_SYS_ERR = s.rd R.SYS_SYS_ERR :=
  (evTouches_ueCaptured s a).2 _ (by decide)

theorem rd_sramUe_sysErr (s : State) (a : Nat) : (s.sramUe a).rd R.SYS_SYS_ERR = (bit 0).put (s.rd R.SYS_SYS_ERR) 1 := by
  have hspan : R.SYS_SYS_ERR ∉ recordRegs siteSys ++ eventRegs siteSys.src := fun h =>
    absurd (mem_recordRegs_append_eventRegs_bounds (by decide) (by decide) h).1 (by decide)
  have hev : R.SYS_SYS_ERR ∉ eventRegs 2 := fun h => absurd (mem_eventRegs_bounds (by decide) h).1 (by decide)
  rw [sramUe_eq, (evTouches_fire _ _).2 _ hev, rd_raiseAt_same hspan, rd_ueCaptured_sysErr]

theorem irqPend_sramUe (a : Nat) (hm : s.mainReset = false) : (s.sramUe a).irqPend 2 = true := by
  have hkept : ((s.ueCaptured a).raiseAt R.SYS_SYS_ERR 0 siteSys a).mainReset = false := by rw [(evTouches_raiseAt _ _ _ _ _).1]; exact hm
  exact on_fire _ 2 (by decide) hkept

/-- The first error since a clear fires source 1 as well. -/
theorem irqPend_sramUe_first (a : Nat) (hm : s.mainReset = false) (h : s.on R.SYS_SYS_ERR (bit 0) = false) :
    (s.sramUe a).irqPend 1 = true := by
  have hon : (s.ueCaptured a).on R.SYS_SYS_ERR (bit 0) = false := (on_congr _ (rd_ueCaptured_sysErr s a)).trans h
  have hkept : (((s.ueCaptured a).sf R.SYS_SYS_ERR (bit 0) 1).record siteSys 0 a).mainReset = false := by
    rw [(evTouches_record _ _ _ _).1]; exact hm
  refine irqPend_fire_of_irqPend 2 (by decide) ?_
  rw [← State.ueCaptured, State.raiseAt, if_neg (by simp [hon])]
  exact on_fire _ 1 (by decide) hkept

end Sys2Proof.Machine
end

section
/-! The caches, and what the masters find there and in the system SRAM (R366, R374). -/

namespace Sys2Proof.Machine

variable {s t u : State} {a n ecc : Nat} {m : Master}

/-! Lines of the caches (R366). -/

theorem map_ins {α β : Type} (f : α → β) (m : SMap α) (k : Nat) (v : α) :
    (SMap.ins m k v).map (fun e => (e.1, f e.2)) = SMap.ins (m.map fun e => (e.1, f e.2)) k (f v) := by
  induction m with
  | nil => rfl
  | cons e m ih =>
    obtain ⟨j, w⟩ := e
    simp only [SMap.ins, List.map_cons]
    split
    · rfl
    · split
      · rfl
      · rw [List.map_cons, ih]

theorem line?_setLine_same (s : State) (a : Nat) (l : CacheLine) : (s.setLine a l).line? a = some l := by
  rw [State.line?, State.setLine, map_ins some, SMap.get_ins_same]

theorem line?_setLine_ne {a b : Nat} (l : CacheLine) (h : b / 64 ≠ a / 64) : (s.setLine a l).line? b = s.line? b := by
  rw [State.line?, State.setLine, map_ins some, SMap.get_ins_ne _ _ _ h, State.line?]

theorem line?_congr {b : Nat} (hc : t.cache = s.cache) (hb : b / 64 = a / 64) : t.line? b = s.line? a := by
  rw [State.line?, hc, hb, State.line?]

/-- A byte that no line holds is memory's. -/
theorem cohByte_of_none (h : s.line? a = none) : s.cohByte a = s.rdByte a := by rw [State.cohByte, h]

/-! What a master sees (R374). -/

/-- Master `m` finds no copy of the block at `a` in the caches. -/
def uncachedFor (m : Master) (a : Nat) (s : State) : Prop := masterCoherent m s = false ∨ s.line? a = none

theorem masterCoherent_congr (hd : t.dmas = s.dmas) : masterCoherent m t = masterCoherent m s := by
  cases m <;> simp only [masterCoherent, State.dma, hd]

theorem uncachedFor.congr (h : uncachedFor m a s) (hd : t.dmas = s.dmas) (hc : t.cache = s.cache) : uncachedFor m a t :=
  h.imp (masterCoherent_congr hd).trans (line?_congr hc rfl).trans

/-- The master is no core, and so sees no write buffer. -/
def notHart (m : Master) : Prop := ∀ h p, m ≠ .hart h p

theorem memByte_of_notHart (hm : notHart m) (b : Nat) : s.memByte m b = if masterCoherent m s then s.cohByte b else s.rdByte b := by
  cases m with
  | hart h p => exact absurd rfl (hm h p)
  | _ => rfl

theorem InSramWord.bytes_of_uncached (hw : InSramWord a n) (hm : notHart m) (h : uncachedFor m a s) :
    (List.range n).map (fun i => s.memByte m (a + i)) = s.rdBytes a n := by
  refine List.map_congr_left fun i hi => ?_
  obtain ⟨-, hblock⟩ := hw.byte_bounds (List.mem_range.mp hi)
  rw [memByte_of_notHart hm]
  obtain hcoh | hline := h
  · rw [hcoh]; rfl
  · rw [cohByte_of_none ((line?_congr rfl hblock).trans hline), ite_self]

theorem InSramWord.bytes_of_cached (hm : notHart m) (hcoh : masterCoherent m s = true) :
    (List.range n).map (fun i => s.memByte m (a + i)) = s.cohBytes a n :=
  List.map_congr_left fun i _ => by rw [memByte_of_notHart hm, hcoh, if_pos rfl]

/-- A read that finds no copy reads the word. -/
theorem InSramWord.memAccess_of_uncached (hw : InSramWord a n) (h : uncachedFor m a s) : s.memAccess m a n = s.sramEcc a := by
  have hword := hw.memRead s
  unfold State.memAccess
  split
  · rename_i hcoh
    have hline : s.line? a = none := h.resolve_left (by simp [hcoh])
    simp [State.cohRead, hw.spans_block, hline, hword]
  · exact hword

theorem InSramWord.memAccess_of_cached (hw : InSramWord a n) (hcoh : masterCoherent m s = true) (hline : (s.line? a).isSome = true) :
    s.memAccess m a n = (s, false) := by
  simp [State.memAccess, hcoh, State.cohRead, hw.spans_block, hline]

/-! Writes of a piece. -/

theorem InSramWord.putPiece_clean (hw : InSramWord a n) {d : List (BitVec 8)} (hd : d.length = n) (h : n = 8 ∨ s.wordErr (a / 8) = 0) :
    s.putPiece a d = ((s.wrBytes a d).setWordErr (a / 8) 0, false) := by
  have hfits := hw.fits
  obtain h8 | hnone := h
  · have hwhole : partialWord a d.length = false := by simp [partialWord, hd]; omega
    simp [State.putPiece, hw.inSram, hwhole]
  · simp [State.putPiece, hw.inSram, sramEcc_of_none hnone]

theorem InSramWord.isPartial (hw : InSramWord a n) (hn : n < 8) : partialWord a n = true := by
  have hpos := hw.pos
  simp [partialWord]
  omega

theorem InSramWord.putPiece_corrected (hw : InSramWord a n) {d : List (BitVec 8)} (hd : d.length = n) (hn : n < 8)
    (h : s.wordErr (a / 8) = 1) : s.putPiece a d = (((s.sramCe.setWordErr (a / 8) 0).wrBytes a d).setWordErr (a / 8) 0, false) := by
  simp [State.putPiece, hw.inSram, hd, hw.isPartial hn, sramEcc_of_one h]

theorem InSramWord.putPiece_abandoned (hw : InSramWord a n) {d : List (BitVec 8)} (hd : d.length = n) (hn : n < 8)
    (h : s.wordErr (a / 8) = 2) : s.putPiece a d = (s.sramUe (a / 8 * 8), true) := by
  simp [State.putPiece, hw.inSram, hd, hw.isPartial hn, sramEcc_of_two h]

/-- A write that finds no copy writes the word. -/
theorem InSramWord.memStore_of_uncached (hw : InSramWord a n) {d : List (BitVec 8)} (hd : d.length = n) (h : uncachedFor m a s)
    (hc : (s.putPiece a d).1.cache = s.cache) : s.memStore m a d = s.putPiece a d := by
  have hword := hw.memPut s hd
  unfold State.memStore
  split
  · rename_i hcoh
    have hline : s.line? a = none := h.resolve_left (by simp [hcoh])
    have hline' : (s.putPiece a d).1.line? a = none := (line?_congr hc rfl).trans hline
    generalize s.putPiece a d = y at hword hline' ⊢
    obtain ⟨v, bad⟩ := y
    cases bad <;> simp [State.cohPut, hd, hw.spans_block, List.take_of_length_le hd.le, hword, hline']
  · exact hword

/-! What an access reaches. -/

/-- Only what an access to the SRAM reaches differs. -/
def ramTouches (s t : State) : Prop :=
  t = { s with regs := t.regs, chanIn := t.chanIn, fixedIn := t.fixedIn, errAt := t.errAt, mem := t.mem, memErr := t.memErr,
               freeIx := t.freeIx, cache := t.cache, wbuf := t.wbuf, outbox := t.outbox }

theorem ramTouches.keepIsland (h : ramTouches s t) : t.keepIsland s = t := by
  rw [h]
  rfl

/-- An access within a word out of reset, by its effect. -/
theorem InSramWord.exec_of_effect (hw : InSramWord a n) (hecc : ecc < 3) (hm : s.mainReset = false) {data : Option (List (BitVec 8))}
    (heffect : sramAccess m a n data ecc s = t) (h : ramTouches s t) : exec (.sramAccess m a n data ecc) s = .next t := by
  obtain ⟨hlow, hfits, hhigh, -⟩ := hw
  refine (onMain_run (sramAccess m a n data ecc) (by simp [hlow, hfits, hhigh, hecc]) hm).trans ?_
  rw [heffect, h.keepIsland]

/-- The effect of a read that finds no copy. -/
theorem InSramWord.sramAccess_read (hw : InSramWord a n) (hm : notHart m) (h : uncachedFor m a s)
    (hu : uncachedFor m a (s.upset a ecc)) (hy : uncachedFor m a ((s.upset a ecc).sramEcc a).1) : sramAccess m a n none ecc s =
      ((s.upset a ecc).sramEcc a).1.emit (.busResp m ((s.upset a ecc).sramEcc a).2 (leNat (((s.upset a ecc).sramEcc a).1.rdBytes a n))) := by
  have hcached : (masterCoherent m s && (s.line? a).isSome) = false := by
    obtain h | h := h <;> simp [h]
  have hread := hw.memAccess_of_uncached hu
  have hbytes := hw.bytes_of_uncached hm hy
  unfold sramAccess
  rw [hcached]
  cases m with
  | hart i p => exact absurd rfl (hm i p)
  | _ => simp only [Bool.false_eq_true, if_false, hread, hbytes]

end Sys2Proof.Machine
end

section
/-! Reads of the system SRAM by masters that are no cores: frames and plain reads (R374, R390). -/

namespace Sys2Proof.Machine

variable {s t u : State} {a n ecc : Nat} {m : Master}

/-! The outcomes of a word's state. -/

theorem worseErr_eq_zero {old : Nat} (h : worseErr old ecc = 0) : old = 0 ∧ ecc = 0 := by
  unfold worseErr at h
  split at h <;> omega

theorem InSramWord.lt (hw : InSramWord a n) : a < 2 ^ 32 := by
  have hhigh := hw.high
  omega

theorem InSramWord.lt_dram (hw : InSramWord a n) : a < 0x100000000 := hw.lt

theorem InSramWord.upset (hw : InSramWord a n) (hecc : ecc < 3) {e : Nat} (he : worseErr (s.wordErr (a / 8)) ecc = e) :
    UpsetTo s (s.upset a ecc) (a / 8) e := he ▸ upsetTo_upset hw.lt_dram hecc

section
variable {p e : Nat} (hup : UpsetTo s u p e)
include hup

theorem UpsetTo.rd (b : Nat) : u.rd b = s.rd b := by rw [hup.state]; rfl
theorem UpsetTo.mainReset : u.mainReset = s.mainReset := by rw [hup.state]
theorem UpsetTo.cache : u.cache = s.cache := by rw [hup.state]
theorem UpsetTo.dmas : u.dmas = s.dmas := by rw [hup.state]
theorem UpsetTo.outbox : u.outbox = s.outbox := by rw [hup.state]

/-- Where the data stay, only the errors of words differ. -/
theorem UpsetTo.kept (h : e ≠ 2 ∨ s.wordErr p = 2) : u = { s with memErr := u.memErr } := by
  obtain ⟨hmem, hfree⟩ := hup.data h
  have hstate := hup.state
  rw [hmem, hfree] at hstate
  exact hstate

end

/-- The state of a corrected word: counted, and no error left in it. -/
def State.corrected (s : State) (p : Nat) : State := s.sramCe.setWordErr p 0

/-- A correction keeps every byte, and every register but the count and those of its event. -/
theorem corrected_frame (s : State) (p : Nat) :
    s.corrected p = { s with regs := (s.corrected p).regs, chanIn := (s.corrected p).chanIn, fixedIn := (s.corrected p).fixedIn,
                             memErr := (s.corrected p).memErr } ∧
      readsKept s (s.corrected p) (R.SYS_SRAM_CE :: eventRegs 2) := by
  have hce := pulseFrame_sramCe s
  unfold State.corrected
  generalize s.sramCe = v at hce ⊢
  obtain ⟨hframe, hregs, hbytes⟩ := hce
  refine ⟨?_, fun b hb => (hregs b hb), fun b => Eq.trans ?_ (hbytes b)⟩
  · rw [hframe]
    rfl
  · rfl

/-- What SECDED leaves of a read word's state: no line, descriptor or byte of it. -/
theorem sramEcc_frame (s : State) (b : Nat) : (s.sramEcc b).1 =
    { s with regs := (s.sramEcc b).1.regs, chanIn := (s.sramEcc b).1.chanIn, fixedIn := (s.sramEcc b).1.fixedIn,
             errAt := (s.sramEcc b).1.errAt, memErr := (s.sramEcc b).1.memErr } := by
  have hce := (corrected_frame s (b / 8)).1
  have hue := (evTouches_sramUe s (b / 8 * 8)).1
  unfold State.corrected at hce
  unfold State.sramEcc
  dsimp only
  split
  · generalize s.sramCe.setWordErr (b / 8) 0 = v at hce ⊢
    rw [hce]
  · split
    · generalize s.sramUe (b / 8 * 8) = v at hue ⊢
      rw [hue]
    · rfl

/-! Reads. -/

/-- The effect of a read that finds no copy, by what has befallen the word. -/
theorem InSramWord.read_effect (hw : InSramWord a n) (hecc : ecc < 3) (hm : notHart m) (h : uncachedFor m a s) :
    sramAccess m a n none ecc s =
      ((s.upset a ecc).sramEcc a).1.emit (.busResp m ((s.upset a ecc).sramEcc a).2 (leNat (((s.upset a ecc).sramEcc a).1.rdBytes a n))) := by
  have hup := hw.upset (s := s) hecc rfl
  have hu : uncachedFor m a (s.upset a ecc) := h.congr hup.dmas hup.cache
  have hframe := sramEcc_frame (s.upset a ecc) a
  refine hw.sramAccess_read hm h hu (hu.congr ?_ ?_)
  · rw [hframe]
  · rw [hframe]

/-- A read of a word without an error. -/
theorem InSramWord.exec_read_clean (hw : InSramWord a n) (hecc : ecc < 3) (hr : s.mainReset = false) (hm : notHart m)
    (h : uncachedFor m a s) (he : worseErr (s.wordErr (a / 8)) ecc = 0) :
    exec (.sramAccess m a n none ecc) s = .next (s.emit (.busResp m false (leNat (s.rdBytes a n)))) := by
  obtain ⟨hnone, h0⟩ := worseErr_eq_zero he
  have heffect := hw.read_effect hecc hm h
  rw [upset_of_le hw.lt_dram (by omega), sramEcc_of_none hnone] at heffect
  exact hw.exec_of_effect hecc hr heffect rfl

/-- A read of a copy. -/
theorem InSramWord.exec_read_cached (hw : InSramWord a n) (hecc : ecc < 3) (hr : s.mainReset = false) (hm : notHart m)
    (hcoh : masterCoherent m s = true) (hline : (s.line? a).isSome = true) :
    exec (.sramAccess m a n none ecc) s = .next (s.emit (.busResp m false (leNat (s.cohBytes a n)))) := by
  refine hw.exec_of_effect hecc hr ?_ rfl
  have hread := hw.memAccess_of_cached hcoh hline
  have hbytes := InSramWord.bytes_of_cached (a := a) (n := n) hm hcoh
  unfold sramAccess
  rw [hcoh, hline]
  cases m with
  | hart i p => exact absurd rfl (hm i p)
  | _ => simp only [Bool.and_self, Bool.false_eq_true, if_true, if_false, hread, hbytes]

end Sys2Proof.Machine
end

section
/-! Reads of the system SRAM that meet an error (R390). -/

namespace Sys2Proof.Machine

variable {s t u v : State} {a n ecc p : Nat} {m : Master}

/-- A correction counts once and fires source 2. -/
theorem corrected_counts (hr : s.mainReset = false) : (s.corrected p).rdN R.SYS_SRAM_CE = min 0xffffffff (s.rdN R.SYS_SRAM_CE + 1) ∧
    (s.corrected p).irqPend 2 = true := ⟨rdN_sramCe s, irqPend_sramCe hr⟩

theorem wordErr_corrected_same : (s.corrected p).wordErr p = 0 := wordErr_setWordErr_same ..

theorem wordErr_corrected_ne {w : Nat} (h : w ≠ p) : (s.corrected p).wordErr w = s.wordErr w := by
  have hframe := (pulseFrame_sramCe s).1
  rw [State.corrected, wordErr_setWordErr_ne _ h]
  generalize s.sramCe = v at hframe ⊢
  rw [hframe]
  rfl

/-- What a correction answers, where the word's error has come anew or stood in it. -/
structure CorrectedIn (s t : State) (p : Nat) : Prop where
  state : t = { s with regs := t.regs, chanIn := t.chanIn, fixedIn := t.fixedIn, memErr := t.memErr }
  count : t.rdN R.SYS_SRAM_CE = min 0xffffffff (s.rdN R.SYS_SRAM_CE + 1)
  event : t.irqPend 2 = true
  err : t.wordErr p = 0
  errs : ∀ w, w ≠ p → t.wordErr w = s.wordErr w
  reads : readsKept s t (R.SYS_SRAM_CE :: eventRegs 2)

theorem UpsetTo.correctedIn (hup : UpsetTo s u p 1) (hr : s.mainReset = false) : CorrectedIn s (u.corrected p) p := by
  obtain ⟨hframe, hregs, hbytes⟩ := corrected_frame u p
  obtain ⟨hcount, hevent⟩ := corrected_counts (p := p) (hup.mainReset.trans hr)
  have herrs : ∀ w, w ≠ p → (u.corrected p).wordErr w = s.wordErr w := fun w hw => (wordErr_corrected_ne hw).trans (hup.errs w hw)
  have hbase : ∀ b, u.rdByte b = s.rdByte b := fun b => by rw [hup.kept (.inl (by decide))]; rfl
  have hcount0 : u.rdN R.SYS_SRAM_CE = s.rdN R.SYS_SRAM_CE := congrArg BitVec.toNat (hup.rd _)
  refine ⟨?_, by rw [hcount, hcount0], hevent, wordErr_corrected_same, herrs, fun b hb => (hregs b hb).trans (hup.rd b),
    fun b => (hbytes b).trans (hbase b)⟩
  generalize u.corrected p = v at hframe
  rw [hframe, hup.kept (.inl (by decide))]

/-- A read of a word with a single-bit error. -/
theorem InSramWord.exec_read_corrected (hw : InSramWord a n) (hecc : ecc < 3) (hr : s.mainReset = false) (hm : notHart m)
    (h : uncachedFor m a s) (he : worseErr (s.wordErr (a / 8)) ecc = 1) :
    ∃ t, exec (.sramAccess m a n none ecc) s = .next t ∧ t.rdN R.SYS_SRAM_CE = min 0xffffffff (s.rdN R.SYS_SRAM_CE + 1) ∧
      t.irqPend 2 = true ∧ t.wordErr (a / 8) = 0 ∧ (∀ w, w ≠ a / 8 → t.wordErr w = s.wordErr w) ∧
      t = { s with regs := t.regs, chanIn := t.chanIn, fixedIn := t.fixedIn, memErr := t.memErr,
                   outbox := .busResp m false (leNat (s.rdBytes a n)) :: s.outbox } ∧
      readsKept s t (R.SYS_SRAM_CE :: eventRegs 2) := by
  have heffect := hw.read_effect hecc hm h
  have hup := hw.upset hecc he
  have hc := hup.correctedIn hr
  rw [sramEcc_of_one hup.err, ← State.corrected] at heffect
  generalize (s.upset a ecc).corrected (a / 8) = v at heffect hc
  obtain ⟨hstate, hcount, hevent, herr, herrs, hregs, hbytes⟩ := hc
  have hdata : v.rdBytes a n = s.rdBytes a n := List.map_congr_left fun i _ => hbytes (a + i)
  rw [hdata] at heffect
  have hfinal : v.emit (.busResp m false (leNat (s.rdBytes a n))) = { s with
      regs := v.regs, chanIn := v.chanIn, fixedIn := v.fixedIn, memErr := v.memErr,
      outbox := .busResp m false (leNat (s.rdBytes a n)) :: s.outbox } := by rw [hstate]; rfl
  exact ⟨_, hw.exec_of_effect hecc hr heffect (by rw [hfinal]; rfl), hcount, hevent, herr, herrs, hfinal, hregs, hbytes⟩

/-! An error response (R390). -/

/-- Word `a / 8` holds a double-bit error that has been counted, captured and raised; the rest of memory is as it was. -/
def ueTaken (s t : State) (a : Nat) : Prop :=
  t.rdN R.SYS_SRAM_UE = min 0xffffffff (s.rdN R.SYS_SRAM_UE + 1) ∧
    t.rd64N R.SYS_SRAM_ERR_LO R.SYS_SRAM_ERR_HI = a / 8 * 8 ∧ t.rd R.SYS_SYS_ERR = (bit 0).put (s.rd R.SYS_SYS_ERR) 1 ∧
    t.irqPend 2 = true ∧ (s.on R.SYS_SYS_ERR (bit 0) = false → t.irqPend 1 = true) ∧ t.wordErr (a / 8) = 2 ∧
    (∀ w, w ≠ a / 8 → t.wordErr w = s.wordErr w) ∧
    (∀ b, b / 8 ≠ a / 8 → t.rawByte b = s.rawByte b) ∧ (s.wordErr (a / 8) = 2 → ∀ b, t.rawByte b = s.rawByte b) ∧
    (∀ b, b ∉ sramUeRegs → t.rd b = s.rd b) ∧
    t = { s with regs := t.regs, chanIn := t.chanIn, fixedIn := t.fixedIn, errAt := t.errAt, mem := t.mem, memErr := t.memErr,
                 freeIx := t.freeIx, outbox := t.outbox }

theorem ueTaken_of_upset (hup : UpsetTo s u (a / 8) 2) (hr : s.mainReset = false) (ha : a < 2 ^ 32) (o : Output) :
    ueTaken s ((u.sramUe (a / 8 * 8)).emit o) a := by
  have hcount : (u.sramUe (a / 8 * 8)).rdN R.SYS_SRAM_UE = min 0xffffffff (s.rdN R.SYS_SRAM_UE + 1) := by
    rw [rdN_sramUe, State.rdN, hup.rd, State.rdN]
  have haddr := rd64N_sramUe (s := u) (a := a / 8 * 8) (by omega)
  have herr := (rd_sramUe_sysErr u (a / 8 * 8)).trans (by rw [hup.rd])
  have hevent := irqPend_sramUe (a / 8 * 8) (hup.mainReset.trans hr)
  have hfirst : s.on R.SYS_SYS_ERR (bit 0) = false → (u.sramUe (a / 8 * 8)).irqPend 1 = true := fun h =>
    irqPend_sramUe_first _ (hup.mainReset.trans hr) ((on_congr _ (hup.rd _)).trans h)
  obtain ⟨hstate, hregs⟩ := evTouches_sramUe u (a / 8 * 8)
  generalize u.sramUe (a / 8 * 8) = v at hcount haddr herr hevent hfirst hstate hregs ⊢
  have hwords : ∀ w, v.wordErr w = u.wordErr w := fun w => by rw [hstate]; rfl
  have hmem : v.mem = u.mem := by rw [hstate]
  refine ⟨hcount, haddr, herr, hevent, hfirst, (hwords _).trans hup.err, fun w hw => (hwords w).trans (hup.errs w hw),
    fun b hb => (rawByte_of_mem hmem b).trans (hup.bytes b hb),
    fun h2 b => (rawByte_of_mem hmem b).trans (rawByte_of_mem (hup.data (.inr h2)).1 b),
    fun b hb => (hregs b hb).trans (hup.rd b), ?_⟩
  rw [hstate, hup.state]
  rfl

theorem ueTaken.ramTouches (h : ueTaken s t a) : ramTouches s t := by
  obtain ⟨-, -, -, -, -, -, -, -, -, -, hstate⟩ := h
  rw [hstate]
  rfl

/-- A read of a word with a double-bit error. -/
theorem InSramWord.exec_read_abandoned (hw : InSramWord a n) (hecc : ecc < 3) (hr : s.mainReset = false) (hm : notHart m)
    (h : uncachedFor m a s) (he : worseErr (s.wordErr (a / 8)) ecc = 2) :
    ∃ t, exec (.sramAccess m a n none ecc) s = .next t ∧ ueTaken s t a ∧ t.outbox = .busResp m true (leNat (t.rdBytes a n)) :: s.outbox := by
  have heffect := hw.read_effect hecc hm h
  have hup := hw.upset hecc he
  rw [sramEcc_of_two hup.err] at heffect
  have hue := ueTaken_of_upset hup hr hw.lt (.busResp m true (leNat (((s.upset a ecc).sramUe (a / 8 * 8)).rdBytes a n)))
  have hbox : ((s.upset a ecc).sramUe (a / 8 * 8)).outbox = s.outbox := by rw [(evTouches_sramUe _ _).1]; exact hup.outbox
  generalize (s.upset a ecc).sramUe (a / 8 * 8) = v at heffect hue hbox
  refine ⟨_, hw.exec_of_effect hecc hr heffect hue.ramTouches, hue, ?_⟩
  rw [State.emit, hbox]
  rfl

end Sys2Proof.Machine
end

section
/-! Writes to the system SRAM by masters that are no cores (R374, R390). -/

namespace Sys2Proof.Machine

variable {s t u v : State} {a n ecc p : Nat} {m : Master} {d : List (BitVec 8)}

/-! Writes. -/

/-- The bytes of a piece in their word, which holds no error afterwards. -/
def State.stored (s : State) (a : Nat) (d : List (BitVec 8)) : State := (s.wrBytes a d).setWordErr (a / 8) 0

theorem stored_state (s : State) (a : Nat) (d : List (BitVec 8)) :
    s.stored a d = { s with mem := (s.stored a d).mem, memErr := (s.stored a d).memErr } := by
  have hbytes := wrBytes_eq d s a
  unfold State.stored
  generalize s.wrBytes a d = v at hbytes ⊢
  rw [hbytes]
  rfl

theorem wordErr_stored_same : (s.stored a d).wordErr (a / 8) = 0 := wordErr_setWordErr_same ..

theorem wordErr_stored_ne {w : Nat} (h : w ≠ a / 8) : (s.stored a d).wordErr w = s.wordErr w := by
  have hbytes := wrBytes_eq d s a
  rw [State.stored, wordErr_setWordErr_ne _ h]
  generalize s.wrBytes a d = v at hbytes ⊢
  rw [hbytes]
  rfl

theorem InSramWord.rawByte_stored (hw : InSramWord a n) (hd : d.length = n) (s : State) (b : Nat) :
    (s.stored a d).rawByte b = if a ≤ b ∧ b < a + n then d.getD (b - a) 0 else s.rawByte b := by
  have hhigh := hw.high
  rw [State.stored, rawByte_setWordErr, rawByte_wrBytes d s a (by omega), hd]

/-- The effect of a write of a master that is no core. -/
theorem write_effect (hm : notHart m) (hd : d.length = n) : sramAccess m a n (some d) ecc s =
    ((if partialWord a n then s.upset a ecc else s).memStore m a d).1.emit
      (.busResp m ((if partialWord a n then s.upset a ecc else s).memStore m a d).2 0) := by
  cases m with
  | hart i p => exact absurd rfl (hm i p)
  | _ => simp only [sramAccess, List.take_of_length_le hd.le]

/-- A whole word's write reads nothing, and a word without an error is as it was. -/
theorem InSramWord.written_word (hw : InSramWord a n) (h : n = 8 ∨ worseErr (s.wordErr (a / 8)) ecc = 0) :
    (if partialWord a n then s.upset a ecc else s) = s ∧ (n = 8 ∨ s.wordErr (a / 8) = 0) := by
  have hfits := hw.fits
  obtain h8 | he := h
  · exact ⟨if_neg (by simp [partialWord]; omega), .inl h8⟩
  · obtain ⟨hnone, h0⟩ := worseErr_eq_zero he
    rw [upset_of_le hw.lt_dram (by omega), ite_self]
    exact ⟨rfl, .inr hnone⟩

/-- A write of a whole word, or of part of one without an error. -/
theorem InSramWord.exec_write_clean (hw : InSramWord a n) (hecc : ecc < 3) (hr : s.mainReset = false) (hm : notHart m) (hd : d.length = n)
    (hun : uncachedFor m a s) (h : n = 8 ∨ worseErr (s.wordErr (a / 8)) ecc = 0) :
    ∃ t, exec (.sramAccess m a n (some d) ecc) s = .next t ∧ t.wordErr (a / 8) = 0 ∧
      (∀ w, w ≠ a / 8 → t.wordErr w = s.wordErr w) ∧
      (∀ b, t.rawByte b = if a ≤ b ∧ b < a + n then d.getD (b - a) 0 else s.rawByte b) ∧
      t = { s with mem := t.mem, memErr := t.memErr, outbox := .busResp m false 0 :: s.outbox } := by
  obtain ⟨hbase, hclean⟩ := hw.written_word h
  have hput : s.putPiece a d = (s.stored a d, false) := hw.putPiece_clean hd hclean
  have hstate := stored_state s a d
  have hstore := hw.memStore_of_uncached hd hun (by rw [hput, hstate])
  have heffect := write_effect (s := s) (a := a) (ecc := ecc) hm hd
  rw [hbase, hstore, hput] at heffect
  have herrs : ∀ w, w ≠ a / 8 → (s.stored a d).wordErr w = s.wordErr w := fun w hw => wordErr_stored_ne hw
  have herr : (s.stored a d).wordErr (a / 8) = 0 := wordErr_stored_same
  have hbytes := hw.rawByte_stored hd s
  generalize s.stored a d = v at heffect hstate herrs herr hbytes
  have hfinal : v.emit (.busResp m false 0) = { s with mem := v.mem, memErr := v.memErr, outbox := .busResp m false 0 :: s.outbox } := by
    rw [hstate]; rfl
  exact ⟨_, hw.exec_of_effect hecc hr heffect (by rw [hfinal]; rfl), herr, herrs, hbytes, hfinal⟩

/-- A partial write of a word with a single-bit error. -/
theorem InSramWord.exec_write_corrected (hw : InSramWord a n) (hecc : ecc < 3) (hr : s.mainReset = false) (hm : notHart m) (hd : d.length = n)
    (hun : uncachedFor m a s) (hn : n < 8) (he : worseErr (s.wordErr (a / 8)) ecc = 1) :
    ∃ t, exec (.sramAccess m a n (some d) ecc) s = .next t ∧
      (∀ b, t.rawByte b = if a ≤ b ∧ b < a + n then d.getD (b - a) 0 else s.rawByte b) ∧ t.wordErr (a / 8) = 0 ∧
      (∀ w, w ≠ a / 8 → t.wordErr w = s.wordErr w) ∧
      t.rdN R.SYS_SRAM_CE = min 0xffffffff (s.rdN R.SYS_SRAM_CE + 1) ∧ t.irqPend 2 = true ∧
      (∀ b, b ∉ R.SYS_SRAM_CE :: eventRegs 2 → t.rd b = s.rd b) ∧
      t = { s with regs := t.regs, chanIn := t.chanIn, fixedIn := t.fixedIn, mem := t.mem, memErr := t.memErr,
                   outbox := .busResp m false 0 :: s.outbox } := by
  have hup := hw.upset hecc he
  have hc := hup.correctedIn hr
  have hput : (s.upset a ecc).putPiece a d = (((s.upset a ecc).corrected (a / 8)).stored a d, false) :=
    hw.putPiece_corrected hd hn hup.err
  have heffect := write_effect (s := s) (a := a) (ecc := ecc) hm hd
  rw [if_pos (hw.isPartial hn)] at heffect
  have hun' := hun.congr hup.dmas hup.cache
  have hcache := hup.cache
  generalize s.upset a ecc = u at hc hput heffect hun' hcache
  generalize u.corrected (a / 8) = v at hc hput
  obtain ⟨hstate, hcount, hevent, herr, herrs, hregs, -⟩ := hc
  have hstored := stored_state v a d
  have hkeep : v.cache = u.cache := by rw [hstate]; exact hcache.symm
  have hstore := hw.memStore_of_uncached hd hun' (by rw [hput, hstored]; exact hkeep)
  rw [hstore, hput] at heffect
  have hmem : v.mem = s.mem := by rw [hstate]
  have herr' : (v.stored a d).wordErr (a / 8) = 0 := wordErr_stored_same
  have herrs' : ∀ w, w ≠ a / 8 → (v.stored a d).wordErr w = s.wordErr w := fun w hw => (wordErr_stored_ne hw).trans (herrs w hw)
  have hbytes : ∀ b, (v.stored a d).rawByte b = if a ≤ b ∧ b < a + n then d.getD (b - a) 0 else s.rawByte b := fun b => by
    rw [hw.rawByte_stored hd v b, rawByte_of_mem hmem]
  have hrd : ∀ b, (v.stored a d).rd b = v.rd b := fun b => by
    generalize v.stored a d = w at hstored ⊢
    rw [hstored]; rfl
  generalize v.stored a d = w at heffect hstored herr' herrs' hbytes hrd
  have hfinal : w.emit (.busResp m false 0) = { s with
      regs := w.regs, chanIn := w.chanIn, fixedIn := w.fixedIn, mem := w.mem, memErr := w.memErr,
      outbox := .busResp m false 0 :: s.outbox } := by
    rw [hstored, hstate]; rfl
  exact ⟨_, hw.exec_of_effect hecc hr heffect (by rw [hfinal]; rfl), hbytes, herr', herrs', (congrArg BitVec.toNat (hrd _)).trans hcount,
    (on_congr _ (hrd _)).trans hevent, fun b hb => (hrd b).trans (hregs b hb), hfinal⟩

/-- A partial write of a word with a double-bit error. -/
theorem InSramWord.exec_write_abandoned (hw : InSramWord a n) (hecc : ecc < 3) (hr : s.mainReset = false) (hm : notHart m) (hd : d.length = n)
    (hun : uncachedFor m a s) (hn : n < 8) (he : worseErr (s.wordErr (a / 8)) ecc = 2) :
    ∃ t, exec (.sramAccess m a n (some d) ecc) s = .next t ∧ ueTaken s t a ∧ t.outbox = .busResp m true 0 :: s.outbox := by
  have hup := hw.upset hecc he
  have hput := hw.putPiece_abandoned hd hn hup.err
  have hframe := (evTouches_sramUe (s.upset a ecc) (a / 8 * 8)).1
  have hstore := hw.memStore_of_uncached hd (hun.congr hup.dmas hup.cache) (by rw [hput, hframe])
  have heffect := write_effect (s := s) (a := a) (ecc := ecc) hm hd
  rw [if_pos (hw.isPartial hn), hstore, hput] at heffect
  have hue := ueTaken_of_upset hup hr hw.lt (.busResp m true 0)
  have hbox : ((s.upset a ecc).sramUe (a / 8 * 8)).outbox = s.outbox := by rw [hframe]; exact hup.outbox
  generalize (s.upset a ecc).sramUe (a / 8 * 8) = v at heffect hue hbox
  refine ⟨_, hw.exec_of_effect hecc hr heffect hue.ramTouches, hue, ?_⟩
  rw [State.emit, hbox]

/-- A write that a cached copy takes with memory. -/
theorem InSramWord.exec_write_cached (hw : InSramWord a n) (hecc : ecc < 3) (hr : s.mainReset = false) (hm : notHart m) (hd : d.length = n)
    {l : CacheLine} (hcoh : masterCoherent m s = true) (hline : s.line? a = some l) (h : n = 8 ∨ worseErr (s.wordErr (a / 8)) ecc = 0) :
    ∃ t, exec (.sramAccess m a n (some d) ecc) s = .next t ∧
      (∀ b, t.rawByte b = if a ≤ b ∧ b < a + n then d.getD (b - a) 0 else s.rawByte b) ∧
      t.line? a = some { l with data := l.data.take (a % 64) ++ d ++ l.data.drop (a % 64 + n) } ∧
      (∀ b, b / 64 ≠ a / 64 → t.line? b = s.line? b) ∧
      t = { s with mem := t.mem, memErr := t.memErr, cache := t.cache, outbox := .busResp m false 0 :: s.outbox } := by
  obtain ⟨hbase, hclean⟩ := hw.written_word h
  have hput : s.memPut a d = (s.stored a d, false) := (hw.memPut s hd).trans (hw.putPiece_clean hd hclean)
  have hstate := stored_state s a d
  have hbytes := hw.rawByte_stored hd s
  have heffect := write_effect (s := s) (a := a) (ecc := ecc) hm hd
  rw [hbase] at heffect
  generalize s.stored a d = v at hput hstate hbytes
  have hcache : v.cache = s.cache := by rw [hstate]
  have hcopy : v.line? a = some l := (line?_congr hcache rfl).trans hline
  have hstore : s.memStore m a d = (v.setLine a { l with data := l.data.take (a % 64) ++ d ++ l.data.drop (a % 64 + n) }, false) := by
    simp [State.memStore, hcoh, State.cohPut, hd, hw.spans_block, List.take_of_length_le hd.le, hput, hcopy]
  rw [hstore] at heffect
  have hfinal (l : CacheLine) : (v.setLine a l).emit (.busResp m false 0) = { s with
      mem := v.mem, memErr := v.memErr, cache := (v.setLine a l).cache, outbox := .busResp m false 0 :: s.outbox } := by
    rw [hstate]; rfl
  refine ⟨_, hw.exec_of_effect hecc hr heffect (by rw [hfinal]; rfl), hbytes, line?_setLine_same .., fun b hb => ?_, hfinal _⟩
  exact (line?_setLine_ne (s := v) _ hb).trans (line?_congr hcache rfl)

end Sys2Proof.Machine
end

section
/-! The harts' stores and hits, and the words of a line (R374). -/

namespace Sys2Proof.Machine

variable {s t u v : State} {a n ecc p h : Nat} {priv : Bool} {d : List (BitVec 8)}

/-! The harts (R374). -/

/-- A hart's store waits in its write buffer. -/
theorem InSramWord.exec_hart_store (hw : InSramWord a n) (hecc : ecc < 3) (hr : s.mainReset = false) (hd : d.length = n) :
    exec (.sramAccess (.hart h priv) a n (some d) ecc) s
      = .next ({ s with wbuf := s.wbuf ++ [({ hart := h, addr := a, data := d } : WbEnt)] }.emit (.busResp (.hart h priv) false 0)) :=
  hw.exec_of_effect hecc hr (by simp only [sramAccess, List.take_of_length_le hd.le]) rfl

/-- A hart's load of a line that the caches hold. -/
theorem InSramWord.exec_hart_hit (hw : InSramWord a n) (hecc : ecc < 3) (hr : s.mainReset = false) (hline : (s.line? a).isSome = true) :
    exec (.sramAccess (.hart h priv) a n none ecc) s
      = .next (s.emit (.busResp (.hart h priv) false (leNat ((List.range n).map fun i => s.hartByte h (a + i))))) := by
  have hfill : s.fillLine a = (s, false) := by rw [State.fillLine, if_pos hline]
  have hread := hw.memAccess_of_cached (m := .hart h priv) rfl hline
  refine hw.exec_of_effect hecc hr ?_ rfl
  unfold sramAccess
  simp only [hline, masterCoherent, Bool.and_self, if_true, hfill, Bool.false_eq_true, if_false, hread, State.when_false]
  rfl

/-! The words of a line. -/

/-- A read of the words at `l` one after the other: the state, and an error response or not. -/
def State.eccAll (s : State) (l : List Nat) : State × Bool :=
  l.foldl (fun x b => ((x.1.sramEcc b).1, x.2 || (x.1.sramEcc b).2)) (s, false)

/-- The addresses of the words of the block at `a`. -/
def lineWords (a : Nat) : List Nat := (List.range 8).map fun i => a / 64 * 64 + 8 * i

theorem InSramWord.block_bounds (hw : InSramWord a n) : 0x08000000 ≤ a / 64 * 64 ∧ a / 64 * 64 + 64 ≤ 0x08800000 := by
  obtain ⟨hlow, -, hhigh, hpos⟩ := hw
  omega

theorem inSram_of_mem_lineWords (hw : InSramWord a n) {b : Nat} (hb : b ∈ lineWords a) : inSram b = true := by
  obtain ⟨hlow, hhigh⟩ := hw.block_bounds
  obtain ⟨i, hi, rfl⟩ := List.mem_map.mp hb
  have := List.mem_range.mp hi
  simp only [inSram, Bool.and_eq_true, decide_eq_true_eq]
  omega

theorem spans_line (a : Nat) : spans 8 (a / 64 * 64) 64 = (lineWords a).map fun b => (b, 8) := by
  have hmod : a / 64 * 64 % 8 = 0 := by omega
  simp only [spans, lineWords, hmod, List.map_map]
  refine List.map_congr_left fun i hi => ?_
  have hi8 : i < 8 := List.mem_range.mp hi
  simp only [Function.comp, Prod.mk.injEq]
  omega

/-- A fill reads the eight words of its line. -/
theorem InSramWord.memRead_line (hw : InSramWord a n) (s : State) : s.memRead (a / 64 * 64) 64 = s.eccAll (lineWords a) := by
  have hbase : Machine.inSram (a / 64 * 64) = true := inSram_of_mem_lineWords hw (List.mem_map.mpr ⟨0, by simp, rfl⟩)
  rw [State.memRead, pieceSize, hbase, if_pos rfl, spans_line, List.foldl_map, State.eccAll]
  refine List.foldl_ext _ _ _ fun x b hb => ?_
  rw [State.readPiece, if_pos (inSram_of_mem_lineWords hw hb)]

theorem eccAll_of_none {l : List Nat} (h : ∀ b ∈ l, s.wordErr (b / 8) = 0) : s.eccAll l = (s, false) := by
  unfold State.eccAll
  induction l with
  | nil => rfl
  | cons b l ih =>
    rw [List.foldl_cons, sramEcc_of_none (h b List.mem_cons_self)]
    exact ih fun c hc => h c (List.mem_cons_of_mem _ hc)

/-- What reads of words leave while word `p` holds a double-bit error. -/
structure FillKept (s t : State) (p : Nat) : Prop where
  state : t = { s with regs := t.regs, chanIn := t.chanIn, fixedIn := t.fixedIn, errAt := t.errAt, memErr := t.memErr }
  err : t.wordErr p = 2
  regs : ∀ b, b ∉ R.SYS_SRAM_CE :: sramUeRegs → t.rd b = s.rd b

theorem FillKept.mainReset (hk : FillKept s t p) : t.mainReset = s.mainReset := by rw [hk.state]

theorem rd_sramEcc {b c : Nat} (hc : c ∉ R.SYS_SRAM_CE :: sramUeRegs) : (s.sramEcc b).1.rd c = s.rd c := by
  obtain ⟨hce, hue⟩ := not_or.mp (fun h => hc (List.mem_cons.mpr h))
  have hev : c ∉ eventRegs 2 := fun h => hue (List.mem_append_right _ h)
  unfold State.sramEcc
  dsimp only
  split
  · exact (pulseFrame_sramCe s).2.1 c fun h => (List.mem_cons.mp h).elim hce hev
  · split
    · exact (evTouches_sramUe s _).2 c hue
    · rfl

theorem wordErr_sramEcc_two {b : Nat} (h : s.wordErr p = 2) : (s.sramEcc b).1.wordErr p = 2 := by
  have hue := (evTouches_sramUe s (b / 8 * 8)).1
  unfold State.sramEcc
  dsimp only
  split
  · rename_i hone
    have hne : p ≠ b / 8 := fun hp => by simp [← hp, h] at hone
    exact (wordErr_corrected_ne hne).trans h
  · split
    · generalize s.sramUe (b / 8 * 8) = v at hue ⊢
      rw [hue]; exact h
    · exact h

theorem FillKept.sramEcc (hk : FillKept s t p) (b : Nat) : FillKept s (t.sramEcc b).1 p := by
  refine ⟨?_, wordErr_sramEcc_two hk.err, fun c hc => (rd_sramEcc hc).trans (hk.regs c hc)⟩
  have hframe := sramEcc_frame t b
  generalize (t.sramEcc b).1 = v at hframe ⊢
  rw [hframe, hk.state]

theorem irqPend_sramEcc {b : Nat} (hr : s.mainReset = false) (h : s.irqPend 2 = true ∨ (s.sramEcc b).2 = true) :
    (s.sramEcc b).1.irqPend 2 = true := by
  unfold State.sramEcc at h ⊢
  dsimp only at h ⊢
  split
  · exact irqPend_sramCe hr
  · split
    · exact irqPend_sramUe _ hr
    · simp_all

/-- Reads of words with the bad one among them end in an error response, and source 2 pends. -/
theorem foldl_sramEcc_of_two (hr : s.mainReset = false) (l : List Nat) : ∀ x : State × Bool, FillKept s x.1 p →
    (x.2 = true → x.1.irqPend 2 = true) → (x.2 = true ∨ ∃ b ∈ l, b / 8 = p) →
    let y := l.foldl (fun x b => ((x.1.sramEcc b).1, x.2 || (x.1.sramEcc b).2)) x
    FillKept s y.1 p ∧ y.2 = true ∧ y.1.irqPend 2 = true := by
  induction l with
  | nil => exact fun x hk hev hbad => by simp_all
  | cons b l ih =>
    intro x hk hev hbad
    refine ih _ (hk.sramEcc b) (fun h => irqPend_sramEcc (hk.mainReset.trans hr) ?_) ?_
    · exact (Bool.or_eq_true _ _ ▸ h).imp_left hev
    · obtain hx | ⟨c, hc, hcp⟩ := hbad
      · exact .inl (by simp [hx])
      · obtain rfl | hc := List.mem_cons.mp hc
        · exact .inl (by simp [sramEcc_of_two (s := x.1) (a := c) (by rw [hcp]; exact hk.err)])
        · exact .inr ⟨c, hc, hcp⟩

theorem eccAll_of_two (hr : s.mainReset = false) (h : s.wordErr p = 2) {l : List Nat} (hl : ∃ b ∈ l, b / 8 = p) :
    FillKept s (s.eccAll l).1 p ∧ (s.eccAll l).2 = true ∧ (s.eccAll l).1.irqPend 2 = true :=
  foldl_sramEcc_of_two hr l (s, false) ⟨rfl, h, fun _ _ => rfl⟩ (fun hf => absurd hf (by simp)) (.inr hl)

end Sys2Proof.Machine
end

section
/-! The harts' fills, and the statement about the system SRAM (R366, R374, R390). -/

namespace Sys2Proof.Machine

variable {s t u v : State} {a n ecc p h : Nat} {priv : Bool} {d : List (BitVec 8)}

/-- A fill of an absent line while the caches have room. -/
theorem InSramWord.fillLine_eq (hw : InSramWord a n) (hline : s.line? a = none) (hroom : s.cache.length < cacheLines) :
    s.fillLine a = if (s.eccAll (lineWords a)).2 then s.eccAll (lineWords a) else
      ((s.eccAll (lineWords a)).1.setLine a { data := (s.eccAll (lineWords a)).1.rdBytes (a / 64 * 64) 64 }, false) := by
  have hread := hw.memRead_line s
  rw [State.fillLine, hline, if_neg (by simp), if_pos hroom]
  exact hread ▸ rfl

/-- The line just filled gives a hart the bytes of memory. -/
theorem InSramWord.hartByte_setLine (hw : InSramWord a n) (hline : s.line? a = none) {i : Nat} (hi : i < n) :
    (s.setLine a { data := s.rdBytes (a / 64 * 64) 64 }).hartByte h (a + i) = s.hartByte h (a + i) := by
  obtain ⟨-, hblock⟩ := hw.byte_bounds hi
  have hfilled : (s.setLine a { data := s.rdBytes (a / 64 * 64) 64 }).line? (a + i) = some { data := s.rdBytes (a / 64 * 64) 64 } :=
    (line?_congr rfl hblock).trans (line?_setLine_same ..)
  have hoff : (a + i) % 64 < 64 := Nat.mod_lt _ (by decide)
  have hcoh : (s.setLine a { data := s.rdBytes (a / 64 * 64) 64 }).cohByte (a + i) = s.cohByte (a + i) := by
    rw [cohByte_of_none ((line?_congr rfl hblock).trans hline), State.cohByte, hfilled]
    simp only [State.rdBytes, List.getD_eq_getElem?_getD, List.getElem?_map, List.getElem?_range hoff, Option.map_some, Option.getD_some]
    rw [show a / 64 * 64 + (a + i) % 64 = a + i by omega]
  unfold State.hartByte
  rw [hcoh]
  rfl

/-- A hart's load of an absent line without an error. -/
theorem InSramWord.exec_hart_fill (hw : InSramWord a n) (hr : s.mainReset = false) (hline : s.line? a = none)
    (hroom : s.cache.length < cacheLines) (hnone : ∀ i, i < 8 → s.wordErr (a / 64 * 8 + i) = 0) :
    exec (.sramAccess (.hart h priv) a n none 0) s = .next ((s.setLine a { data := s.rdBytes (a / 64 * 64) 64 }).emit
      (.busResp (.hart h priv) false (leNat ((List.range n).map fun i => s.hartByte h (a + i))))) := by
  have hwords : s.eccAll (lineWords a) = (s, false) := eccAll_of_none fun b hb => by
    obtain ⟨i, hi, rfl⟩ := List.mem_map.mp hb
    rw [show (a / 64 * 64 + 8 * i) / 8 = a / 64 * 8 + i by omega]
    exact hnone i (List.mem_range.mp hi)
  have hfill := hw.fillLine_eq hline hroom
  rw [hwords, if_neg (by simp)] at hfill
  have hbytes : (List.range n).map (fun i => (s.setLine a { data := s.rdBytes (a / 64 * 64) 64 }).hartByte h (a + i)) =
      (List.range n).map fun i => s.hartByte h (a + i) :=
    List.map_congr_left fun i hi => hw.hartByte_setLine hline (List.mem_range.mp hi)
  have hread : (s.setLine a { data := s.rdBytes (a / 64 * 64) 64 }).memAccess (.hart h priv) a n = (_, false) :=
    hw.memAccess_of_cached rfl (by rw [line?_setLine_same]; rfl)
  refine hw.exec_of_effect (by decide) hr ?_ rfl
  unfold sramAccess
  simp only [hline, Option.isSome_none, Bool.and_false, Bool.false_eq_true, if_false, upset_of_le hw.lt_dram (Nat.zero_le _), hfill, hread,
    State.when_false, State.memByte, hbytes]

/-- A hart's load of an absent line whose word has a double-bit error. -/
theorem InSramWord.exec_hart_abandoned (hw : InSramWord a n) (hecc : ecc < 3) (hr : s.mainReset = false) (hline : s.line? a = none)
    (hroom : s.cache.length < cacheLines) (he : worseErr (s.wordErr (a / 8)) ecc = 2) :
    ∃ t v, exec (.sramAccess (.hart h priv) a n none ecc) s = .next t ∧
      t.outbox = .coreTrap h 5 :: .busResp (.hart h priv) true v :: s.outbox ∧ t.irqPend 2 = true ∧ t.wordErr (a / 8) = 2 ∧
      (∀ b, b / 8 ≠ a / 8 → t.rawByte b = s.rawByte b) ∧ (∀ b, b ∉ R.SYS_SRAM_CE :: sramUeRegs → t.rd b = s.rd b) ∧
      t = { s with regs := t.regs, chanIn := t.chanIn, fixedIn := t.fixedIn, errAt := t.errAt, mem := t.mem, memErr := t.memErr,
                   freeIx := t.freeIx, outbox := t.outbox } := by
  have hup := hw.upset hecc he
  have hmem : ∃ b ∈ lineWords a, b / 8 = a / 8 :=
    ⟨a / 64 * 64 + 8 * (a % 64 / 8), List.mem_map.mpr ⟨a % 64 / 8, List.mem_range.mpr (by omega), rfl⟩, by omega⟩
  obtain ⟨hkept, hbad, hevent⟩ := eccAll_of_two (hup.mainReset.trans hr) hup.err hmem
  have hfill := hw.fillLine_eq (s := s.upset a ecc) ((line?_congr hup.cache rfl).trans hline) (by rw [hup.cache]; exact hroom)
  have heffect : sramAccess (.hart h priv) a n none ecc s = (((s.upset a ecc).fillLine a).1.emit (.busResp (.hart h priv) true
      (leNat ((List.range n).map fun i => ((s.upset a ecc).fillLine a).1.hartByte h (a + i))))).emit (.coreTrap h 5) := by
    rw [hbad, if_pos rfl] at hfill
    unfold sramAccess
    simp only [hline, Option.isSome_none, Bool.and_false, Bool.false_eq_true, if_false, hfill, hbad, if_true, State.when_true, State.memByte]
    rfl
  rw [hfill, hbad, if_pos rfl] at heffect
  generalize leNat _ = x at heffect
  generalize ((s.upset a ecc).eccAll (lineWords a)).1 = v at heffect hkept hevent
  generalize s.upset a ecc = u at hup hkept
  obtain ⟨hstate, herr, hregs⟩ := hkept
  have hfinal : (v.emit (.busResp (.hart h priv) true x)).emit (.coreTrap h 5) = { s with
      regs := v.regs, chanIn := v.chanIn, fixedIn := v.fixedIn, errAt := v.errAt, mem := v.mem, memErr := v.memErr, freeIx := v.freeIx,
      outbox := .coreTrap h 5 :: .busResp (.hart h priv) true x :: s.outbox } := by
    rw [hstate, hup.state]; rfl
  have hmem : v.mem = u.mem := by rw [hstate]
  exact ⟨_, x, hw.exec_of_effect hecc hr heffect (by rw [hfinal]; rfl), by rw [hfinal], hevent, herr,
    fun b hb => (rawByte_of_mem hmem b).trans (hup.bytes b hb), fun b hb => (hregs b hb).trans (hup.rd b), by rw [hfinal]⟩

/-! The statement. -/

/-- Settles O53: a copy in the caches answers alone; else the worse of the two errors decides, for reads, whole and partial writes, and fills. -/
theorem sramAccessesFollowSecded : Obligations.SramAccessesFollowSecded := by
  intro s a n ecc hlow hfits hhigh hpos hecc hr old e ueRegs ue
  have hw : InSramWord a n := ⟨hlow, hfits, hhigh, hpos⟩
  refine ⟨fun m hm => ⟨fun hcoh hline => hw.exec_read_cached hecc hr hm hcoh hline, fun hun => ⟨fun he => ?clean, fun he => ?corrected,
    fun he => ?abandoned⟩, fun d hd hun => ⟨fun hclean => ?writeClean, fun hn he => ?writeCorrected, fun hn he => ?writeAbandoned⟩,
    fun d l hd hcoh hline hclean => ?writeCached⟩, fun h priv d _ hd => hw.exec_hart_store hecc hr hd, fun h priv _ =>
    ⟨fun hline => hw.exec_hart_hit hecc hr hline, fun hline hroom hnone h0 => ?fill, fun hline hroom he => ?trap⟩⟩
  case clean => exact hw.exec_read_clean hecc hr hm hun he
  case corrected => exact hw.exec_read_corrected hecc hr hm hun he
  case abandoned => exact hw.exec_read_abandoned hecc hr hm hun he
  case writeClean => exact hw.exec_write_clean hecc hr hm hd hun hclean
  case writeCorrected => exact hw.exec_write_corrected hecc hr hm hd hun hn he
  case writeAbandoned => exact hw.exec_write_abandoned hecc hr hm hd hun hn he
  case writeCached => exact hw.exec_write_cached hecc hr hm hd hcoh hline hclean
  case fill => exact h0 ▸ hw.exec_hart_fill hr hline hroom hnone
  case trap => exact hw.exec_hart_abandoned hecc hr hline hroom he

end Sys2Proof.Machine
end
